-- ==== Sys2Proof/Word.lean ====
section
/-! DEFINITION. The word types of the two serial interfaces and the names that command operands use.
Temperatures are `Int` in tenths of a degree, currents `Nat` in deciamps, times `Nat` in the unit their
name says (00_scope.md, Conventions). -/

namespace Sys2Proof

/-- One byte of the appliance link. -/
abbrev Byte := BitVec 8

/-- A 16-bit value of the appliance link: a configuration value, a profile word, an event detail. -/
abbrev Half := BitVec 16

/-- The two switch inputs of LCK (R43). -/
inductive SwitchId where
  | door
  | latch
deriving DecidableEq, Repr

/-- The three RTD channels of TMS (R60). -/
inductive Channel where
  | a
  | b
  | l
deriving DecidableEq, Repr

end Sys2Proof
end

