-- ==== Sys2Proof/Syntax.lean ====
section
/-! DEFINITION. The commands and events of spec/opcode_table.json, one constructor a row, in the table's order,
with the operands that the chapters give them. -/

namespace Sys2Proof

/-- A step of the C710. Link commands carry their parameter bytes as received (R172). -/
inductive Instr where
  | powerOnReset
  | resetn
  | readStatus
  | readTemps
  | readShare
  | readPeer (index : Byte)
  | readCycle
  | readFaults
  | configPut (item : Byte) (value : Half)
  | configGet (item : Byte)
  | configCommit
  | profileSeek (index : Byte) (mode : Byte)
  | profilePut (word : Half)
  | profileGet
  | start
  | abort
  | clear
  | eventRead
  | peerForget (station : Byte)
  | stationReset
  | stationResetDone
  | badCommand (code : Byte)
  /-- `received`: the bytes of a command that has not taken effect when CSN rises (R171). -/
  | csnRise (received : List Byte)
  | secondsTick
  | cycleSecond
  | coolSlow
  | rampStep
  | holdComplete
  | segmentRestart
  | heatTimeout
  | slotTimeout
  | heatingEvaluation
  | coolingRuleExpiry
  /-- `level`: closed (SWD) or engaged (SWL) when true. -/
  | switchEdge (sw : SwitchId) (level : Bool)
  | switchDebounced (sw : SwitchId) (level : Bool)
  | lockDriveExpiry
  | seatEnd
  | lockBackDriveEnd
  | lockPauseEnd
  | unlockDriveExpiry
  | clearanceEnd
  | unlockBackDriveEnd
  | unlockPauseEnd
  | conversionCompletion (ch : Channel) (raw : Int)
  | channelFailure (ch : Channel) (raw : Int)
  | channelRecovery (ch : Channel) (raw : Int)
  /-- `raw`: the B reading whose pair is the tenth. -/
  | sensorDisagree (raw : Int)
  | disagreeConditionGone (raw : Int)
  /-- `raw`: the L reading of the fiftieth hot period. -/
  | latchHot (raw : Int)
  | blindCoolTick
  /-- `sample`: the mean of IS over the half-cycle that ends, in deciamps (R94). -/
  | zeroCross (sample : Nat)
  | windowComplete (sample : Nat)
  | elementOvercurrent (sample : Nat)
  | driveStuck (sample : Nat)
  | elementLow (sample : Nat)
  | mainsSuspend
  | mainsAbsent
  | attemptBegin
  | attemptLost
  | attemptComplete
  | periodExpiry
  | departureTimeout
  /-- `nbits`: how many of the 64 bits after the start bit were read (fewer: cut short); `bits`: the bits, the
  first sent one highest (R116); `own`: who sent the frame as the line has it, which the part cannot see and no meaning reads
  (R117 goes by the part's own state). -/
  | frameReceived (nbits : Nat) (bits : BitVec 64) (own : Bool)
  | unreliable (nbits : Nat) (bits : BitVec 64) (own : Bool)
  /-- `own`: the own driver has been pulling throughout the 8 ms (R119). -/
  | lineHeld (own : Bool)
  | lineIdle
  | silent
  /-- `station`: the peer whose record's age reaches 3500 ms. -/
  | peerLapsed (station : Nat)
  | listenExpiry
  | claimSettle
  | slotSettle
  | slotBackoffExpiry
  | glitch
deriving DecidableEq, Repr

end Sys2Proof
end

