-- ==== Sys2Proof/Config.lean ====
section
/-! DEFINITION. What no rule of the spec fixes: the one stream of free values. -/

namespace Sys2Proof.Config

/-- DESIGN CHOICE (log 1). The part's random source, the order in which timers due at one moment are taken, the level of CSN at
a reset, and what other stations do to the bank line (logs 3, 8 and 43). Nothing constrains it: `draw n` is the n-th value
drawn, and each use brings it inside the bounds its rule states (R111, R112, R114, R152). -/
opaque draw : Nat → Nat

end Sys2Proof.Config
end

