-- ==== Sys2Proof/Machine/Types.lean ====
section
/-! DEFINITION. The state of the eleven blocks as plain data, block by block, in the manual's names. -/

namespace Sys2Proof.Machine

/-! ## CYC, the cycle controller (R1, R20, R21) -/

/-- The cycle phases (R1). -/
inductive Phase where
  | idle
  | locking
  | heating
  | cooling
  | tripped
  | unlocking
  | held
deriving DecidableEq, Repr

/-- The reported phase (R3), which is also the phase field of a bank frame (R107). -/
inductive ReportedPhase where
  | idle
  | locking
  | heating
  | waitingSlot
  | cooling
  | tripped
  | unlocking
  | held
deriving DecidableEq, Repr

/-- The outcome field of the cycle record (R20). -/
inductive CycleOutcome where
  | none
  | completed
  | aborted
  | faultAborted
  | tripped
  | interrupted
  | lockFailed
deriving DecidableEq, Repr

/-- The eighteen fault codes of section 10.1, in the table's order. -/
inductive FaultCode where
  | overtemp
  | sensorAFail
  | sensorBFail
  | sensorDisagree
  | latchHot
  | lockLost
  | doorForced
  | elementOvercurrent
  | driveStuck
  | unlockFail
  | lockFail
  | mainsAbsent
  | slotTimeout
  | heatTimeout
  | sensorLFail
  | elementLow
  | txStuck
  | numberConflict
deriving DecidableEq, Repr

inductive FaultClass where
  | trip
  | abort
  | degrade
deriving DecidableEq, Repr

/-- The cycle record (R20, R21). -/
structure Record where
  outcome      : CycleOutcome
  firstFault   : Option FaultCode
  cycleTime    : Nat
  heatingTime  : Nat
  slotWaitTime : Nat
  peakA        : Int
  shedCount    : Nat
deriving DecidableEq, Repr

structure Cyc where
  phase          : Phase
  abortPending   : Bool
  coolingTime    : Nat
  coolSlowRaised : Bool
  /-- Milliseconds into the present second of CYC's one-second timebase. -/
  secondMs       : Nat
  record         : Record
deriving DecidableEq, Repr

/-! ## PRF, the profile table and the ramp engine (R23, R24, R30) -/

/-- The kind field of a segment record; code 3 is stored as written (R23). -/
inductive SegKind where
  | endRec
  | ramp
  | hold
  | code3
deriving DecidableEq, Repr

structure Segment where
  kind    : SegKind
  target  : Nat
  burn    : Bool
  rate    : Nat
  holdMin : Nat
  restart : Bool
deriving DecidableEq, Repr

inductive PointerMode where
  | write
  | read
deriving DecidableEq, Repr

/-- The loading half of PRF: the table, the load pointer and the staging buffer (R23, R24). -/
structure Prf where
  table     : Vector Segment 16
  index     : Nat
  mode      : PointerMode
  wordPhase : Nat
  staged    : List Half
deriving DecidableEq, Repr

inductive RampState where
  | idle
  | ramping
  | holding
  | waitingSlot
  | finished
deriving DecidableEq, Repr

inductive SlotFlag where
  | none
  | requested
  | granted
deriving DecidableEq, Repr

/-- The running half of PRF (R30). -/
structure Ramp where
  state             : RampState
  segIndex          : Nat
  sp                : Int
  segStart          : Int
  up                : Bool
  frac              : Nat
  holdTimer         : Nat
  segTimer          : Nat
  dropRun           : Nat
  slotWait          : Nat
  slotFlag          : SlotFlag
  heatTimeoutRaised : Bool
  /-- Milliseconds to the next one-second step, absent while the steps are stopped. -/
  stepTimer         : Option Nat
deriving DecidableEq, Repr

/-! ## LCK, the lock controller (R43 to R45) -/

inductive LockState where
  | unlocked
  | locking
  | locked
  | unlocking
  | jammed
deriving DecidableEq, Repr

inductive Motor where
  | lock
  | unlock
  | off
deriving DecidableEq, Repr

/-- The part of a travel that is running (R49 to R51, R54, R55). -/
inductive Stage where
  | none
  | lockDrive
  | seat
  | lockBackDrive
  | lockPause
  | unlockDrive
  | clearance
  | unlockBackDrive
  | unlockPause
  | doorReturn
  | doorReturnClearance
deriving DecidableEq, Repr

/-- One debounced switch input (R43): true is closed (SWD) or engaged (SWL); `value` is absent while unknown. -/
structure Switch where
  raw   : Bool
  value : Option Bool
  /-- Milliseconds left of the 50 ms in progress. -/
  timer : Option Nat
deriving DecidableEq, Repr

structure Lck where
  state             : LockState
  /-- The latch value carried in JAMMED, engaged when true. -/
  carried           : Bool
  attempts          : Nat
  motor             : Motor
  startUp           : Bool
  door              : Switch
  latch             : Switch
  stage             : Stage
  /-- Milliseconds left on the travel timer. -/
  travelTimer       : Option Nat
  /-- Milliseconds left of a seat, back-drive, pause or clearance. -/
  stageTimer        : Option Nat
  /-- The unlock test's result as last handed on (R47). -/
  testPass          : Bool
  lockLostPresent   : Bool
  doorForcedPresent : Bool
deriving DecidableEq, Repr

/-! ## TMS, the temperature monitor (R61) -/

inductive ReadingClass where
  | valid
  | overRange
  | underRange
deriving DecidableEq, Repr

/-- A channel's standing as TMS describes it to its neighbours (R65). -/
inductive Standing where
  | valid
  | failed
  | notReady
deriving DecidableEq, Repr

structure Chan where
  raw        : Int
  cls        : ReadingClass
  history    : List Int
  filtered   : Int
  ready      : Bool
  failed     : Bool
  invalidRun : Nat
  validRun   : Nat
deriving DecidableEq, Repr

structure Tms where
  a                : Chan
  b                : Chan
  l                : Chan
  hotRun           : Nat
  disagreeCount    : Nat
  agreeCount       : Nat
  disagreePresent  : Bool
  overtempPresent  : Bool
  latchHotPresent  : Bool
  /-- The channel whose conversion ends next in the period's order A, B, L (R60). -/
  due              : Channel
  /-- The latch-zone override handed to REG (R69). -/
  zoneOverride     : Bool
deriving DecidableEq, Repr

/-! ## REG, the regulator (R73) -/

structure Reg where
  demand    : Nat
  integral  : Nat
  limited   : Bool
  /-- Milliseconds to the next evaluation. -/
  evalTimer : Option Nat
  fan       : Nat
  ruleLevel : Nat
  /-- Milliseconds to the next expiry of the cooling-rule timer. -/
  coolTimer : Option Nat
  base      : Option (Channel × Int)
  rate      : Option Int
deriving DecidableEq, Repr

/-! ## DRV, the element drive (R90) -/

inductive DriveState where
  | running
  | suspended
deriving DecidableEq, Repr

/-- One value for each element E0 to E3. -/
structure PerElement (α : Type) where
  e0 : α
  e1 : α
  e2 : α
  e3 : α
deriving DecidableEq, Repr

/-- The values fixed at a window's start (R92). -/
structure Window where
  ho : Nat
  ir : Nat
  ig : Nat
  n  : PerElement Nat
deriving DecidableEq, Repr

structure Drv where
  state              : DriveState
  windowRunning      : Bool
  position           : Nat
  window             : Window
  sampleSum          : Nat
  /-- The allowance-limited indication. -/
  limited            : Bool
  last               : Window
  lastExpected       : Nat
  lastMeasured       : Nat
  overRun            : Nat
  stuckRun           : Nat
  lowRun             : Nat
  overPresent        : Bool
  stuckPresent       : Bool
  lowPresent         : Bool
  mainsAbsentPresent : Bool
  main               : Bool
  permitted          : Bool
  outputs            : PerElement Bool
  /-- Milliseconds since the last zero-cross, counted to 100. -/
  absence            : Nat
  /-- Milliseconds counted by the mains-absent timer. -/
  mainsTimer         : Option Nat
deriving DecidableEq, Repr

/-! ## BLI, the bank line interface (R107, R108) -/

inductive TxState where
  | off
  | stopped
  | quiet
  | waiting
  | sending
deriving DecidableEq, Repr

/-- The frame kinds, which are also the reasons to send (R107, R109). -/
inductive FrameKind where
  | periodic
  | claim
  | settled
  | shed
  | withdraw
  | slot
  | depart
deriving DecidableEq, Repr

inductive SlotState where
  | none
  | claim
  | hold
deriving DecidableEq, Repr

/-- The fields of a bank frame, less the check (R107). -/
structure Frame where
  word     : Nat
  station  : Nat
  group    : Nat
  kind     : FrameKind
  held     : Nat
  want     : Nat
  claim    : Nat
  slot     : SlotState
  phase    : ReportedPhase
  fallback : Bool
deriving DecidableEq, Repr

/-- An attempt on the line: its snapshot with its contention word, and the reasons pending when it began (R111). -/
structure Attempt where
  frame : Frame
  check : BitVec 8
  sent  : BitVec 7
deriving DecidableEq, Repr

/-- The BANK output (R108, R120). -/
inductive LineOutput where
  | released
  /-- The bits of an own attempt are being sent. -/
  | driving
  /-- The driver's enable has been removed. -/
  | disabled
deriving DecidableEq, Repr

/-- The frame on the line that the own receiver has yet to class (R110, R116, R117). -/
inductive LineFrame where
  | none
  /-- The own station was SENDING at its start and has not lost contention on it. -/
  | own
  /-- Another station's: the own station lost contention on it or was not SENDING at its start, and it runs on. -/
  | other
deriving DecidableEq, Repr

structure Bli where
  tx             : TxState
  /-- The pending-reason set: bit n is the kind with code n (section 12.3). -/
  reasons        : BitVec 7
  backoff        : Nat
  attempt        : Option Attempt
  output         : LineOutput
  frame          : LineFrame
  /-- The time the line has stayed released, in bit times of 50 µs (R106). -/
  releasedRun    : Nat
  errors         : Nat
  unreliable     : Bool
  lineHeld       : Bool
  txStuck        : Bool
  numberConflict : Bool
  silent         : Bool
  /-- The line-held timer in milliseconds, as the last line event left it. -/
  heldTimer      : Nat
  /-- Milliseconds counted by the silence timer. -/
  silenceTimer   : Option Nat
  /-- Milliseconds left of the period. -/
  periodTimer    : Option Nat
  /-- Milliseconds left of the departure. -/
  departureTimer : Option Nat
  lastKind       : Option FrameKind
deriving DecidableEq, Repr

/-! ## PTB, the peer table (R124, R125) -/

inductive PeerState where
  | live
  | lapsed
deriving DecidableEq, Repr

structure Peer where
  station  : Nat
  state    : PeerState
  group    : Nat
  held     : Nat
  want     : Nat
  claim    : Nat
  slot     : SlotState
  phase    : ReportedPhase
  fallback : Bool
  lastKind : FrameKind
  age      : Nat
deriving DecidableEq, Repr

structure Ptb where
  records  : List Peer
  overflow : Bool
deriving DecidableEq, Repr

/-! ## SHR, the share unit (R137) -/

inductive ShareState where
  | off
  | listening (first : Bool)
  | sharing
  | fallback
deriving DecidableEq, Repr

inductive ClaimStanding where
  | none
  | announcing
  | settling
deriving DecidableEq, Repr

inductive SlotStanding where
  | none
  | waiting
  | backingOff
  | claiming
  | granted
deriving DecidableEq, Repr

/-- The six fallback causes (R137). -/
inductive Cause where
  | unreliable
  | silent
  | lineHeld
  | txStuck
  | numberConflict
  | overflow
deriving DecidableEq, Repr

/-- The four sums that PTB hands over (R134). -/
structure Sums where
  held    : Nat
  want    : Nat
  claim   : Nat
  holders : Nat
deriving DecidableEq, Repr

structure Shr where
  state        : ShareState
  listenTimer  : Option Nat
  /-- The fallback cause set: one bit a cause, placed as section 12.3 gives. -/
  causes       : BitVec 6
  /-- The solo allowance S. -/
  solo         : Nat
  ho           : Nat
  wo           : Nat
  go           : Nat
  co           : Nat
  claim        : ClaimStanding
  claimTimer   : Option Nat
  sums         : Sums
  slot         : SlotState
  request      : SlotStanding
  settleTimer  : Option Nat
  backoffTimer : Option Nat
  /-- The smoke valve output, open when true. -/
  valve        : Bool
deriving DecidableEq, Repr

/-! ## PRT, the protection unit (R157, R164) -/

/-- An entry of the active fault set; its class is fixed by the code. -/
structure FaultEntry where
  code    : FaultCode
  first   : Nat
  present : Bool
deriving DecidableEq, Repr

structure Prt where
  faults       : List FaultEntry
  blindRunning : Bool
  blindCount   : Nat
  /-- Milliseconds into the present second of PRT's timebase. -/
  secondMs     : Nat
  /-- An element output has been on in the present second. -/
  heatSeen     : Bool
deriving DecidableEq, Repr

/-! ## ALK, the appliance link (R170 to R180) -/

inductive EventClass where
  | cycle
  | lock
  | share
  | peer
  | fault
deriving DecidableEq, Repr

/-- The event codes of section 12.4. -/
inductive EventKind where
  | powerUp
  | configCommitted
  | phaseChange
  | coolSlow
  | segmentBegin
  | segmentRestart
  | slotWait
  | slotGranted
  | lockState
  | lockRetry
  | lineState
  | shareState
  | slotState
  | peerAdded
  | peerLapsed
  | peerReturned
  | peerRemoved
  | peerOverflow
  | faultRaised
  | faultGone
  | faultRemoved
deriving DecidableEq, Repr

/-- An event record; its class and code are fixed by the kind (R177). -/
structure EventRec where
  kind   : EventKind
  detail : Half
  time   : Nat
deriving DecidableEq, Repr

/-- The configuration items of section 11.3, in the order of their numbers. -/
inductive Item where
  | station
  | group
  | filterMask
  | n
  | b
  | k
  | raiseStep
  | i0
  | i1
  | i2
  | i3
  | w0
  | w1
  | w2
  | w3
  | tu
  | tmax
  | tb
  | lt
  | kp
  | ki
  | ab
  | lg
  | hb
  | rc
  | fh
  | ws
  | ts
  | bc
  | routeCycle
  | routeLock
  | routeShare
  | routePeer
  | routeFault
deriving DecidableEq, Repr

/-- The standing of the departure that an accepted STATION_RESET waits for (R115, R176). -/
inductive Departure where
  | notAsked
  | waiting
  | sent
  | notSent
deriving DecidableEq, Repr

/-- A STATION_RESET that has been accepted and not yet carried out (R176). -/
structure ResetPending where
  csnRisen  : Bool
  departure : Departure
deriving DecidableEq, Repr

/-- Result codes of section 12.3. -/
inductive ResultCode where
  | ok
  | clamped
  | wrongPhase
  | wrongMode
  | notConfigured
  | configFrozen
  | invalidConfig
  | profileInvalid
  | doorNotReady
  | notReady
  | faultActive
  | tableEnd
  | empty
  | badCommand
  | badParameter
deriving DecidableEq, Repr

/-- The SPI slave port (R170, R171, R176). -/
structure Link where
  /-- CSN is low: a transaction is open. -/
  csnLow   : Bool
  /-- How many bytes of the open transaction come before its result code: the code, the parameters, the turnaround. -/
  lead     : Nat
  /-- The result code byte and the result bytes formed for the open transaction. -/
  answer   : List Byte
  /-- SDO is not driven until CSN has risen, after a reset inside a transaction. -/
  sdoCut   : Bool
deriving DecidableEq, Repr

structure Alk where
  items     : Vector Nat 34
  committed : Bool
  events    : List EventRec
  lost      : Bool
  seconds   : Nat
  /-- Milliseconds into the present second of the seconds count. -/
  secondMs  : Nat
  attn      : Bool
  alert     : Bool
  resetPending : Option ResetPending
  link      : Link
deriving DecidableEq, Repr

end Sys2Proof.Machine
end

