-- ==== Sys2Proof/Machine/Operands.lean ====
section
/-! DEFINITION. Operand and field forms: the numeric codes of section 12.3 and 12.4, the configuration items with
their ranges and defaults, the profile words, the bank frame with its check, and the bytes of link results. -/

namespace Sys2Proof.Machine

/-! ## Numeric codes (sections 12.1, 12.3, 12.4) -/

def ReportedPhase.code : ReportedPhase → Nat
  | .idle => 0
  | .locking => 1
  | .heating => 2
  | .waitingSlot => 3
  | .cooling => 4
  | .tripped => 5
  | .unlocking => 6
  | .held => 7

def ReportedPhase.ofCode (n : Nat) : ReportedPhase :=
  match n with
  | 0 => .idle
  | 1 => .locking
  | 2 => .heating
  | 3 => .waitingSlot
  | 4 => .cooling
  | 5 => .tripped
  | 6 => .unlocking
  | _ => .held

/-- A cycle phase as a reported phase (R3, without the exception of WAITING_SLOT). -/
def Phase.report : Phase → ReportedPhase
  | .idle => .idle
  | .locking => .locking
  | .heating => .heating
  | .cooling => .cooling
  | .tripped => .tripped
  | .unlocking => .unlocking
  | .held => .held

/-- "Both cycle phases use the frame's phase codes" (section 12.3). -/
def Phase.code (p : Phase) : Nat :=
  p.report.code

def CycleOutcome.code : CycleOutcome → Nat
  | .none => 0
  | .completed => 1
  | .aborted => 2
  | .faultAborted => 3
  | .tripped => 4
  | .interrupted => 5
  | .lockFailed => 6

/-- Fault codes 1 to 18 in the order of section 10.1. -/
def FaultCode.code : FaultCode → Nat
  | .overtemp => 1
  | .sensorAFail => 2
  | .sensorBFail => 3
  | .sensorDisagree => 4
  | .latchHot => 5
  | .lockLost => 6
  | .doorForced => 7
  | .elementOvercurrent => 8
  | .driveStuck => 9
  | .unlockFail => 10
  | .lockFail => 11
  | .mainsAbsent => 12
  | .slotTimeout => 13
  | .heatTimeout => 14
  | .sensorLFail => 15
  | .elementLow => 16
  | .txStuck => 17
  | .numberConflict => 18

/-- The class column of section 10.1. -/
def FaultCode.cls : FaultCode → FaultClass
  | .overtemp | .sensorAFail | .sensorBFail | .sensorDisagree | .latchHot | .lockLost | .doorForced
  | .elementOvercurrent | .driveStuck | .unlockFail => .trip
  | .lockFail | .mainsAbsent | .slotTimeout | .heatTimeout | .sensorLFail => .abort
  | .elementLow | .txStuck | .numberConflict => .degrade

def FaultClass.code : FaultClass → Nat
  | .trip => 0
  | .abort => 1
  | .degrade => 2

def SegKind.code : SegKind → Nat
  | .endRec => 0
  | .ramp => 1
  | .hold => 2
  | .code3 => 3

def SegKind.ofCode (n : Nat) : SegKind :=
  match n with
  | 0 => .endRec
  | 1 => .ramp
  | 2 => .hold
  | _ => .code3

def RampState.code : RampState → Nat
  | .idle => 0
  | .ramping => 1
  | .holding => 2
  | .waitingSlot => 3
  | .finished => 4

def LockState.code : LockState → Nat
  | .unlocked => 0
  | .locking => 1
  | .locked => 2
  | .unlocking => 3
  | .jammed => 4

def ReadingClass.code : ReadingClass → Nat
  | .valid => 0
  | .overRange => 1
  | .underRange => 2

def DriveState.code : DriveState → Nat
  | .running => 0
  | .suspended => 1

def ShareState.code : ShareState → Nat
  | .off => 0
  | .listening _ => 1
  | .sharing => 2
  | .fallback => 3

def ClaimStanding.code : ClaimStanding → Nat
  | .none => 0
  | .announcing => 1
  | .settling => 2

def SlotStanding.code : SlotStanding → Nat
  | .none => 0
  | .waiting => 1
  | .backingOff => 2
  | .claiming => 3
  | .granted => 4

def SlotState.code : SlotState → Nat
  | .none => 0
  | .claim => 1
  | .hold => 2

def SlotState.ofCode? (n : Nat) : Option SlotState :=
  match n with
  | 0 => some .none
  | 1 => some .claim
  | 2 => some .hold
  | _ => Option.none

def TxState.code : TxState → Nat
  | .off => 0
  | .stopped => 1
  | .quiet => 2
  | .waiting => 3
  | .sending => 4

def PeerState.code : PeerState → Nat
  | .live => 0
  | .lapsed => 1

def FrameKind.code : FrameKind → Nat
  | .periodic => 0
  | .claim => 1
  | .settled => 2
  | .shed => 3
  | .withdraw => 4
  | .slot => 5
  | .depart => 6

def FrameKind.ofCode? (n : Nat) : Option FrameKind :=
  match n with
  | 0 => some .periodic
  | 1 => some .claim
  | 2 => some .settled
  | 3 => some .shed
  | 4 => some .withdraw
  | 5 => some .slot
  | 6 => some .depart
  | _ => Option.none

/-- The bit of a cause in the cause set and the condition byte (section 12.3). -/
def Cause.bit : Cause → BitVec 6
  | .unreliable => 1#6
  | .silent => 2#6
  | .lineHeld => 4#6
  | .txStuck => 8#6
  | .numberConflict => 16#6
  | .overflow => 32#6

/-- The bit of a reason in the pending-reason set (section 12.3). -/
def FrameKind.bit (k : FrameKind) : BitVec 7 :=
  1#7 <<< k.code

def EventKind.cls : EventKind → EventClass
  | .powerUp | .configCommitted | .phaseChange | .coolSlow | .segmentBegin | .segmentRestart | .slotWait
  | .slotGranted => .cycle
  | .lockState | .lockRetry => .lock
  | .lineState | .shareState | .slotState => .share
  | .peerAdded | .peerLapsed | .peerReturned | .peerRemoved | .peerOverflow => .peer
  | .faultRaised | .faultGone | .faultRemoved => .fault

def EventClass.code : EventClass → Nat
  | .cycle => 0
  | .lock => 1
  | .share => 2
  | .peer => 3
  | .fault => 4

/-- Event codes of section 12.4. -/
def EventKind.code : EventKind → Nat
  | .powerUp => 0x01
  | .configCommitted => 0x02
  | .phaseChange => 0x03
  | .coolSlow => 0x04
  | .segmentBegin => 0x05
  | .segmentRestart => 0x06
  | .slotWait => 0x07
  | .slotGranted => 0x08
  | .lockState => 0x10
  | .lockRetry => 0x11
  | .lineState => 0x20
  | .shareState => 0x21
  | .slotState => 0x22
  | .peerAdded => 0x30
  | .peerLapsed => 0x31
  | .peerReturned => 0x32
  | .peerRemoved => 0x33
  | .peerOverflow => 0x34
  | .faultRaised => 0x40
  | .faultGone => 0x41
  | .faultRemoved => 0x42

def ResultCode.code : ResultCode → Nat
  | .ok => 0x00
  | .clamped => 0x01
  | .wrongPhase => 0x02
  | .wrongMode => 0x03
  | .notConfigured => 0x04
  | .configFrozen => 0x05
  | .invalidConfig => 0x06
  | .profileInvalid => 0x07
  | .doorNotReady => 0x08
  | .notReady => 0x09
  | .faultActive => 0x0A
  | .tableEnd => 0x0B
  | .empty => 0x0C
  | .badCommand => 0x0D
  | .badParameter => 0x0E

/-- The command codes of section 12.3; any other code byte is an unknown command (R170). -/
def commandCodes : List Nat :=
  [0x01, 0x02, 0x03, 0x04, 0x05, 0x06, 0x10, 0x11, 0x12, 0x20, 0x21, 0x22, 0x30, 0x31, 0x32, 0x40, 0x41, 0x50]

/-! ## Configuration items (section 11.3) -/

/-- Item numbers of section 12.3. -/
def Item.number : Item → Fin 34
  | .station => 0
  | .group => 1
  | .filterMask => 2
  | .n => 3
  | .b => 4
  | .k => 5
  | .raiseStep => 6
  | .i0 => 7
  | .i1 => 8
  | .i2 => 9
  | .i3 => 10
  | .w0 => 11
  | .w1 => 12
  | .w2 => 13
  | .w3 => 14
  | .tu => 15
  | .tmax => 16
  | .tb => 17
  | .lt => 18
  | .kp => 19
  | .ki => 20
  | .ab => 21
  | .lg => 22
  | .hb => 23
  | .rc => 24
  | .fh => 25
  | .ws => 26
  | .ts => 27
  | .bc => 28
  | .routeCycle => 29
  | .routeLock => 30
  | .routeShare => 31
  | .routePeer => 32
  | .routeFault => 33

/-- The items in the order of their numbers. -/
def Item.all : List Item :=
  [.station, .group, .filterMask, .n, .b, .k, .raiseStep, .i0, .i1, .i2, .i3, .w0, .w1, .w2, .w3, .tu, .tmax, .tb, .lt,
   .kp, .ki, .ab, .lg, .hb, .rc, .fh, .ws, .ts, .bc, .routeCycle, .routeLock, .routeShare, .routePeer, .routeFault]

/-- The item that a received item number names, if any. -/
def Item.ofNumber? (n : Nat) : Option Item :=
  Item.all[n]?

/-- The range of an item, low end and high end. -/
def Item.range : Item → Nat × Nat
  | .station => (1, 31)
  | .group => (0, 15)
  | .filterMask => (0, 15)
  | .n => (1, 16)
  | .b => (100, 6000)
  | .k => (1, 8)
  | .raiseStep => (10, 200)
  | .i0 | .i1 | .i2 | .i3 => (0, 400)
  | .w0 | .w1 | .w2 | .w3 => (0, 15)
  | .tu => (1500, 3000)
  | .tmax => (4000, 5000)
  | .tb => (2500, 4000)
  | .lt => (20, 150)
  | .kp => (0, 255)
  | .ki => (0, 255)
  | .ab => (10, 200)
  | .lg => (100, 1000)
  | .hb => (20, 200)
  | .rc => (20, 100)
  | .fh => (20, 60)
  | .ws => (10, 480)
  | .ts => (2, 30)
  | .bc => (60, 240)
  | .routeCycle | .routeLock | .routeShare | .routePeer | .routeFault => (0, 3)

/-- The default of an item; the station item's default is 0, unset. -/
def Item.default : Item → Nat
  | .station => 0
  | .group => 0
  | .filterMask => 15
  | .n => 1
  | .b => 100
  | .k => 1
  | .raiseStep => 50
  | .i0 | .i1 | .i2 | .i3 => 0
  | .w0 | .w1 | .w2 | .w3 => 1
  | .tu => 2500
  | .tmax => 4800
  | .tb => 3000
  | .lt => 60
  | .kp => 40
  | .ki => 8
  | .ab => 50
  | .lg => 300
  | .hb => 80
  | .rc => 50
  | .fh => 30
  | .ws => 240
  | .ts => 5
  | .bc => 120
  | .routeCycle | .routeLock | .routeShare | .routePeer => 1
  | .routeFault => 3

/-- "A value below a becomes a, and a value above b becomes b" (Conventions). -/
def clampNat (lo hi v : Nat) : Nat :=
  if v < lo then lo else if hi < v then hi else v

def clampInt (lo hi v : Int) : Int :=
  if v < lo then lo else if hi < v then hi else v

/-- The items that are temperatures. -/
def Item.isTemperature : Item → Bool
  | .tu | .tmax | .tb => true
  | _ => false

/-- The number that CONFIG_PUT's 16-bit value stands for: two's complement for a temperature, unsigned elsewhere (R173,
section 12.3, Conventions; log 41). -/
def Item.valueOf (i : Item) (v : Half) : Int :=
  if i.isTemperature then v.toInt else v.toNat

/-- The value that CONFIG_PUT stores: the nearer end of the range where `v` lies outside it (R173). -/
def Item.clamp (i : Item) (v : Int) : Nat :=
  (clampInt i.range.1 i.range.2 v).toNat

/-- The routing item of an event class. -/
def EventClass.route : EventClass → Item
  | .cycle => .routeCycle
  | .lock => .routeLock
  | .share => .routeShare
  | .peer => .routePeer
  | .fault => .routeFault

/-! ## Bytes of the appliance link -/

/-- The low byte of a number. -/
def byteOf (n : Nat) : Byte :=
  BitVec.ofNat 8 n

def flagByte (b : Bool) : Byte :=
  if b then 1 else 0

/-- A 16-bit value, most significant byte first (R170). -/
def halfBytes (w : Half) : List Byte :=
  [w.extractLsb' 8 8, w.extractLsb' 0 8]

def natBytes (n : Nat) : List Byte :=
  halfBytes (BitVec.ofNat 16 n)

/-- A temperature or rate in 16-bit two's complement. -/
def intBytes (t : Int) : List Byte :=
  halfBytes (BitVec.ofInt 16 t)

/-- "The absent measured rate reads 8000h" (section 12.3). -/
def rateBytes : Option Int → List Byte
  | some r => intBytes r
  | none => halfBytes 0x8000#16

/-- The time left on a timer in ms, 0 when stopped (R156). -/
def timerBytes (t : Option Nat) : List Byte :=
  natBytes (t.getD 0)

/-- The first fault code: 0 for none (section 12.3). -/
def faultByte : Option FaultCode → Byte
  | some c => byteOf c.code
  | none => 0

/-- The kind of the last frame: FFh for none (section 12.3). -/
def lastKindByte : Option FrameKind → Byte
  | some k => byteOf k.code
  | none => 0xFF

/-- The fixed result bytes of a refused command, all 00h (section 12.3). -/
def zeroBytes (n : Nat) : List Byte :=
  List.replicate n 0

/-- An event detail from its high and low byte (section 12.4). -/
def detail (high low : Nat) : Half :=
  BitVec.ofNat 16 (high * 256 + low)

/-! ## Profile segment words (section 12.2, R27) -/

/-- The first word as staged: hold minutes above 600 become 600, the unused bits read back 0. -/
def stageFirst (w : Half) : Half :=
  let hold := (w.extractLsb' 0 10).toNat
  w.extractLsb' 12 4 ++ 0#2 ++ BitVec.ofNat 10 (min hold 600)

/-- The second word as staged: a target above 5000 becomes 5000. -/
def stageSecond (w : Half) : Half :=
  BitVec.ofNat 16 (min w.toNat 5000)

/-- The third word as staged: a rate of 1 to 9 becomes 10, a rate above 1200 becomes 1200, 0 is kept. -/
def stageThird (w : Half) : Half :=
  if w = 0 then 0 else BitVec.ofNat 16 (clampNat 10 1200 w.toNat)

/-- Whether a field of a first word was changed by the clamp (R27). -/
def firstClamped (w : Half) : Bool :=
  600 < (w.extractLsb' 0 10).toNat

/-- The record that three staged words make. -/
def segmentOfWords (w1 w2 w3 : Half) : Segment where
  kind := SegKind.ofCode (w1.extractLsb' 14 2).toNat
  burn := w1.getLsbD 13
  restart := w1.getLsbD 12
  holdMin := (w1.extractLsb' 0 10).toNat
  target := w2.toNat
  rate := w3.toNat

/-- A stored record's first word as read back. -/
def Segment.firstWord (g : Segment) : Half :=
  BitVec.ofNat 2 g.kind.code ++ BitVec.ofBool g.burn ++ BitVec.ofBool g.restart ++ 0#2 ++ BitVec.ofNat 10 g.holdMin

/-- The word of a record that the word phase selects (R28). -/
def Segment.word (g : Segment) (wordPhase : Nat) : Half :=
  match wordPhase with
  | 0 => g.firstWord
  | 1 => BitVec.ofNat 16 g.target
  | _ => BitVec.ofNat 16 g.rate

/-! ## The bank frame (section 12.1, R107, R181) -/

/-- One step of the check register for one frame bit (R181). -/
def crcStep (reg : BitVec 8) (bit : Bool) : BitVec 8 :=
  if reg.msb ^^ bit then (reg <<< 1) ^^^ 0x07#8 else reg <<< 1

/-- The bits of a word in the order sent, most significant first. -/
def sentBits {w : Nat} (v : BitVec w) : List Bool :=
  (List.range w).map fun i => v.getMsbD i

/-- The check over the 48 bits from station to fallback (R181). -/
def crc8 (body : BitVec 48) : BitVec 8 :=
  (sentBits body).foldl crcStep 0xFF#8

/-- The 48 bits from station to fallback of a frame. -/
def Frame.body (f : Frame) : BitVec 48 :=
  BitVec.ofNat 5 f.station ++ BitVec.ofNat 4 f.group ++ BitVec.ofNat 3 f.kind.code ++ BitVec.ofNat 10 f.held
    ++ BitVec.ofNat 10 f.want ++ BitVec.ofNat 10 f.claim ++ BitVec.ofNat 2 f.slot.code
    ++ BitVec.ofNat 3 f.phase.code ++ BitVec.ofBool f.fallback

def Frame.check (f : Frame) : BitVec 8 :=
  crc8 f.body

/-- The 64 bits after the start bit, the first sent one highest. -/
def Frame.bits (f : Frame) : BitVec 64 :=
  BitVec.ofNat 8 f.word ++ f.body ++ f.check

/-- The class of a received frame, with its fields where it is good (R116). -/
inductive RxClass where
  | cutShort
  | checkFailed
  | invalidCode
  | good (f : Frame)
deriving DecidableEq, Repr

/-- The fields of 64 received bits, absent where the kind or slot code is invalid or the station is 0 (R116). -/
def frameFields (bits : BitVec 64) : Option Frame :=
  match FrameKind.ofCode? (bits.extractLsb' 44 3).toNat, SlotState.ofCode? (bits.extractLsb' 12 2).toNat with
  | some kind, some slot =>
    let station := (bits.extractLsb' 51 5).toNat
    if station = 0 then none
    else some {
      word := (bits.extractLsb' 56 8).toNat
      station := station
      group := (bits.extractLsb' 47 4).toNat
      kind := kind
      held := (bits.extractLsb' 34 10).toNat
      want := (bits.extractLsb' 24 10).toNat
      claim := (bits.extractLsb' 14 10).toNat
      slot := slot
      phase := ReportedPhase.ofCode (bits.extractLsb' 9 3).toNat
      fallback := bits.getLsbD 8 }
  | _, _ => none

/-- The receiver's classing of a frame of which `nbits` bits were read (R116): the classes in the order of its table. -/
def classify (nbits : Nat) (bits : BitVec 64) : RxClass :=
  if nbits < 64 then .cutShort
  else if bits.extractLsb' 0 8 ≠ crc8 (bits.extractLsb' 8 48) then .checkFailed
  else
    match frameFields bits with
    | some f => .good f
    | none => .invalidCode

/-! ## Arithmetic of the Conventions -/

/-- ceil(a / b). -/
def ceilDiv (a b : Nat) : Nat :=
  (a + b - 1) / b

/-- A counter that stays at its limit. -/
def satSucc (limit n : Nat) : Nat :=
  if n < limit then n + 1 else limit

def b16Limit : Nat := 65535

/-- The class of a raw reading (R60). -/
def classOf (raw : Int) : ReadingClass :=
  if 7000 < raw then .overRange else if raw < -400 then .underRange else .valid

/-- The mean of a channel's history, truncated toward zero (R62). -/
def meanOf (h : List Int) : Int :=
  h.sum.tdiv h.length

/-- A reading appended to a history of at most four (R62). -/
def pushReading (h : List Int) (raw : Int) : List Int :=
  if h.length < 4 then h ++ [raw] else h.tail ++ [raw]

/-- The unit of a timer kept in milliseconds. -/
def secondMs : Nat := 1000

end Sys2Proof.Machine
end

