-- ==== Sys2Proof/Machine/ResetValues.lean ====
section
/-! DEFINITION. What each block holds after power-on reset, RESETN and STATION_RESET (R1, R23, R24, R30, R43, R44, R61,
R73, R90, R108, R124, R137, R157, R164, R173, R177, R180), block by block. -/

namespace Sys2Proof.Machine

/-- R20, R21: the record's reset values. -/
def Record.reset : Record where
  outcome := .none
  firstFault := none
  cycleTime := 0
  heatingTime := 0
  slotWaitTime := 0
  peakA := -400
  shedCount := 0

/-- R1. The position of the one-second timebase is a DESIGN CHOICE (log 4). -/
def Cyc.reset : Cyc where
  phase := .idle
  abortPending := false
  coolingTime := 0
  coolSlowRaised := false
  secondMs := 0
  record := Record.reset

/-- R23: an END record with every other field 0 or clear. -/
def Segment.reset : Segment where
  kind := .endRec
  target := 0
  burn := false
  rate := 0
  holdMin := 0
  restart := false

/-- R23, R24. -/
def Prf.reset : Prf where
  table := Vector.replicate 16 Segment.reset
  index := 0
  mode := .write
  wordPhase := 0
  staged := []

/-- R30. -/
def Ramp.reset : Ramp where
  state := .idle
  segIndex := 0
  sp := 0
  segStart := 0
  up := true
  frac := 0
  holdTimer := 0
  segTimer := 0
  dropRun := 0
  slotWait := 0
  slotFlag := .none
  heatTimeoutRaised := false
  stepTimer := none

/-- R43: a switch after reset, its raw input at the level the pin has. -/
def Switch.reset (raw : Bool) : Switch where
  raw := raw
  value := none
  timer := some 50

/-- R44. The carried latch value is a DESIGN CHOICE (log 5). -/
def Lck.reset (doorRaw latchRaw : Bool) : Lck where
  state := .locked
  carried := false
  attempts := 0
  motor := .off
  startUp := true
  door := Switch.reset doorRaw
  latch := Switch.reset latchRaw
  stage := .none
  travelTimer := none
  stageTimer := none
  testPass := false
  lockLostPresent := false
  doorForcedPresent := false

/-- R61. -/
def Chan.reset : Chan where
  raw := 0
  cls := .underRange
  history := []
  filtered := 0
  ready := false
  failed := false
  invalidRun := 0
  validRun := 0

/-- R60, R61, R69. -/
def Tms.reset : Tms where
  a := Chan.reset
  b := Chan.reset
  l := Chan.reset
  hotRun := 0
  disagreeCount := 0
  agreeCount := 0
  disagreePresent := false
  overtempPresent := false
  latchHotPresent := false
  due := .a
  zoneOverride := false

/-- R73. -/
def Reg.reset : Reg where
  demand := 0
  integral := 0
  limited := true
  evalTimer := none
  fan := 0
  ruleLevel := 60
  coolTimer := none
  base := none
  rate := none

def PerElement.all {α : Type} (v : α) : PerElement α where
  e0 := v
  e1 := v
  e2 := v
  e3 := v

/-- R90: a window's values all 0. -/
def Window.reset : Window where
  ho := 0
  ir := 0
  ig := 0
  n := PerElement.all 0

/-- R90. The absence time is a DESIGN CHOICE (log 7). -/
def Drv.reset : Drv where
  state := .suspended
  windowRunning := false
  position := 0
  window := Window.reset
  sampleSum := 0
  limited := true
  last := Window.reset
  lastExpected := 0
  lastMeasured := 0
  overRun := 0
  stuckRun := 0
  lowRun := 0
  overPresent := false
  stuckPresent := false
  lowPresent := false
  mainsAbsentPresent := false
  main := false
  permitted := false
  outputs := PerElement.all false
  absence := 0
  mainsTimer := none

/-- R106, R108, R122. -/
def Bli.reset : Bli where
  tx := .off
  reasons := 0
  backoff := 0
  attempt := none
  output := .released
  frame := .none
  releasedRun := 0
  errors := 0
  unreliable := false
  lineHeld := false
  txStuck := false
  numberConflict := false
  silent := false
  heldTimer := 0
  silenceTimer := none
  periodTimer := none
  departureTimer := none
  lastKind := none

/-- R124. -/
def Ptb.reset : Ptb where
  records := []
  overflow := false

def Sums.zero : Sums where
  held := 0
  want := 0
  claim := 0
  holders := 0

/-- R137. -/
def Shr.reset : Shr where
  state := .off
  listenTimer := none
  causes := 0
  solo := 0
  ho := 0
  wo := 0
  go := 0
  co := 0
  claim := .none
  claimTimer := none
  sums := Sums.zero
  slot := .none
  request := .none
  settleTimer := none
  backoffTimer := none
  valve := false

/-- R157, R164. -/
def Prt.reset : Prt where
  faults := []
  blindRunning := false
  blindCount := 0
  secondMs := 0
  heatSeen := false

/-- R173: every item at its default. -/
def defaultItems : Vector Nat 34 :=
  Vector.ofFn fun i => (Item.all.map Item.default).getD i 0

/-- The causes that POWER_UP records (R180, section 12.4). -/
inductive ResetCause where
  | powerOn
  | resetn
  | departureSent
  | departureNotSent
deriving DecidableEq, Repr

def ResetCause.code : ResetCause → Nat
  | .powerOn => 0
  | .resetn => 1
  | .departureSent => 2
  | .departureNotSent => 3

/-- R180: the one record of the list after a reset. -/
def powerUpRecord (cause : ResetCause) : EventRec where
  kind := .powerUp
  detail := detail 0 cause.code
  time := 0

/-- R173, R176, R177, R179, R180. `csnLow`: a transaction is under way at the reset. -/
def Alk.reset (cause : ResetCause) (csnLow : Bool) : Alk where
  items := defaultItems
  committed := false
  events := [powerUpRecord cause]
  lost := false
  seconds := 0
  secondMs := 0
  attn := true
  alert := false
  resetPending := none
  link := { csnLow := csnLow, lead := 0, answer := [], sdoCut := csnLow }

end Sys2Proof.Machine
end

