-- ==== Sys2Proof/Machine/State.lean ====
section
/-! DEFINITION. The state of the part: its eleven blocks, the queue of waiting commands and the count of free draws;
the state right after reset; faults and refusals. -/

namespace Sys2Proof.Machine

/-- A stop that the spec describes. It describes none: every command and event has an effect, and a command that the
part turns away is a next state whose answer carries the result code (R172). No one raises it. -/
inductive Fault where
deriving DecidableEq, Repr

/-- A step without a meaning. Raised by no arm of `exec`; it stands because the host asks for the name. Stopping there
would be safe: nothing is proved of a step that does not happen. -/
inductive Refusal where
  /-- The arm of the named row has no meaning yet. -/
  | notModelled (mnemonic : String)
deriving DecidableEq, Repr

/-- The whole state of the C710. -/
structure State where
  cyc     : Cyc
  prf     : Prf
  ramp    : Ramp
  lck     : Lck
  tms     : Tms
  reg     : Reg
  drv     : Drv
  bli     : Bli
  ptb     : Ptb
  shr     : Shr
  prt     : Prt
  alk     : Alk
  /-- The commands and events that wait, oldest first. -/
  pending : List Instr
  /-- The model's own: how many free draws have been made (log 1). -/
  draws   : Nat
deriving DecidableEq, Repr

/-- Every block at its reset values; the input pins, the queue and the free draws are not the part's to reset. -/
def State.afterReset (cause : ResetCause) (doorRaw latchRaw csnLow : Bool) (pending : List Instr) (draws : Nat) : State where
  cyc := Cyc.reset
  prf := Prf.reset
  ramp := Ramp.reset
  lck := Lck.reset doorRaw latchRaw
  tms := Tms.reset
  reg := Reg.reset
  drv := Drv.reset
  bli := Bli.reset
  ptb := Ptb.reset
  shr := Shr.reset
  prt := Prt.reset
  alk := Alk.reset cause csnLow
  pending := pending
  draws := draws

/-- The part right after power-on reset (R180), its queue empty. The raw switch levels are a DESIGN CHOICE (log 6),
CSN high and the free-draw count too (logs 8 and 1). -/
def State.reset : State :=
  State.afterReset .powerOn false false false [] 0

/-! ## Changing one block -/

def State.modCyc (f : Cyc → Cyc) (s : State) : State := { s with cyc := f s.cyc }
def State.modPrf (f : Prf → Prf) (s : State) : State := { s with prf := f s.prf }
def State.modRamp (f : Ramp → Ramp) (s : State) : State := { s with ramp := f s.ramp }
def State.modLck (f : Lck → Lck) (s : State) : State := { s with lck := f s.lck }
def State.modTms (f : Tms → Tms) (s : State) : State := { s with tms := f s.tms }
def State.modReg (f : Reg → Reg) (s : State) : State := { s with reg := f s.reg }
def State.modDrv (f : Drv → Drv) (s : State) : State := { s with drv := f s.drv }
def State.modBli (f : Bli → Bli) (s : State) : State := { s with bli := f s.bli }
def State.modPtb (f : Ptb → Ptb) (s : State) : State := { s with ptb := f s.ptb }
def State.modShr (f : Shr → Shr) (s : State) : State := { s with shr := f s.shr }
def State.modPrt (f : Prt → Prt) (s : State) : State := { s with prt := f s.prt }
def State.modAlk (f : Alk → Alk) (s : State) : State := { s with alk := f s.alk }
def State.setPending (l : List Instr) (s : State) : State := { s with pending := l }
def State.bumpDraws (s : State) : State := { s with draws := s.draws + 1 }

end Sys2Proof.Machine
end

