-- ==== Sys2Proof/Machine/Flags.lean ====
section
/-! DEFINITION. What the rules read off the state: committed values, standings, the unlock test, the trip standing, the
reported phase, the fan's phase level, the notice lines, counted values, the room and the static slot rule. -/

namespace Sys2Proof.Machine

/-! ## Configuration (section 11.3) -/

/-- The value of an item that the blocks use: the committed one, and the default before commit (R173, R177). -/
def State.cfg (s : State) (i : Item) : Nat :=
  if s.alk.committed then s.alk.items[i.number] else i.default

/-- The stored value of an item, in force or not (R173). -/
def State.stored (s : State) (i : Item) : Nat :=
  s.alk.items[i.number]

/-! ## Switches (R43) -/

def State.doorClosed (s : State) : Bool := s.lck.door.value == some true
def State.doorOpen (s : State) : Bool := s.lck.door.value == some false
def State.latchEngaged (s : State) : Bool := s.lck.latch.value == some true

/-- A lock or unlock travel is running: the lock state is LOCKING or UNLOCKING (R16). -/
def State.travelling (s : State) : Bool :=
  s.lck.state == .locking || s.lck.state == .unlocking

/-- The door is held: LOCKED, or JAMMED carrying engaged (section 3.6). -/
def State.doorHeld (s : State) : Bool :=
  s.lck.state == .locked || (s.lck.state == .jammed && s.lck.carried)

/-! ## Channels (R65) -/

def Tms.chan (t : Tms) : Channel → Chan
  | .a => t.a
  | .b => t.b
  | .l => t.l

def Tms.setChan (t : Tms) (ch : Channel) (c : Chan) : Tms :=
  match ch with
  | .a => { t with a := c }
  | .b => { t with b := c }
  | .l => { t with l := c }

def Chan.standing (c : Chan) : Standing :=
  if c.failed then .failed else if c.ready then .valid else .notReady

def Chan.valid (c : Chan) : Bool := c.ready && !c.failed

/-- "Ready and valid" as START asks it (R4, R65). -/
def Chan.readyAndValid (c : Chan) : Bool := c.valid && c.cls == .valid

/-- The filtered A value. -/
def State.filteredA (s : State) : Int := s.tms.a.filtered

/-! ## Faults (R157) -/

def FaultEntry.isTrip (e : FaultEntry) : Bool := e.code.cls == .trip

def State.hasTrip (s : State) : Bool := s.prt.faults.any FaultEntry.isTrip

def State.hasTripPresent (s : State) : Bool := s.prt.faults.any fun e => e.isTrip && e.present

/-- The oldest trip-class entry's code (R2). -/
def State.oldestTrip (s : State) : Option FaultCode :=
  (s.prt.faults.find? FaultEntry.isTrip).map FaultEntry.code

/-- The first fault code after a notice carrying `c`: kept once set (R21). -/
def Record.firstFaultAfter (r : Record) (c : FaultCode) : Option FaultCode :=
  match r.firstFault with
  | some d => some d
  | none => some c

/-! ## The unlock test (R46) -/

/-- The blind-cool timer has run its full length Bc (R165). -/
def State.blindDone (s : State) : Bool :=
  s.prt.blindRunning && decide (s.cfg .bc * 60 ≤ s.prt.blindCount)

/-- The unlock test: both sensors, one sensor, blind; never before commit (R46). -/
def State.unlockTest (s : State) : Bool :=
  let tu : Int := s.cfg .tu
  s.alk.committed &&
    match s.tms.a.standing, s.tms.b.standing with
    | .valid, .valid => decide (max s.tms.a.filtered s.tms.b.filtered < tu)
    | .valid, .failed => decide (s.tms.a.filtered < tu - 300)
    | .failed, .valid => decide (s.tms.b.filtered < tu - 300)
    | .failed, .failed => s.blindDone
    | _, _ => false

/-- LCK takes an unlock request now (R53). -/
def State.takesUnlock (s : State) : Bool :=
  !s.lck.startUp && (s.lck.state == .locked || s.lck.state == .jammed) && s.unlockTest

/-- LCK takes a lock request now (R48). -/
def State.takesLock (s : State) : Bool :=
  !s.lck.startUp && s.lck.state == .unlocked && s.doorClosed

/-- CYC's conditions for an unlock request in TRIPPED (R13). -/
def State.trippedRelease (s : State) : Bool :=
  s.cyc.phase == .tripped && s.lck.state == .locked && s.unlockTest && s.hasTripPresent &&
    s.prt.faults.all fun e => !(e.isTrip && e.present) || e.code == .sensorAFail || e.code == .sensorBFail

/-! ## The cavity's ceiling (R68) -/

/-- The greater of the filtered values of the valid cavity channels. -/
def State.cavityValue (s : State) : Option Int :=
  match s.tms.a.valid, s.tms.b.valid with
  | true, true => some (max s.tms.a.filtered s.tms.b.filtered)
  | true, false => some s.tms.a.filtered
  | false, true => some s.tms.b.filtered
  | false, false => none

/-! ## Phases and the fan (R3, R82 to R84) -/

/-- The reported phase (R3). -/
def State.reportedPhase (s : State) : ReportedPhase :=
  if s.cyc.phase = .heating ∧ s.ramp.state = .waitingSlot then .waitingSlot else s.cyc.phase.report

/-- The HELD rule (R84). -/
def State.heldLevel (s : State) : Nat :=
  if 600 < s.tms.a.raw ∨ 600 < s.tms.b.raw then 100 else 0

/-- The phase level (R83). -/
def State.phaseLevel (s : State) : Nat :=
  match s.cyc.phase with
  | .idle | .locking | .unlocking => 0
  | .heating => s.cfg .fh
  | .cooling | .tripped => s.reg.ruleLevel
  | .held => s.heldLevel

/-- The fan level that the override and the phase level call for (R82). -/
def State.fanLevel (s : State) : Nat :=
  if s.tms.zoneOverride then 100 else s.phaseLevel

/-- The override that channel L's standing and value call for (R69). -/
def State.overrideNow (s : State) : Bool :=
  match s.tms.l.standing with
  | .valid => decide (900 < s.tms.l.filtered)
  | .failed => true
  | .notReady => false

/-- A sample of the cavity for the cooling rule (R86). -/
def State.coolingSample (s : State) : Option (Channel × Int) :=
  if s.tms.a.valid then some (.a, s.tms.a.filtered)
  else if s.tms.b.valid then some (.b, s.tms.b.filtered)
  else none

/-! ## Elements (R89) -/

def PerElement.map {α β : Type} (f : α → β) (p : PerElement α) : PerElement β where
  e0 := f p.e0
  e1 := f p.e1
  e2 := f p.e2
  e3 := f p.e3

def PerElement.toList {α : Type} (p : PerElement α) : List α := [p.e0, p.e1, p.e2, p.e3]

/-- Sum over the four elements. -/
def PerElement.sum (p : PerElement Nat) : Nat := p.e0 + p.e1 + p.e2 + p.e3

def PerElement.any (p : PerElement Bool) : Bool := p.e0 || p.e1 || p.e2 || p.e3

/-- Combining two values element by element. -/
def PerElement.zip {α β γ : Type} (f : α → β → γ) (p : PerElement α) (q : PerElement β) : PerElement γ where
  e0 := f p.e0 q.e0
  e1 := f p.e1 q.e1
  e2 := f p.e2 q.e2
  e3 := f p.e3 q.e3

def State.ratings (s : State) : PerElement Nat where
  e0 := s.cfg .i0
  e1 := s.cfg .i1
  e2 := s.cfg .i2
  e3 := s.cfg .i3

def State.weights (s : State) : PerElement Nat where
  e0 := s.cfg .w0
  e1 := s.cfg .w1
  e2 := s.cfg .w2
  e3 := s.cfg .w3

/-- If: the sum of the ratings of the elements with a rating and a weight above 0 (R80, R89). -/
def fullCurrent (ratings weights : PerElement Nat) : Nat :=
  (PerElement.zip (fun i w => if 0 < i ∧ 0 < w then i else 0) ratings weights).sum

/-- The weighted sum Σ(wk × Ik), to which an element that is not driven contributes 0 (R89). -/
def weightedSum (ratings weights : PerElement Nat) : Nat :=
  (PerElement.zip (fun i w => i * w) ratings weights).sum

/-- ceil(D × If / 1000) (R80, R92). -/
def State.wantOf (s : State) (demand : Nat) : Nat :=
  ceilDiv (demand * fullCurrent s.ratings s.weights) 1000

/-- An element's on-count in a window that grants `ig` (R92). -/
def onCount (ig total rating weight : Nat) : Nat :=
  if 0 < rating ∧ 0 < weight then min 64 (64 * ig * weight / total) else 0

/-- The on-counts of a window that grants `ig`. -/
def State.onCounts (s : State) (ig : Nat) : PerElement Nat :=
  PerElement.zip (onCount ig (weightedSum s.ratings s.weights)) s.ratings s.weights

/-- Σ ne × Ie: the current committed in a window, in half-cycle deciamps (R92). -/
def State.committedCurrent (s : State) (n : PerElement Nat) : Nat :=
  (PerElement.zip (fun k i => k * i) n s.ratings).sum

/-- Element `k` conducts in half-cycle `pos` of a window in which its on-count is `n` (R93). -/
def conducts (k n pos : Nat) : Bool :=
  decide ((pos + 64 - 16 * k) % 64 < n)

/-- The element outputs for half-cycle `pos` of a window with on-counts `n` (R93). -/
def outputsAt (n : PerElement Nat) (pos : Nat) : PerElement Bool where
  e0 := conducts 0 n.e0 pos
  e1 := conducts 1 n.e1 pos
  e2 := conducts 2 n.e2 pos
  e3 := conducts 3 n.e3 pos

/-- MAIN's three conditions (R96). -/
def State.mainAllowed (s : State) : Bool :=
  s.drv.permitted && s.lck.state == .locked && !s.hasTrip

/-! ## Routing and the notice lines (R177, R179) -/

/-- The routing in force for a class: NONE 0, ATTN 1, ALERT 2, BOTH 3. -/
def State.routing (s : State) (c : EventClass) : Nat := s.cfg c.route

/-- Some record of the list has a class routed to ATTN or BOTH. -/
def State.attnDue (s : State) : Bool :=
  s.alk.events.any fun e => s.routing e.kind.cls == 1 || s.routing e.kind.cls == 3

/-- Some record of the list has a class routed to ALERT or BOTH. -/
def State.alertDue (s : State) : Bool :=
  s.alk.events.any fun e => s.routing e.kind.cls == 2 || s.routing e.kind.cls == 3

/-! ## Peers (R133, R134) -/

/-- Counted held h. -/
def Peer.countedHeld (solo : Nat) (p : Peer) : Nat :=
  match p.state with
  | .live => p.held
  | .lapsed => min 1023 (max p.held solo)

/-- Counted want w. -/
def Peer.countedWant (solo : Nat) (p : Peer) : Nat :=
  match p.state with
  | .live => if p.fallback then min p.want solo else p.want
  | .lapsed => p.countedHeld solo

/-- Counted claim c. -/
def Peer.countedClaim (p : Peer) : Nat :=
  match p.state with
  | .live => p.claim
  | .lapsed => 0

/-- Whether a record counts as a slot holder. -/
def Peer.slotHolder (p : Peer) : Bool :=
  match p.state with
  | .live => p.slot == .claim || p.slot == .hold
  | .lapsed => p.slot == .hold

/-- The four sums over a table (R134). -/
def tableSums (solo : Nat) (records : List Peer) : Sums where
  held := (records.map (Peer.countedHeld solo)).sum
  want := (records.map (Peer.countedWant solo)).sum
  claim := (records.map Peer.countedClaim).sum
  holders := records.countP Peer.slotHolder

/-- S = floor(B / N) of the committed configuration (R133, R137). -/
def State.soloAllowance (s : State) : Nat := s.cfg .b / s.cfg .n

/-- The acceptance filter (R126). -/
def State.accepts (s : State) (group : Nat) : Bool :=
  (BitVec.ofNat 4 group ^^^ BitVec.ofNat 4 (s.cfg .group)) &&& BitVec.ofNat 4 (s.cfg .filterMask) == 0#4

/-! ## Sharing (R142, R144, R153) -/

/-- The own target Go (R142). -/
def State.targetOf (s : State) : Nat :=
  let total := s.shr.wo + s.shr.sums.want
  if total ≤ s.cfg .b then s.shr.wo else s.cfg .b * s.shr.wo / total

/-- The room B − Ho − Σh − Σc, raised to 0 if negative (R144, R146). -/
def State.room (s : State) : Nat :=
  s.cfg .b - s.shr.ho - s.shr.sums.held - s.shr.sums.claim

/-- The static rule (R153). -/
def State.staticSlot (s : State) : Bool :=
  decide ((s.cfg .station - 1) % s.cfg .n < s.cfg .k)

/-- The fallback flag of the own frames (R137). -/
def State.inFallback (s : State) : Bool := s.shr.state == .fallback

/-! ## Timers of the ramp engine (R32, R36) -/

/-- The record at a segment index; past the last record, an END (log 13). -/
def State.segmentAt (s : State) (i : Nat) : Segment :=
  if h : i < 16 then s.prf.table[i] else Segment.reset

def State.segment (s : State) : Segment := s.segmentAt s.ramp.segIndex

/-- A RAMP segment's time limit in seconds (R36). -/
def rampLimit (target start : Int) (rate : Nat) : Nat :=
  2 * (target - start).natAbs * 60 / rate + 1800

/-! ## Random draws (log 1) -/

/-- The next free draw, brought inside `lo .. lo + span - 1`. -/
def State.drawIn (s : State) (lo span : Nat) : Nat :=
  lo + Config.draw s.draws % span

end Sys2Proof.Machine
end

