-- ==== Sys2Proof/Machine/Ops.lean ====
section
/-! DEFINITION. The shared operations between blocks: recording an event, setting a reason to send, a fault condition
gone, MAIN, the fan and the cooling rule, lock-state and phase changes, the held current and the burn slot, leaving
HEATING, the notices of PRT, a fault condition present, and the ramp engine's segments. -/

namespace Sys2Proof.Machine

/-! ## ALK: the event list and the notice lines (R177, R179) -/

/-- The notice lines are set anew from the list and the routing in force (R179). -/
def alkLines (s : State) : State :=
  s.modAlk fun a => { a with attn := s.attnDue, alert := s.alertDue }

/-- The record that a block asks for, stamped with the seconds count (R177). -/
def State.stamp (s : State) (k : EventKind) (d : Half) : EventRec where
  kind := k
  detail := d
  time := s.alk.seconds

/-- A block's request to record an event (R177). -/
def alkRecord (k : EventKind) (d : Half) (s : State) : State :=
  if s.routing k.cls = 0 then s
  else if s.alk.events.length < 32 then
    alkLines (s.modAlk fun a => { a with events := a.events ++ [s.stamp k d] })
  else s.modAlk fun a => { a with lost := true }

/-! ## BLI: reasons to send (R109) -/

/-- A reason set in BLI: discarded in OFF and STOPPED, else pending; QUIET becomes WAITING. -/
def bliSetReason (k : FrameKind) (s : State) : State :=
  match s.bli.tx with
  | .off | .stopped => s
  | .quiet => s.modBli fun b => { b with reasons := b.reasons ||| k.bit, tx := .waiting }
  | .waiting | .sending => s.modBli fun b => { b with reasons := b.reasons ||| k.bit }

/-! ## PRT: a condition gone (R159) -/

/-- The set with the flag of `c` gone. -/
def clearFlag (c : FaultCode) (l : List FaultEntry) : List FaultEntry :=
  l.map fun e => if e.code = c then { e with present := false } else e

def prtGone (c : FaultCode) (s : State) : State :=
  if s.prt.faults.any fun e => e.code == c && e.present then
    alkRecord .faultGone (detail 0 c.code) (s.modPrt fun p => { p with faults := clearFlag c p.faults })
  else s

/-! ## DRV: outputs and MAIN (R93, R96, R97, R100) -/

/-- The element outputs set; a second in which one was on does not count as cooling (R164). -/
def drvOutputs (o : PerElement Bool) (s : State) : State :=
  (s.modDrv fun d => { d with outputs := o }).modPrt fun p => { p with heatSeen := p.heatSeen || o.any }

/-- The window in progress is abandoned: outputs off, no window until the next zero-cross (R97). -/
def drvAbandon (s : State) : State :=
  (drvOutputs (PerElement.all false) s).modDrv fun d => { d with windowRunning := false }

/-- The ELEMENT_LOW condition ends when MAIN opens (R100). -/
def drvLowGone (s : State) : State :=
  if s.drv.lowPresent then prtGone .elementLow (s.modDrv fun d => { d with lowPresent := false }) else s

/-- MAIN follows its three conditions (R96); its opening abandons the window (R97). With MAIN open already a trip leaves a
window with every on-count 0 running (log 39). -/
def drvMain (s : State) : State :=
  if s.mainAllowed then s.modDrv fun d => { d with main := true }
  else if s.drv.main then drvLowGone (drvAbandon (s.modDrv fun d => { d with main := false }))
  else s

/-! ## REG: the fan and the cooling rule's start and stop (R82, R85) -/

def regFan (s : State) : State :=
  s.modReg fun r => { r with fan := s.fanLevel }

/-- The cooling rule starts at 60 with a sample as its base (R85). -/
def regCoolStart (s : State) : State :=
  s.modReg fun r => { r with ruleLevel := 60, base := s.coolingSample, rate := none, coolTimer := some (30 * secondMs) }

def regCoolStop (s : State) : State :=
  s.modReg fun r => { r with coolTimer := none }

def Phase.cools (p : Phase) : Bool := p == .cooling || p == .tripped

/-- The cooling rule at a phase change (R85): it starts on entering COOLING or TRIPPED from elsewhere, runs on between
the two, and stops on entering IDLE, UNLOCKING or HELD. -/
def regPhase (old new : Phase) (s : State) : State :=
  if new.cools then
    if old.cools then s else regCoolStart s
  else if new = .idle ∨ new = .unlocking ∨ new = .held then regCoolStop s
  else s

/-! ## LCK: lock-state changes (R45, R58) -/

/-- A LOCK_STATE event (section 12.4). -/
def lckRecord (s : State) : State :=
  alkRecord .lockState
    (detail s.lck.state.code ((if s.doorClosed then 1 else 0) + (if s.latchEngaged then 2 else 0))) s

/-- The lock state is set; a change is recorded and then handed to DRV (R45, R96; log 10). -/
def lckSetState (st : LockState) (s : State) : State :=
  if s.lck.state = st then s
  else drvMain (lckRecord (s.modLck fun l => { l with state := st }))

/-- JAMMED carrying `v` is entered, or its carried value changes; recorded before DRV acts (R45; log 10). -/
def lckSetJammed (v : Bool) (s : State) : State :=
  if s.lck.state = .jammed ∧ s.lck.carried = v then s
  else drvMain (lckRecord (s.modLck fun l => { l with state := .jammed, carried := v }))

/-- In TRIPPED a latch that shows engaged in UNLOCKED makes the state JAMMED carrying engaged (R58). -/
def lckTripped (s : State) : State :=
  if s.cyc.phase = .tripped ∧ s.lck.state = .unlocked ∧ s.latchEngaged then lckSetJammed true s else s

/-! ## CYC: the phase and the record (R14, R21, R22) -/

/-- The mains-absent timer runs while the drive is SUSPENDED in HEATING (R103). -/
def drvPhase (s : State) : State :=
  s.modDrv fun d => { d with mainsTimer := if s.cyc.phase = .heating ∧ d.state = .suspended then some 0 else none }

/-- The cycle phase changes: the abort-pending flag is cleared (it stands in LOCKING only: R5, R6, R14), one PHASE_CHANGE
is recorded (R22), and then the blocks that follow the phase are told (R58, R83, R85, R103; log 10). -/
def cycSetPhase (p : Phase) (s : State) : State :=
  if s.cyc.phase = p then s
  else
    let s1 := s.modCyc fun c => { c with phase := p, abortPending := false }
    let s2 := alkRecord .phaseChange (detail p.code s1.cyc.record.outcome.code) s1
    lckTripped (regFan (drvPhase (regPhase s.cyc.phase p s2)))

def cycOutcome (o : CycleOutcome) (s : State) : State :=
  s.modCyc fun c => { c with record := { c.record with outcome := o } }

def cycFirstFault (c : FaultCode) (s : State) : State :=
  s.modCyc fun y => { y with record := { y.record with firstFault := y.record.firstFaultAfter c } }

/-- The record and the cooling count cleared, as START and the commit in HELD do (R5, R19). -/
def cycClearRecord (o : CycleOutcome) (s : State) : State :=
  s.modCyc fun c => { c with
    abortPending := false, coolingTime := 0, coolSlowRaised := false,
    record := { Record.reset with outcome := o, peakA := s.filteredA } }

/-- A shed counted in the record while the phase is HEATING (R148). -/
def cycCountShed (s : State) : State :=
  if s.cyc.phase = .heating then
    s.modCyc fun c => { c with record := { c.record with shedCount := satSucc 255 c.record.shedCount } }
  else s

/-! ## SHR: the held current (R141 to R144) -/

/-- A claim that stands is cancelled (R140, R143). -/
def shrDropClaim (s : State) : State :=
  s.modShr fun h => { h with co := 0, claim := .none, claimTimer := none }

/-- Ho falls to `h`: counted as a shed, SHED set (R141, R143, R148). -/
def shrShed (h : Nat) (s : State) : State :=
  bliSetReason .shed (cycCountShed (s.modShr fun u => { u with ho := h }))

/-- The size of a claim: the smallest of Go − Ho, the room and the raise step (R144). -/
def State.claimStep (s : State) : Nat :=
  min (s.shr.go - s.shr.ho) (min s.room (s.cfg .raiseStep))

/-- A claim is made if its step is above 0 (R144). -/
def shrClaim (s : State) : State :=
  if 0 < s.claimStep then
    bliSetReason .claim (s.modShr fun u => { u with co := s.claimStep, claim := .announcing })
  else s

/-- The evaluation's comparison of Go with Ho (R142). -/
def shrCompare (s : State) : State :=
  if s.shr.go < s.shr.ho then shrDropClaim (shrShed s.shr.go s)
  else if s.shr.ho < s.shr.go ∧ s.shr.claim = .none then shrClaim s
  else s

/-- An evaluation in SHARING (R142). -/
def shrEvaluate (s : State) : State :=
  shrCompare (s.modShr fun u => { u with go := s.targetOf })

/-- Ho set to min(Wo, S) in FALLBACK: a drop sets SHED, a rise SETTLED (R141). -/
def shrFollow (s : State) : State :=
  let h := min s.shr.wo s.shr.solo
  if h < s.shr.ho then shrShed h s
  else if s.shr.ho < h then bliSetReason .settled (s.modShr fun u => { u with ho := h })
  else s

/-- A re-listen lowers Ho to Wo and never raises it (R141). -/
def shrLower (s : State) : State :=
  if s.shr.wo < s.shr.ho then shrShed s.shr.wo s else s

/-- REG hands over a want (R80, R139, R141, R142). -/
def shrWant (w : Nat) (s : State) : State :=
  let s1 := s.modShr fun u => { u with wo := w }
  match s1.shr.state with
  | .off | .listening true => s1
  | .listening false => shrLower s1
  | .sharing => shrEvaluate s1
  | .fallback => shrFollow s1

/-! ## SHR: the slot state, the valve and the end of a request (R149, R155) -/

/-- The slot state is set; a change moves the valve, sets SLOT and is recorded (R149). -/
def shrSetSlot (st : SlotState) (s : State) : State :=
  if s.shr.slot = st then s
  else
    alkRecord .slotState (detail st.code s.shr.sums.holders)
      (bliSetReason .slot (s.modShr fun u => { u with slot := st, valve := st == .hold }))

/-- A release or withdrawal from PRF (R155). -/
def shrRelease (s : State) : State :=
  shrSetSlot .none (s.modShr fun u => { u with request := .none, settleTimer := none, backoffTimer := none })

/-! ## PRF to IDLE, and leaving HEATING (R10, R42) -/

/-- The ramp engine returns to IDLE; what it holds for reading stays (R42). HEAT_TIMEOUT is gone before SLOT_TIMEOUT (log 10). -/
def prfIdle (s : State) : State :=
  prtGone .slotTimeout (prtGone .heatTimeout
    (s.modRamp fun r => { r with state := .idle, slotFlag := .none, stepTimer := none }))

/-- REG's part of the leaving actions: D = I = 0, evaluations stop, Wo = 0 is handed over (R10, R74). -/
def regLeave (s : State) : State :=
  shrWant 0 (s.modReg fun r => { r with demand := 0, integral := 0, evalTimer := none })

/-- HEATING is left for `p` with the leaving actions (R10). Their order in the event is a DESIGN CHOICE (log 10). -/
def cycLeaveHeating (p : Phase) (s : State) : State :=
  regLeave (shrRelease (drvMain
    ((prfIdle (cycSetPhase p s)).modDrv fun d => { d with permitted := false })))

/-! ## PRT's notices to CYC (R11, R12) -/

/-- A trip notice (R12). -/
def cycTrip (c : FaultCode) (s : State) : State :=
  match s.cyc.phase with
  | .idle | .tripped => s
  | .heating => cycLeaveHeating .tripped (cycFirstFault c (cycOutcome .tripped s))
  | .locking | .cooling | .unlocking | .held => cycSetPhase .tripped (cycFirstFault c (cycOutcome .tripped s))

/-- An abort notice (R11). -/
def cycAbort (c : FaultCode) (s : State) : State :=
  match s.cyc.phase with
  | .idle | .held => s
  | .heating => cycLeaveHeating .cooling (cycOutcome .faultAborted (cycFirstFault c s))
  | .locking | .cooling | .unlocking | .tripped => cycFirstFault c s

/-- The ramp engine reports completion (R9, R42). -/
def cycComplete (s : State) : State :=
  if s.cyc.phase = .heating then cycLeaveHeating .cooling (cycOutcome .completed s) else s

/-! ## PRT: a condition present (R158, R160 to R162) -/

/-- The set after a report of `c` present, dated `now` if it is new. -/
def raiseFlag (c : FaultCode) (now : Nat) (l : List FaultEntry) : List FaultEntry :=
  if l.any fun e => e.code == c then l.map fun e => if e.code = c then { e with present := true } else e
  else l ++ [{ code := c, first := now, present := true }]

/-- The action of the code's class: a trip reaches DRV and then CYC (R160; log 10), an abort CYC, a degrade no one. -/
def prtAction (c : FaultCode) (s : State) : State :=
  match c.cls with
  | .trip => cycTrip c (drvMain s)
  | .abort => cycAbort c s
  | .degrade => s

/-- A report of `c` present (R158): the entry and its record before the action of its class (log 10). -/
def prtRaise (c : FaultCode) (s : State) : State :=
  if s.prt.faults.any fun e => e.code == c && e.present then s
  else
    prtAction c (alkRecord .faultRaised (detail c.code c.cls.code)
      (s.modPrt fun p => { p with faults := raiseFlag c s.alk.seconds p.faults }))

/-! ## The ramp engine's segments and the burn slot (R32, R39, R150, R153) -/

/-- Steps 3 and 4 of a segment's beginning (R32); at an END the timers of the last segment stay (R42, log 17). -/
def rampEnter (s : State) : State :=
  let g := s.segment
  let s1 := s.modRamp fun r => { r with
    segTimer := 0, holdTimer := 0, dropRun := 0, heatTimeoutRaised := false, segStart := r.sp }
  match g.kind with
  | .ramp =>
    alkRecord .segmentBegin (detail s.ramp.segIndex g.kind.code)
      (s1.modRamp fun r => { r with state := .ramping, up := decide (r.sp ≤ (g.target : Int)) })
  | .hold =>
    alkRecord .segmentBegin (detail s.ramp.segIndex g.kind.code) (s1.modRamp fun r => { r with state := .holding })
  | .endRec | .code3 =>
    cycComplete (s1.modRamp fun r => { r with state := .finished, segTimer := s.ramp.segTimer, holdTimer := s.ramp.holdTimer })

/-- A grant from SHR (R39): SLOT_TIMEOUT gone, SLOT_GRANTED, then the segment begins (log 10); outside WAITING_SLOT the
grant is answered with a release (R41). -/
def prfGrant (s : State) : State :=
  if s.ramp.state = .waitingSlot then
    rampEnter (alkRecord .slotGranted (BitVec.ofNat 16 (min s.ramp.slotWait b16Limit))
      (prtGone .slotTimeout (s.modRamp fun r => { r with slotFlag := .granted })))
  else shrRelease s

/-- The slot becomes HOLD: the request is GRANTED and the grant goes to PRF, after the SLOT_STATE record (R149, R151, R153;
log 10). -/
def shrHold (s : State) : State :=
  prfGrant (shrSetSlot .hold
    (s.modShr fun u => { u with request := .granted, settleTimer := none, backoffTimer := none }))

/-- The slot back-off starts: 5.0 to 20.0 s in steps of 0.1 s (R152). -/
def shrBackOff (s : State) : State :=
  (s.modShr fun u => { u with
    request := .backingOff, settleTimer := none, backoffTimer := some (s.drawIn 50 151 * 100) }).bumpDraws

/-- The static rule decides a request (R153). -/
def shrStatic (s : State) : State :=
  if s.staticSlot then shrHold s
  else s.modShr fun u => { u with request := .waiting, settleTimer := none, backoffTimer := none }

/-- A slot request is taken, new or again (R150, R153). In OFF none is taken (the table of chapter 9). -/
def shrTakeRequest (s : State) : State :=
  match s.shr.state with
  | .off => s
  | .listening _ | .fallback => shrStatic s
  | .sharing =>
    if s.shr.sums.holders < s.cfg .k then
      shrSetSlot .claim (s.modShr fun u => { u with request := .claiming, settleTimer := none, backoffTimer := none })
    else shrBackOff s

/-- A slot request from PRF: taken with the request standing NONE (R149). -/
def shrRequest (s : State) : State :=
  if s.shr.request = .none then shrTakeRequest s else s

/-- Step 1 of a segment's beginning: the engine waits and the slot is requested, SLOT_WAIT recorded before whatever SHR does
(R39; for a request that becomes a claim the order is the model's, log 10). -/
def rampWait (s : State) : State :=
  shrRequest (alkRecord .slotWait (detail 0 s.ramp.segIndex)
    (s.modRamp fun r => { r with state := .waitingSlot, slotFlag := .requested, slotWait := 0 }))

/-- Step 2: the slot is given back before a segment outside the burn run (R41). -/
def rampRelease (s : State) : State :=
  shrRelease (s.modRamp fun r => { r with slotFlag := .none })

def Segment.heats (g : Segment) : Bool := g.kind == .ramp || g.kind == .hold

/-- A segment begins (R32). -/
def rampBegin (i : Nat) (s : State) : State :=
  let s1 := s.modRamp fun r => { r with segIndex := i }
  let g := s1.segment
  if g.heats && g.burn && s1.ramp.slotFlag == .none then rampWait s1
  else if g.heats && !g.burn && s1.ramp.slotFlag == .granted then rampEnter (rampRelease s1)
  else rampEnter s1

/-- The ramp engine starts on entry to HEATING (R31). -/
def rampStart (s : State) : State :=
  rampBegin 0 (s.modRamp fun r => { r with
    sp := min s.filteredA (s.cfg .tmax : Int), frac := 0, holdTimer := 0, segTimer := 0, dropRun := 0, slotWait := 0,
    heatTimeoutRaised := false, slotFlag := .none, stepTimer := some secondMs })

/-! ## SHR: causes and fallback (R138, R140, R154) -/

/-- A SHARE_STATE event (R156). -/
def shrRecord (s : State) : State :=
  alkRecord .shareState (detail s.shr.state.code s.shr.causes.toNat) s

/-- The slot on entry to FALLBACK (R154). -/
def shrSlotFallback (s : State) : State :=
  match s.shr.request with
  | .claiming => shrStatic (shrSetSlot .none s)
  | .backingOff => shrStatic s
  | .none | .waiting | .granted => s

/-- A claim that stands is withdrawn on entry to FALLBACK (R140). -/
def shrWithdraw (s : State) : State :=
  if s.shr.claim = .none then s else bliSetReason .withdraw (shrDropClaim s)

/-- On entry to FALLBACK Ho becomes min(Wo, S); a drop sets SHED (R140). -/
def shrSolo (s : State) : State :=
  let h := min s.shr.wo s.shr.solo
  if h < s.shr.ho then shrShed h s else s.modShr fun u => { u with ho := h }

/-- FALLBACK is entered by R140's list in its order: the slot's records before SHARE_STATE (log 10). -/
def shrEnterFallback (s : State) : State :=
  shrRecord (shrSlotFallback (bliSetReason .settled (shrSolo (shrWithdraw
    (s.modShr fun u => { u with state := .fallback, listenTimer := none })))))

/-- A cause joins the set (R138, R140). -/
def shrAddCause (c : Cause) (s : State) : State :=
  let s1 := s.modShr fun u => { u with causes := u.causes ||| c.bit }
  match s.shr.state with
  | .off | .fallback => s1
  | .listening _ | .sharing => if s.shr.causes = 0 then shrEnterFallback s1 else s1

/-- The re-listen begins when the last cause leaves (R140). -/
def shrRelisten (s : State) : State :=
  shrRecord (bliSetReason .settled (s.modShr fun u => { u with state := .listening false, listenTimer := some 3500 }))

/-- A cause leaves the set (R138, R140). -/
def shrRemoveCause (c : Cause) (s : State) : State :=
  let s1 := s.modShr fun u => { u with causes := u.causes &&& ~~~c.bit }
  if s1.shr.causes = 0 ∧ s.shr.causes ≠ 0 ∧ s.shr.state = .fallback then shrRelisten s1 else s1

/-- PTB hands over its sums (R134, R142). -/
def shrSums (x : Sums) (s : State) : State :=
  let s1 := s.modShr fun u => { u with sums := x }
  if s1.shr.state = .sharing then shrEvaluate s1 else s1

/-! ## Taking an event -/

/-- What makes CYC examine R13's conditions in TRIPPED: a change of the unlock test's result as handed on, a change of the
active fault set, or the end of a lock travel. -/
def examines (s t : State) : Bool :=
  s.lck.testPass != t.lck.testPass || s.prt.faults != t.prt.faults || (s.travelling && !t.travelling)

end Sys2Proof.Machine
end

