-- ==== Sys2Proof/Machine/LockOps.lean ====
section
/-! DEFINITION. Operations of the lock controller and of CYC on its reports: requests, travels, supervision and the unlock
test's hand-over (Door Lock chapter; R6, R7, R13, R15, R16). -/

namespace Sys2Proof.Machine

/-! ## The unlock test handed on (R47) and CYC's requests (R13) -/

/-- The LOCK_LOST condition ends (R56). -/
def lckLostGone (s : State) : State :=
  if s.lck.lockLostPresent then prtGone .lockLost (s.modLck fun l => { l with lockLostPresent := false }) else s

/-- The DOOR_FORCED condition ends (R57). -/
def lckForcedGone (s : State) : State :=
  if s.lck.doorForcedPresent then prtGone .doorForced (s.modLck fun l => { l with doorForcedPresent := false }) else s

/-- The unlock test is evaluated afresh and its result handed on (R47); a pass ends LOCK_LOST (R56), before CYC asks for an
unlock (log 10). -/
def lckReevaluate (s : State) : State :=
  let s1 := s.modLck fun l => { l with testPass := s.unlockTest }
  if s.unlockTest then lckLostGone s1 else s1

/-- Lt in milliseconds (R45). -/
def State.travelMs (s : State) : Nat := s.cfg .lt * 100

/-- The 200 ms clearance of an unlock travel (R54). -/
def lckClearance (s : State) : State :=
  s.modLck fun l => { l with stage := .clearance, motor := .unlock, travelTimer := none, stageTimer := some 200 }

/-- An unlock drive begins; with the latch already free it goes straight to the clearance (R54). -/
def lckUnlockDrive (s : State) : State :=
  if s.latchEngaged then
    s.modLck fun l => { l with
      stage := .unlockDrive, motor := .unlock, travelTimer := some s.travelMs, stageTimer := none }
  else lckClearance s

/-- An unlock request is taken (R53). -/
def lckUnlock (s : State) : State :=
  lckUnlockDrive ((lckSetState .unlocking s).modLck fun l => { l with attempts := 1 })

/-- CYC's unlock request in COOLING: taken by LCK, it leads to UNLOCKING; refused, nothing changes (R13). -/
def cycCoolExam (s : State) : State :=
  if s.cyc.phase = .cooling ∧ s.takesUnlock then cycSetPhase .unlocking (lckUnlock s) else s

/-- CYC's unlock request in TRIPPED, without leaving TRIPPED (R13). -/
def cycTrippedExam (s : State) : State :=
  if s.trippedRelease && s.takesUnlock then lckUnlock s else s

/-- An event is taken whole; CYC examines R13's conditions in TRIPPED where the event makes it. -/
def takeEvent (f : State → State) (s : State) : State :=
  let t := f s
  if examines s t then cycTrippedExam t else t

/-! ## Entry to HEATING (R7, R31, R74, R101) -/

/-- REG's start and DRV's counters on entry to HEATING (R74, R101). -/
def heatingStart (s : State) : State :=
  (s.modReg fun r => { r with demand := 0, integral := 0, limited := true, evalTimer := some secondMs }).modDrv
    fun d => { d with overRun := 0, lowRun := 0 }

/-- HEATING is entered from LOCKING (R7): PHASE_CHANGE, then MAIN, REG and the ramp engine with its records (log 10). -/
def cycEnterHeating (s : State) : State :=
  rampStart (heatingStart (drvMain ((cycSetPhase .heating s).modDrv fun d => { d with permitted := true })))

/-- LCK reports LOCKED (R6, R15). -/
def cycLocked (s : State) : State :=
  if s.cyc.phase = .locking then
    if s.cyc.abortPending then cycSetPhase .cooling (cycOutcome .aborted s) else cycEnterHeating s
  else s

/-- LCK reports a lock failure with the latch value (R6, R15). -/
def cycLockFailure (engaged : Bool) (s : State) : State :=
  if s.cyc.phase = .locking then
    cycSetPhase (if engaged then .cooling else .idle)
      (cycOutcome (if s.cyc.abortPending then .aborted else .lockFailed) s)
  else s

/-- LCK reports UNLOCKED (R15). -/
def cycUnlocked (s : State) : State :=
  if s.cyc.phase = .unlocking then cycSetPhase .idle s else s

/-! ## The lock travel (R48 to R52) -/

/-- A travel's parts end: no stage, no timer, the motor off. -/
def lckStop (s : State) : State :=
  s.modLck fun l => { l with stage := .none, motor := .off, travelTimer := none, stageTimer := none }

/-- The 200 ms seat (R49). -/
def lckSeat (s : State) : State :=
  s.modLck fun l => { l with stage := .seat, motor := .lock, travelTimer := none, stageTimer := some 200 }

/-- A lock drive begins; with the latch already engaged it goes straight to the seat (R49). -/
def lckLockDrive (s : State) : State :=
  if s.latchEngaged then lckSeat s
  else s.modLck fun l => { l with stage := .lockDrive, motor := .lock, travelTimer := some s.travelMs, stageTimer := none }

/-- LOCK_FAIL reported present and gone (R159), then the lock failure to CYC (R52; this order is the model's, log 10). -/
def lckFail (s : State) : State :=
  cycLockFailure s.latchEngaged (prtGone .lockFail (prtRaise .lockFail (s.modLck fun l => { l with attempts := 0 })))

/-- A lock request: taken, or refused with a lock failure (R48). -/
def lckLock (s : State) : State :=
  if s.takesLock then lckLockDrive ((lckSetState .locking s).modLck fun l => { l with attempts := 1 }) else lckFail s

/-- UNLOCKED is entered (R58's test in TRIPPED included). -/
def lckEnterUnlocked (s : State) : State :=
  lckTripped (lckSetState .unlocked s)

/-- A lock attempt has failed: a back-drive after the first, JAMMED after the second, recorded before LOCK_FAIL (R50, R52;
log 10). -/
def lckAttemptFailed (s : State) : State :=
  if s.lck.attempts < 2 then
    s.modLck fun l => { l with
      stage := .lockBackDrive, motor := .unlock, travelTimer := none, stageTimer := some s.travelMs }
  else lckFail (lckSetJammed s.latchEngaged (lckStop s))

/-- A door return begins (R51): an unlock drive whose travel timer runs on through the clearance. -/
def lckDoorReturn (s : State) : State :=
  s.modLck fun l => { l with
    motor := .unlock, travelTimer := some s.travelMs,
    stage := if s.latchEngaged then .doorReturn else .doorReturnClearance,
    stageTimer := if s.latchEngaged then none else some 200 }

/-- A door that shows open while LOCKING (R51): a lock state that it ends in is recorded before LOCK_FAIL (log 10). -/
def lckDoorOpened (s : State) : State :=
  let s1 := (lckStop s).modLck fun l => { l with attempts := 0 }
  if s1.unlockTest then lckDoorReturn s1
  else if s1.latchEngaged then lckFail (lckSetJammed true s1)
  else lckFail (lckEnterUnlocked s1)

/-- A door return ends (R51): the lock state is recorded before LOCK_FAIL (log 10). -/
def lckReturnEnd (s : State) : State :=
  let s1 := lckStop s
  if s1.latchEngaged then lckFail (lckSetJammed true s1) else lckFail (lckEnterUnlocked s1)

/-! ## The unlock travel (R54, R55) -/

/-- The door shows open in JAMMED carrying free: the jam ends (R58). -/
def lckJamEnds (s : State) : State :=
  if s.lck.state = .jammed ∧ s.lck.carried = false ∧ s.doorOpen then lckEnterUnlocked s else s

/-- An unlock travel ends in JAMMED, recorded before UNLOCK_FAIL is present and gone (R55, R159); then R58's test of the door
(log 10). -/
def lckUnlockJam (s : State) : State :=
  lckJamEnds (prtGone .unlockFail (prtRaise .unlockFail
    ((lckSetJammed s.latchEngaged (lckStop s)).modLck fun l => { l with attempts := 0 })))

/-- An unlock attempt has failed: a back-drive after the first, JAMMED after the second (R55). -/
def lckUnlockFailed (s : State) : State :=
  if s.lck.attempts < 2 then
    s.modLck fun l => { l with
      stage := .unlockBackDrive, motor := .lock, travelTimer := none, stageTimer := some s.travelMs }
  else lckUnlockJam s

/-- The clearance of an unlock travel has run: UNLOCKED, whatever the latch shows (R54). -/
def lckUnlockDone (s : State) : State :=
  cycUnlocked (lckEnterUnlocked ((lckStop s).modLck fun l => { l with attempts := 0 }))

/-! ## Supervision (R56 to R58) -/

/-- LOCK_LOST (R56), raised with its trip before the lock state is recorded, then R58's test of the door (log 10); the condition
ends at once where the unlock test passes (log 14). -/
def lckLost (s : State) : State :=
  let s1 := prtRaise .lockLost (s.modLck fun l => { l with lockLostPresent := true })
  let s2 := lckJamEnds (lckSetJammed false s1)
  if s2.lck.testPass then lckLostGone s2 else s2

/-- DOOR_FORCED (R57), raised with its trip before the lock state is recorded (log 10); from LOCKED the state becomes JAMMED
carrying engaged. -/
def lckForced (s : State) : State :=
  let s1 := prtRaise .doorForced (s.modLck fun l => { l with doorForcedPresent := true })
  if s1.lck.state = .locked then lckSetJammed true s1 else s1

/-- The latch has come to show engaged (R45, R49, R56, R58). LOCK_LOST gone comes before the lock state (log 10); a door that
already shows open raises nothing (log 19). -/
def lckLatchEngaged (s : State) : State :=
  let s1 := lckLostGone s
  if s1.lck.stage = .lockDrive then lckSeat s1
  else if s1.lck.state = .jammed then lckSetJammed true s1
  else lckTripped s1

/-- The latch has come to show free (R49, R51, R54, R56, R57). DOOR_FORCED gone comes before LOCK_LOST (log 10). -/
def lckLatchFree (s : State) : State :=
  let s1 := lckForcedGone s
  match s1.lck.stage with
  | .seat => lckAttemptFailed (lckStop s1)
  | .unlockDrive => lckClearance s1
  | .doorReturn => s1.modLck fun l => { l with stage := .doorReturnClearance, stageTimer := some 200 }
  | .none | .lockDrive | .lockBackDrive | .lockPause | .clearance | .unlockBackDrive | .unlockPause
  | .doorReturnClearance => if s1.doorHeld then lckLost s1 else s1

def Stage.isReturn (g : Stage) : Bool := g == .doorReturn || g == .doorReturnClearance

/-- The door has come to show open (R51, R57, R58). In UNLOCKING it is DOOR_FORCED by what the latch shows now, also after the
latch has shown free and shows engaged again (log 44). -/
def lckDoorOpens (s : State) : State :=
  if s.lck.state = .locking then
    if s.lck.stage.isReturn then s else lckDoorOpened s
  else if s.latchEngaged ∧ (s.doorHeld ∨ s.lck.state = .unlocking) then lckForced s
  else lckJamEnds s

/-! ## The initial latch report (R2, R44) -/

/-- CYC takes the initial latch report (R2), after a commit that came before it too (log 38). -/
def cycLatchReport (engaged : Bool) (s : State) : State :=
  if engaged ∧ s.cyc.phase = .idle then
    match s.oldestTrip with
    | none => cycSetPhase .held s
    | some c =>
      cycSetPhase .tripped (s.modCyc fun y => { y with
        record := { y.record with outcome := .tripped, firstFault := some c } })
  else s

/-- The first known latch value ends start-up: one LOCK_STATE event, then the report (R44). -/
def lckStartUp (engaged : Bool) (s : State) : State :=
  cycLatchReport engaged (drvMain (lckRecord
    (s.modLck fun l => { l with startUp := false, state := if engaged then .locked else .unlocked })))

/-- A new debounced value of a switch, acted on by LCK. -/
def lckActs (sw : SwitchId) (level : Bool) (s : State) : State :=
  match sw, level with
  | .latch, _ =>
    if s.lck.startUp then lckStartUp level s
    else if level then lckLatchEngaged s else lckLatchFree s
  | .door, true => if s.lck.startUp then s else lckForcedGone s
  | .door, false => if s.lck.startUp then s else lckDoorOpens s

def Lck.switch (l : Lck) : SwitchId → Switch
  | .door => l.door
  | .latch => l.latch

def Lck.setSwitch (l : Lck) (sw : SwitchId) (x : Switch) : Lck :=
  match sw with
  | .door => { l with door := x }
  | .latch => { l with latch := x }

/-- The latch as it shows at the moment a drive expires: a raw level whose 50 ms end at this very moment shows, although the
expiry is taken first, and ends the condition that it ends (R49, R52, R54 to R57; log 37). -/
def lckMeet (s : State) : State :=
  if s.lck.startUp = false ∧ s.lck.latch.timer = some 0 then
    let s1 := s.modLck fun l => { l with latch := { l.latch with value := some l.latch.raw, timer := none } }
    if s1.latchEngaged then lckLostGone s1 else lckForcedGone s1
  else s

/-- A raw level has held for 50 ms: a change of the debounced value is acted on (R43). The row is taken with its level as the raw
level, whatever the raw level was and whether or not the 50 ms run (log 12). -/
def lckDebounced (sw : SwitchId) (level : Bool) (s : State) : State :=
  let old := (s.lck.switch sw).value
  let s1 := s.modLck fun l => l.setSwitch sw { raw := level, value := some level, timer := none }
  if old = some level then s1 else lckActs sw level s1

end Sys2Proof.Machine
end

