-- ==== Sys2Proof/Machine/BankOps.lean ====
section
/-! DEFINITION. Operations of the bank line interface and the peer table: attempts, reception, line conditions, records
(The Bank Line and Peer Records chapters). -/

namespace Sys2Proof.Machine

/-! ## Sending (R109 to R115) -/

/-- A reason is pending. -/
def Bli.has (b : Bli) (k : FrameKind) : Bool := b.reasons &&& k.bit != 0

/-- The pending reason of highest priority (R109). -/
def Bli.nextKind (b : Bli) : Option FrameKind :=
  [FrameKind.depart, .shed, .withdraw, .claim, .settled, .slot, .periodic].find? b.has

/-- The idle gap, in bit times (R106, R110). -/
def idleGap : Nat := 12

/-- An attempt may begin: WAITING, no other frame on the line, and the released run has reached the idle gap plus the back-off
(R110). -/
def Bli.mayBegin (b : Bli) : Bool :=
  b.tx == .waiting && b.frame != .other && decide (idleGap + b.backoff ≤ b.releasedRun)

/-- The snapshot of a frame's fields, with a fresh contention word (R107, R111). -/
def State.snapshot (s : State) (k : FrameKind) : Frame where
  word := s.drawIn 1 255
  station := s.cfg .station
  group := s.cfg .group
  kind := k
  held := s.shr.ho
  want := s.shr.wo
  claim := s.shr.co
  slot := s.shr.slot
  phase := s.reportedPhase
  fallback := s.inFallback

/-- An attempt begins: the own frame starts on the line (R111, R117). -/
def bliBegin (k : FrameKind) (s : State) : State :=
  let f := s.snapshot k
  (s.modBli fun b => { b with
    attempt := some { frame := f, check := f.check, sent := b.reasons }, backoff := 0, tx := .sending,
    output := .driving, frame := .own, releasedRun := 0 }).bumpDraws

/-- The period timer starts with a period of 875 to 1125 ms (R114). -/
def bliPeriod (s : State) : State :=
  (s.modBli fun b => { b with periodTimer := some (s.drawIn 875 251) }).bumpDraws

/-- A lost attempt: driving stops, back-off of 4 × k bit times, WAITING, the reasons kept (R112). -/
def bliLost (s : State) : State :=
  (s.modBli fun b => { b with
    attempt := none, backoff := 4 * s.drawIn 0 16, tx := .waiting, output := .released, frame := .other,
    releasedRun := 0 }).bumpDraws

/-- SHR takes a completion report (R145, R150). -/
def shrCompletion (f : Frame) (s : State) : State :=
  let s1 := if s.shr.claim = .announcing ∧ 0 < f.claim ∧ f.claim = s.shr.co then
      s.modShr fun u => { u with claim := .settling, claimTimer := some 300 } else s
  if s1.shr.request = .claiming ∧ f.slot = .claim ∧ s1.shr.settleTimer = none then
    s1.modShr fun u => { u with settleTimer := some 300 } else s1

/-- BLI reports the departure to ALK (R115, R176). -/
def alkDeparture (d : Departure) (s : State) : State :=
  s.modAlk fun a => { a with resetPending := a.resetPending.map fun r =>
    if r.departure = .waiting then { r with departure := d } else r }

/-- A DEPART frame has completed: the departure was sent (R115). -/
def bliDepartSent (s : State) : State :=
  alkDeparture .sent (s.modBli fun b => { b with departureTimer := none })

/-- QUIET if no reason is left, WAITING otherwise (R113). -/
def bliAfter (s : State) : State :=
  s.modBli fun b => { b with tx := if b.reasons = 0 then .quiet else .waiting }

/-- A successful attempt (R113). A reason pending when the attempt began leaves the set, set again since or not (log 40). -/
def bliSucceed (a : Attempt) (s : State) : State :=
  let s1 := bliPeriod (s.modBli fun b => { b with
    attempt := none, reasons := b.reasons &&& ~~~a.sent, backoff := 0, lastKind := some a.frame.kind, output := .released,
    releasedRun := 0 })
  let s2 := shrCompletion a.frame s1
  bliAfter (if a.frame.kind = .depart then bliDepartSent s2 else s2)

/-- ALK asks BLI to depart (R115). -/
def bliDepart (s : State) : State :=
  match s.bli.tx with
  | .quiet | .waiting | .sending => bliSetReason .depart (s.modBli fun b => { b with departureTimer := some 50 })
  | .off | .stopped => alkDeparture .notSent s

/-! ## Line conditions (R118 to R121) -/

/-- A LINE_STATE event (section 12.4): UNRELIABLE 0, SILENT 1, LINE_HELD 2. -/
def lineRecord (cond : Nat) (standing : Bool) (s : State) : State :=
  alkRecord .lineState (detail cond (if standing then 1 else 0)) s

/-- UNRELIABLE follows the receive error counter (R118): LINE_STATE is recorded before SHR acts on the cause (log 10). -/
def bliReliability (s : State) : State :=
  if s.bli.unreliable = false ∧ 24 ≤ s.bli.errors then
    shrAddCause .unreliable (lineRecord 0 true (s.modBli fun b => { b with unreliable := true }))
  else if s.bli.unreliable = true ∧ s.bli.errors ≤ 8 then
    shrRemoveCause .unreliable (lineRecord 0 false (s.modBli fun b => { b with unreliable := false }))
  else s

/-- A bad frame counts once (R116, R118). -/
def bliBad (s : State) : State :=
  bliReliability (s.modBli fun b => { b with errors := satSucc 31 b.errors })

/-- SILENT is cleared and the silence timer restarted by another station's good frame (R121): LINE_STATE before SHR (log 10). -/
def bliHeard (s : State) : State :=
  let s1 := s.modBli fun b => { b with silenceTimer := b.silenceTimer.map fun _ => 0 }
  if s1.bli.silent then
    shrRemoveCause .silent (lineRecord 1 false (s1.modBli fun b => { b with silent := false }))
  else s1

/-- A good frame from another station moves the counter and the silence timer (R117). -/
def bliGood (s : State) : State :=
  bliHeard (bliReliability (s.modBli fun b => { b with errors := b.errors - 1 }))

/-- NUMBER_CONFLICT, latched at its first setting (R117): reported to PRT before SHR acts on the cause (log 10). -/
def bliConflict (s : State) : State :=
  if s.bli.numberConflict then s
  else shrAddCause .numberConflict (prtRaise .numberConflict (s.modBli fun b => { b with numberConflict := true }))

/-- A departure in progress is reported as not sent (R120). -/
def bliDepartFails (s : State) : State :=
  alkDeparture .notSent (s.modBli fun b => { b with departureTimer := none })

/-- TX_STUCK (R120): a departure fails, PRT is told, then SHR acts on the cause (log 10). -/
def bliStuck (s : State) : State :=
  shrAddCause .txStuck (prtRaise .txStuck (bliDepartFails (s.modBli fun b => { b with
    txStuck := true, tx := .stopped, reasons := 0, attempt := none, output := .disabled, frame := .none,
    periodTimer := none, heldTimer := 0, releasedRun := 0 })))

/-- LINE_HELD (R119): LINE_STATE is recorded before SHR acts on the cause (log 10). -/
def bliHeld (s : State) : State :=
  let s1 := s.modBli fun b => { b with heldTimer := 8, releasedRun := 0 }
  if s1.bli.lineHeld then s1
  else shrAddCause .lineHeld (lineRecord 2 true (s1.modBli fun b => { b with lineHeld := true }))

/-- The line has become idle: at least the idle gap released, no frame under way but an own attempt's; LINE_HELD ends (R106,
R119), LINE_STATE recorded before SHR acts on it (log 10). -/
def bliIdle (s : State) : State :=
  let s1 := s.modBli fun b => { b with
    heldTimer := 0, releasedRun := max idleGap b.releasedRun, frame := if b.tx = .sending then b.frame else .none }
  if s1.bli.lineHeld then
    shrRemoveCause .lineHeld (lineRecord 2 false (s1.modBli fun b => { b with lineHeld := false }))
  else s1

/-! ## Peer records (R126 to R135) -/

/-- A record made of a frame's fields (R127, R129). -/
def Peer.ofFrame (f : Frame) : Peer where
  station := f.station
  state := .live
  group := f.group
  held := f.held
  want := f.want
  claim := f.claim
  slot := f.slot
  phase := f.phase
  fallback := f.fallback
  lastKind := f.kind
  age := 0

def peerOf (station : Nat) (l : List Peer) : Option Peer :=
  l.find? fun p => p.station == station

/-- A station's record replaced. -/
def replacePeer (p : Peer) (l : List Peer) : List Peer :=
  l.map fun q => if q.station = p.station then p else q

/-- A record placed in ascending station order (R125). -/
def insertPeer (p : Peer) : List Peer → List Peer
  | [] => [p]
  | q :: l => if p.station < q.station then p :: q :: l else q :: insertPeer p l

def removePeer (station : Nat) (l : List Peer) : List Peer :=
  l.filter fun p => p.station != station

def ptbSet (l : List Peer) (s : State) : State :=
  s.modPtb fun t => { t with records := l }

/-- The change signal to SHR (R134). -/
def ptbSignal (s : State) : State :=
  shrSums (tableSums s.soloAllowance s.ptb.records) s

/-- OVERFLOW ends at a removal (R130): PEER_OVERFLOW is recorded before SHR acts on the cause (log 10). -/
def ptbOverflowGone (s : State) : State :=
  if s.ptb.overflow then
    shrRemoveCause .overflow (alkRecord .peerOverflow (detail 0 0) (s.modPtb fun t => { t with overflow := false }))
  else s

/-- A record is removed: DEPART 0, FORGET 1 (R128, R132). The record of it, the change signal, then OVERFLOW (log 10). -/
def ptbRemove (cause station : Nat) (s : State) : State :=
  ptbOverflowGone (ptbSignal
    (alkRecord .peerRemoved (detail cause station) (ptbSet (removePeer station s.ptb.records) s)))

/-- An accepted frame finds its station's record (R127): PEER_RETURNED before the change signal (log 10). -/
def ptbUpdate (old : Peer) (f : Frame) (s : State) : State :=
  let s1 := ptbSet (replacePeer (Peer.ofFrame f) s.ptb.records) s
  ptbSignal (if old.state = .lapsed then alkRecord .peerReturned (detail 0 f.station) s1 else s1)

/-- An accepted frame from a station without a record (R129, R130): PEER_ADDED or PEER_OVERFLOW before SHR acts (log 10). -/
def ptbInsert (f : Frame) (s : State) : State :=
  if s.ptb.records.length < 15 then
    ptbSignal (alkRecord .peerAdded (detail 0 f.station) (ptbSet (insertPeer (Peer.ofFrame f) s.ptb.records) s))
  else if s.ptb.overflow then s
  else
    shrAddCause .overflow (alkRecord .peerOverflow (detail 1 f.station) (s.modPtb fun t => { t with overflow := true }))

/-- PTB takes a good frame (R124, R126 to R130). -/
def ptbTake (f : Frame) (s : State) : State :=
  if s.alk.committed ∧ s.accepts f.group then
    match f.kind, peerOf f.station s.ptb.records with
    | .depart, some _ => ptbRemove 0 f.station s
    | .depart, none => s
    | _, some old => ptbUpdate old f s
    | _, none => ptbInsert f s
  else s

/-- The own station sent this good frame and completed it: it was SENDING at the start and has not lost, and the frame bears
its number (R117). -/
def State.ownFrame (s : State) (f : Frame) : Bool :=
  s.bli.frame == .own && f.station == s.cfg .station

/-- A good frame by its station field and its sender (R117): the error counter and UNRELIABLE, then the silence timer and
SILENT, then NUMBER_CONFLICT or PTB (log 10). -/
def bliGoodFrame (f : Frame) (s : State) : State :=
  if s.ownFrame f then s
  else if f.station = s.cfg .station then bliConflict (bliGood s)
  else ptbTake f (bliGood s)

/-- A frame by its class (R116). -/
def bliClassed (c : RxClass) (s : State) : State :=
  match c with
  | .cutShort | .checkFailed | .invalidCode => bliBad s
  | .good f => bliGoodFrame f s

/-- A frame's reception ends: it is classed and handled (R116, R117), and the released run starts again (R106). -/
def bliReceive (nbits : Nat) (bits : BitVec 64) (s : State) : State :=
  (bliClassed (classify nbits bits) s).modBli fun b => { b with frame := .none, releasedRun := 0 }

end Sys2Proof.Machine
end

