-- ==== Sys2Proof/Machine/DriveOps.lean ====
section
/-! DEFINITION. Operations of the element drive: windows, completion, the window-end checks, suspension (Element Drive
chapter). -/

namespace Sys2Proof.Machine

/-- The values of a window that starts now (R92). -/
def State.newWindow (s : State) : Window :=
  let ir := s.wantOf s.reg.demand
  let ig := if s.drv.main then min ir s.shr.ho else 0
  { ho := s.shr.ho, ir := ir, ig := ig, n := s.onCounts ig }

/-- A window starts: values fixed, position 0, sample sum 0, the outputs of half-cycle 0 (R92, R93). -/
def drvBegin (s : State) : State :=
  let w := s.newWindow
  drvOutputs (if s.drv.main then outputsAt w.n 0 else PerElement.all false)
    (s.modDrv fun d => { d with windowRunning := true, position := 0, window := w, sampleSum := 0 })

/-- The outputs for the half-cycle that begins; all off while MAIN is open (R93, R96). -/
def drvSwitch (s : State) : State :=
  drvOutputs (if s.drv.main then outputsAt s.drv.window.n s.drv.position else PerElement.all false) s

/-- The allowance-limited indication set and handed to REG (R76, R94). -/
def drvIndicate (limited : Bool) (s : State) : State :=
  (s.modDrv fun d => { d with limited := limited }).modReg fun r => { r with limited := limited }

/-- Every on-count is 0. -/
def Window.allOff (w : Window) : Bool := w.n.sum == 0

/-- The overcurrent check fails this window (R98). -/
def overFails (measured expected : Nat) : Bool :=
  decide (expected + max 20 (expected / 4) < measured)

/-- The overcurrent check: judged with an on-count above 0 (R98, R101). -/
def drvOverCheck (measured expected : Nat) (s : State) : State :=
  if s.drv.last.allOff then
    if measured ≤ 10 ∧ s.drv.overPresent then
      prtGone .elementOvercurrent (s.modDrv fun d => { d with overPresent := false })
    else s
  else if overFails measured expected then
    let s1 := s.modDrv fun d => { d with overRun := satSucc 3 d.overRun }
    if s1.drv.overRun = 3 ∧ s1.drv.overPresent = false then
      prtRaise .elementOvercurrent (s1.modDrv fun d => { d with overPresent := true })
    else s1
  else
    let s1 := s.modDrv fun d => { d with overRun := 0 }
    if s1.drv.overPresent then prtGone .elementOvercurrent (s1.modDrv fun d => { d with overPresent := false }) else s1

/-- The stuck check: judged with every on-count 0; its condition ends at any complete window at 10 or less (R99, R101). -/
def drvStuckCheck (measured : Nat) (s : State) : State :=
  let s1 := if s.drv.stuckPresent ∧ measured ≤ 10 then
      prtGone .driveStuck (s.modDrv fun d => { d with stuckPresent := false }) else s
  if s1.drv.last.allOff then
    if 10 < measured then
      let s2 := s1.modDrv fun d => { d with stuckRun := satSucc 3 d.stuckRun }
      if s2.drv.stuckRun = 3 ∧ s2.drv.stuckPresent = false then
        prtRaise .driveStuck (s2.modDrv fun d => { d with stuckPresent := true })
      else s2
    else s1.modDrv fun d => { d with stuckRun := 0 }
  else s1

/-- The low check: judged at an expected current of 20 or more (R100, R101). -/
def drvLowCheck (measured expected : Nat) (s : State) : State :=
  if 20 ≤ expected then
    if measured * 10 < expected * 6 then
      let s1 := s.modDrv fun d => { d with lowRun := satSucc 8 d.lowRun }
      if s1.drv.lowRun = 8 ∧ s1.drv.lowPresent = false then
        prtRaise .elementLow (s1.modDrv fun d => { d with lowPresent := true })
      else s1
    else drvLowGone (s.modDrv fun d => { d with lowRun := 0 })
  else s

/-- The 64th half-cycle has ended (R91, R94): the values stored, the standing handed on, the checks made, overcurrent before
stuck before low (log 10). -/
def drvComplete (s : State) : State :=
  let w := s.drv.window
  let measured := s.drv.sampleSum / 64
  let expected := s.committedCurrent w.n / 64
  let s1 := drvIndicate (decide (w.ig < w.ir)) (s.modDrv fun d => { d with
    windowRunning := false, last := w, lastExpected := expected, lastMeasured := measured })
  drvLowCheck measured expected (drvStuckCheck measured (drvOverCheck measured expected s1))

/-- A boundary within a running window, or the one that completes it (R91, R95). -/
def drvBoundary (sample : Nat) (s : State) : State :=
  let s1 := s.modDrv fun d => { d with sampleSum := d.sampleSum + sample }
  if s.drv.position = 63 then drvBegin (drvComplete s1)
  else if s.shr.ho < s.drv.window.ho then drvBegin s1
  else drvSwitch (s1.modDrv fun d => { d with position := d.position + 1 })

/-- The MAINS_ABSENT condition ends at a zero-cross (R103). -/
def drvMainsBack (s : State) : State :=
  if s.drv.mainsAbsentPresent then
    prtGone .mainsAbsent (s.modDrv fun d => { d with mainsAbsentPresent := false })
  else s

/-- A zero-cross (R91, R97, R102, R103): the absence time and the mains-absent timer return to 0; a suspended drive
resumes with a fresh window. MAINS_ABSENT is gone before the window's own effects (log 10). -/
def drvZeroCross (sample : Nat) (s : State) : State :=
  let s1 := drvMainsBack (s.modDrv fun d => { d with absence := 0, mainsTimer := none, state := .running })
  if s.drv.state = .running ∧ s.drv.windowRunning then drvBoundary sample s1 else drvBegin s1

/-- 100 ms without a zero-cross in RUNNING (R102, R103). -/
def drvSuspend (s : State) : State :=
  drvIndicate true ((drvAbandon s).modDrv fun d => { d with
    state := .suspended, absence := 100, mainsTimer := if s.cyc.phase = .heating then some 0 else none })

/-- A boundary completes the window that runs. -/
def State.completes (s : State) : Bool :=
  s.drv.state == .running && s.drv.windowRunning && s.drv.position == 63

end Sys2Proof.Machine
end

