-- ==== Sys2Proof/Machine/TempOps.lean ====
section
/-! DEFINITION. Operations of the temperature monitor on a reading: filter, failure, recovery, the checks, and the
hand-over of new values and standings (Temperature Measurement chapter; R164, R165). -/

namespace Sys2Proof.Machine

/-- The failure fault of a channel (R63). -/
def failCode : Channel → FaultCode
  | .a => .sensorAFail
  | .b => .sensorBFail
  | .l => .sensorLFail

/-- The peak follows each new filtered A value outside IDLE and HELD (R21). -/
def cycPeak (s : State) : State :=
  if s.cyc.phase ≠ .idle ∧ s.cyc.phase ≠ .held ∧ s.cyc.record.peakA < s.filteredA then
    s.modCyc fun c => { c with record := { c.record with peakA := min s.filteredA 7000 } }
  else s

/-- The unlock test is handed on and CYC in COOLING examines it (R13, R47). -/
def unlockExam (s : State) : State :=
  cycCoolExam (lckReevaluate s)

/-- The comparison with the cavity's ceiling (R68). -/
def tmsCeiling (s : State) : State :=
  if s.alk.committed then
    match s.cavityValue with
    | none => s
    | some v =>
      if (s.cfg .tmax : Int) + 300 < v then
        if s.tms.overtempPresent then s
        else prtRaise .overtemp (s.modTms fun t => { t with overtempPresent := true })
      else if v ≤ (s.cfg .tmax : Int) ∧ s.tms.overtempPresent then
        prtGone .overtemp (s.modTms fun t => { t with overtempPresent := false })
      else s
  else s

/-- The latch-zone override is re-examined and handed to REG (R69, R82). -/
def tmsOverride (s : State) : State :=
  regFan (s.modTms fun t => { t with zoneOverride := s.overrideNow })

/-- The LATCH_HOT condition ends at a new L value at or below 1200 (R70). -/
def tmsHotGone (s : State) : State :=
  if s.tms.latchHotPresent ∧ s.tms.l.filtered ≤ 1200 then
    prtGone .latchHot (s.modTms fun t => { t with latchHotPresent := false })
  else s

/-- A new filtered value is handed on (R62): for A and B the unlock test before the comparison with the ceiling (log 10). -/
def tmsNew (ch : Channel) (s : State) : State :=
  match ch with
  | .a => tmsCeiling (unlockExam (cycPeak s))
  | .b => tmsCeiling (unlockExam s)
  | .l => tmsHotGone (tmsOverride s)

/-- PRT starts the blind-cool timer when A and B are both failed, and clears it when one is not (R164). -/
def prtBlind (s : State) : State :=
  if s.tms.a.failed && s.tms.b.failed then
    if s.prt.blindRunning then s
    else s.modPrt fun p => { p with
      blindRunning := true, blindCount := 0, secondMs := 0, heatSeen := s.drv.outputs.any }
  else s.modPrt fun p => { p with blindRunning := false, blindCount := 0 }

/-- A change of a channel's standing is handed on: PRT's timer, the unlock test, the ceiling (R47, R65, R68, R69, R164;
log 10). -/
def tmsStanding (ch : Channel) (s : State) : State :=
  match ch with
  | .a | .b => tmsCeiling (unlockExam (prtBlind s))
  | .l => tmsOverride s

/-- The channel's record changes. -/
def tmsSet (ch : Channel) (c : Chan) (s : State) : State :=
  s.modTms fun t => t.setChan ch c

/-- A failing L clears the hot run count (R70). -/
def tmsHotClear (ch : Channel) (s : State) : State :=
  match ch with
  | .l => s.modTms fun t => { t with hotRun := 0 }
  | .a | .b => s

/-- The channel fails (R63). Its fault is reported, with the trip, before the new standing is handed on (log 10). -/
def tmsFail (ch : Channel) (s : State) : State :=
  let c := s.tms.chan ch
  let s1 := tmsSet ch { c with failed := true, history := [], validRun := 0, invalidRun := 4 } s
  tmsStanding ch (prtRaise (failCode ch) (tmsHotClear ch s1))

/-- The channel recovers with the mean of its four fresh readings (R64). Its fault is reported gone before the standing and the
new value are handed on (R159; log 10). -/
def tmsRecover (ch : Channel) (s : State) : State :=
  let c := s.tms.chan ch
  let s1 := tmsSet ch { c with failed := false, invalidRun := 0, validRun := 0, filtered := meanOf c.history } s
  tmsNew ch (tmsStanding ch (prtGone (failCode ch) s1))

/-- A valid reading on a channel that is not failed (R62). The first one hands on the new standing (unlock test, ceiling with
its trip) before the new value (peak, unlock test, ceiling) (log 10). -/
def tmsValid (ch : Channel) (raw : Int) (s : State) : State :=
  let c := s.tms.chan ch
  let h := pushReading c.history raw
  let s1 := tmsSet ch { c with history := h, invalidRun := 0, filtered := meanOf h, ready := true } s
  tmsNew ch (if c.ready then s1 else tmsStanding ch s1)

/-- An invalid reading on a channel that is not failed: the value is held; the fourth in a row fails it (R63). -/
def tmsInvalid (ch : Channel) (s : State) : State :=
  let c := s.tms.chan ch
  if c.invalidRun < 3 then tmsSet ch { c with invalidRun := c.invalidRun + 1 } s else tmsFail ch s

/-- A valid reading on a failed channel; the fourth in a row recovers it (R64). -/
def tmsFailedValid (ch : Channel) (raw : Int) (s : State) : State :=
  let c := s.tms.chan ch
  let s1 := tmsSet ch { c with history := pushReading c.history raw, validRun := c.validRun + 1, ready := true } s
  if c.validRun < 3 then s1 else tmsRecover ch s1

/-- An invalid reading on a failed channel (R64). -/
def tmsFailedInvalid (ch : Channel) (s : State) : State :=
  tmsSet ch { s.tms.chan ch with history := [], validRun := 0 } s

/-- The latest raw reading and its class; REG's HELD rule sees it (R60, R84). -/
def tmsLatest (ch : Channel) (raw : Int) (s : State) : State :=
  regFan (tmsSet ch { s.tms.chan ch with raw := raw, cls := classOf raw } s)

/-- A reading is taken by its class and the channel's failed flag (R62 to R64). -/
def tmsReading (ch : Channel) (raw : Int) (s : State) : State :=
  let s1 := tmsLatest ch raw s
  match (s1.tms.chan ch).failed, classOf raw with
  | false, .valid => tmsValid ch raw s1
  | false, .overRange | false, .underRange => tmsInvalid ch s1
  | true, .valid => tmsFailedValid ch raw s1
  | true, .overRange | true, .underRange => tmsFailedInvalid ch s1

/-! ## The checks of a period (R66, R67, R70) -/

/-- The pair of this period is judged (R66). -/
def State.pairJudged (s : State) : Bool :=
  s.tms.a.readyAndValid && s.tms.b.readyAndValid

def State.pairDisagrees (s : State) : Bool :=
  decide (300 < (s.tms.a.filtered - s.tms.b.filtered).natAbs)

/-- The two counts after a judged pair (R66). -/
def tmsCounts (s : State) : State :=
  if s.pairDisagrees then
    s.modTms fun t => { t with disagreeCount := satSucc 10 t.disagreeCount, agreeCount := 0 }
  else s.modTms fun t => { t with disagreeCount := 0, agreeCount := satSucc 10 t.agreeCount }

/-- SENSOR_DISAGREE present at the tenth disagreeing pair, gone at the tenth agreeing one (R66, R67). -/
def tmsDisagree (s : State) : State :=
  if s.tms.disagreeCount = 10 ∧ s.tms.disagreePresent = false then
    prtRaise .sensorDisagree (s.modTms fun t => { t with disagreePresent := true })
  else if s.tms.agreeCount = 10 ∧ s.tms.disagreePresent = true then
    prtGone .sensorDisagree (s.modTms fun t => { t with disagreePresent := false })
  else s

/-- The judgement at a B completion (R66). -/
def tmsPair (s : State) : State :=
  if s.pairJudged then tmsDisagree (tmsCounts s) else s

/-- The hot run at an L completion (R70). -/
def tmsHotCount (s : State) : State :=
  s.modTms fun t => { t with hotRun := if 1200 < s.tms.l.filtered then satSucc 50 t.hotRun else 0 }

/-- LATCH_HOT present at the fiftieth hot period (R70). -/
def tmsHot (s : State) : State :=
  if s.tms.l.valid then
    let s1 := tmsHotCount s
    if s1.tms.hotRun = 50 ∧ s1.tms.latchHotPresent = false then
      prtRaise .latchHot (s1.modTms fun t => { t with latchHotPresent := true })
    else s1
  else s

/-- The check that a channel's completion makes. -/
def tmsCheck (ch : Channel) (s : State) : State :=
  match ch with
  | .a => s
  | .b => tmsPair s
  | .l => tmsHot s

/-- A conversion completion (R60). The reading's value is handed to LCK and CYC, and compared with the ceiling (OVERTEMP), before
the check of the period (SENSOR_DISAGREE) (R62, R66, R68; log 10). -/
def tmsConvert (ch : Channel) (raw : Int) (s : State) : State :=
  tmsCheck ch (tmsReading ch raw s)

/-- The channel that a period converts after `ch`; after L the next period's A (R60). -/
def nextDue : Channel → Channel
  | .a => .b
  | .b => .l
  | .l => .a

/-- A completion of the channel that is due; a completion of another channel is no event of the part (R60; log 31). -/
def tmsComplete (ch : Channel) (raw : Int) (s : State) : State :=
  if s.tms.due = ch then tmsConvert ch raw (s.modTms fun t => { t with due := nextDue ch }) else s

end Sys2Proof.Machine
end

