-- ==== Sys2Proof/Machine/LinkOps.lean ====
section
/-! DEFINITION. Operations of the appliance link: transactions and answers, the result layouts of section 12.3, profile
loading and validation, the commit, and the reset of every block. -/

namespace Sys2Proof.Machine

/-! ## Transactions (R170 to R172, R176) -/

/-- The rise of CSN as an accepted STATION_RESET sees it (R176). -/
def alkRisen (a : Alk) : Alk :=
  { a with resetPending := a.resetPending.map fun r => { r with csnRisen := true } }

/-- A command of `params` parameter bytes takes effect in a transaction of its own: CSN has fallen for it, so a transaction
that was open has ended (log 15). Its result code follows the code byte, the parameters and the turnaround (R170). -/
def linkOpen (params : Nat) (s : State) : State :=
  s.modAlk fun a =>
    let b := if a.link.csnLow then alkRisen a else a
    { b with link := { csnLow := true, lead := params + 2, answer := [], sdoCut := false } }

/-- The result code and the result bytes, formed in the event of the command (R171). -/
def linkAnswer (c : ResultCode) (bytes : List Byte) (s : State) : State :=
  s.modAlk fun a => { a with link := { a.link with answer := byteOf c.code :: bytes } }

/-- A read command, EVENT_READ or PROFILE_GET: answered at any time (R172). -/
def linkRead (params : Nat) (f : State → State) (s : State) : State :=
  f (linkOpen params s)

/-- Any other command: refused with WRONG_PHASE between an accepted STATION_RESET and its reset (R172). `n` is the
command's number of result bytes, 00h when refused (section 12.3). -/
def linkCommand (params n : Nat) (f : State → State) (s : State) : State :=
  if s.alk.resetPending.isSome then linkAnswer .wrongPhase (zeroBytes n) (linkOpen params s) else f (linkOpen params s)

/-- A rise of CSN (R171, R176). -/
def linkRise (s : State) : State :=
  s.modAlk fun a => { alkRisen a with link := { csnLow := false, lead := 0, answer := [], sdoCut := false } }

/-! ## Result layouts (section 12.3) -/

def windowBytes (w : Window) : List Byte :=
  natBytes w.ho ++ natBytes w.ir ++ natBytes w.ig ++ (w.n.toList.map byteOf)

/-- READ_STATUS, 46 bytes. -/
def statusBytes (s : State) : List Byte :=
  [byteOf s.cyc.phase.code, byteOf s.reportedPhase.code, byteOf s.cyc.record.outcome.code, byteOf s.ramp.state.code,
    byteOf s.ramp.segIndex]
  ++ intBytes s.ramp.sp ++ natBytes s.ramp.holdTimer ++ natBytes s.ramp.segTimer
  ++ [byteOf s.lck.state.code, flagByte s.lck.carried, flagByte s.doorClosed, flagByte s.latchEngaged,
    flagByte s.lck.startUp]
  ++ natBytes s.reg.demand ++ natBytes s.reg.integral
  ++ [flagByte s.reg.limited, byteOf s.reg.fan, byteOf s.reg.ruleLevel]
  ++ rateBytes s.reg.rate
  ++ [byteOf s.drv.state.code, flagByte s.drv.main, byteOf s.drv.position]
  ++ windowBytes s.drv.last ++ natBytes s.drv.lastExpected ++ natBytes s.drv.lastMeasured
  ++ [flagByte s.drv.limited, flagByte s.alk.committed, byteOf s.alk.events.length, flagByte s.alk.lost]

def chanBytes (c : Chan) : List Byte :=
  intBytes c.filtered ++ intBytes c.raw ++ [byteOf c.cls.code, flagByte c.ready, flagByte c.failed]

/-- READ_TEMPS, 23 bytes (R71). -/
def tempBytes (s : State) : List Byte :=
  chanBytes s.tms.a ++ chanBytes s.tms.b ++ chanBytes s.tms.l
  ++ [byteOf s.tms.disagreeCount, flagByte s.tms.zoneOverride]

/-- The condition byte of BLI (section 12.3). -/
def Bli.conditions (b : Bli) : Nat :=
  (if b.unreliable then 1 else 0) + (if b.silent then 2 else 0) + (if b.lineHeld then 4 else 0)
    + (if b.txStuck then 8 else 0) + (if b.numberConflict then 16 else 0)

/-- READ_SHARE, 37 bytes (R122, R156). -/
def shareBytes (s : State) : List Byte :=
  [byteOf s.shr.state.code, flagByte (s.shr.state == .listening false), byteOf s.shr.causes.toNat]
  ++ natBytes s.shr.solo ++ natBytes s.shr.ho ++ natBytes s.shr.wo ++ natBytes s.shr.go ++ natBytes s.shr.co
  ++ [byteOf s.shr.claim.code]
  ++ natBytes s.shr.sums.held ++ natBytes s.shr.sums.want ++ natBytes s.shr.sums.claim
  ++ [byteOf s.shr.sums.holders, byteOf s.shr.slot.code, byteOf s.shr.request.code]
  ++ timerBytes s.shr.listenTimer ++ timerBytes s.shr.claimTimer ++ timerBytes s.shr.settleTimer
  ++ timerBytes s.shr.backoffTimer
  ++ [byteOf s.bli.tx.code, byteOf s.bli.reasons.toNat, byteOf s.bli.backoff, byteOf s.bli.errors,
    byteOf s.bli.conditions, lastKindByte s.bli.lastKind]

/-- READ_PEER, 24 bytes (R136). -/
def peerBytes (count : Nat) (overflow : Bool) (solo : Nat) (p : Peer) : List Byte :=
  [byteOf count, flagByte overflow, byteOf p.station, byteOf p.state.code, byteOf p.group]
  ++ natBytes p.held ++ natBytes p.want ++ natBytes p.claim
  ++ [byteOf p.slot.code, byteOf p.phase.code, flagByte p.fallback, byteOf p.lastKind.code]
  ++ natBytes p.age
  ++ natBytes (p.countedHeld solo) ++ natBytes (p.countedWant solo) ++ natBytes p.countedClaim
  ++ [flagByte p.slotHolder]

/-- READ_CYCLE, 11 bytes (R21). -/
def cycleBytes (r : Record) : List Byte :=
  [byteOf r.outcome.code, faultByte r.firstFault]
  ++ natBytes r.cycleTime ++ natBytes r.heatingTime ++ natBytes r.slotWaitTime ++ intBytes r.peakA
  ++ [byteOf r.shedCount]

def faultEntryBytes (e : FaultEntry) : List Byte :=
  [byteOf e.code.code, byteOf e.code.cls.code] ++ natBytes e.first ++ [flagByte e.present]

/-- READ_FAULTS, 94 bytes: 18 slots, those beyond the entry count 0 (R169). -/
def faultBytes (p : Prt) : List Byte :=
  [byteOf p.faults.length] ++ natBytes p.blindCount ++ [flagByte p.blindRunning]
  ++ (p.faults.map faultEntryBytes).flatten ++ zeroBytes (5 * (18 - p.faults.length))

/-- EVENT_READ, 8 bytes (R178). -/
def eventBytes (e : EventRec) (left : Nat) (lost : Bool) : List Byte :=
  [byteOf e.kind.cls.code, byteOf e.kind.code] ++ halfBytes e.detail ++ natBytes e.time
  ++ [byteOf left, flagByte lost]

/-! ## Profile loading (R24 to R28) -/

def prfSeek (index : Nat) (m : PointerMode) (s : State) : State :=
  s.modPrf fun p => { p with index := index, mode := m, wordPhase := 0, staged := [] }

/-- A word is staged; the third writes the whole record and steps the pointer on (R27). -/
def prfStage (w : Half) (s : State) : State :=
  match s.prf.wordPhase with
  | 0 => s.modPrf fun p => { p with staged := [stageFirst w], wordPhase := 1 }
  | 1 => s.modPrf fun p => { p with staged := p.staged ++ [stageSecond w], wordPhase := 2 }
  | _ =>
    let g := segmentOfWords (s.prf.staged.getD 0 0) (s.prf.staged.getD 1 0) (stageThird w)
    s.modPrf fun p => { p with
      table := p.table.setIfInBounds p.index g, index := p.index + 1, wordPhase := 0, staged := [] }

/-- A field of this word is outside its range (R27). -/
def prfClamps (wordPhase : Nat) (w : Half) : Bool :=
  match wordPhase with
  | 0 => firstClamped w
  | 1 => stageSecond w != w
  | _ => stageThird w != w

/-- The read pointer steps on (R28). -/
def prfNext (s : State) : State :=
  s.modPrf fun p =>
    if p.wordPhase < 2 then { p with wordPhase := p.wordPhase + 1 }
    else { p with wordPhase := 0, index := p.index + 1 }

/-! ## Validation at START (R29) -/

/-- The index of the first END record; 16 if none stands. -/
def State.endIndex (s : State) : Nat :=
  ((List.range 16).find? fun i => (s.segmentAt i).kind == .endRec).getD 16

/-- The first burn-flagged segment among those examined. -/
def State.firstBurn (s : State) : Option Nat :=
  (List.range s.endIndex).find? fun i => (s.segmentAt i).burn

/-- Some rule of R29 blames the examined segment `i`. -/
def State.blamed (s : State) (i : Nat) : Bool :=
  let g := s.segmentAt i
  let before := s.segmentAt (i - 1)
  (i == 0 && g.kind != .ramp)
  || g.kind == .code3
  || (g.kind == .ramp && decide (g.rate < 10))
  || decide (s.cfg .tmax < g.target)
  || (g.kind == .hold && decide (0 < i) && g.target != before.target)
  || (g.burn && decide (0 < i) && !before.burn && s.firstBurn != some i)
  || (s.firstBurn == some (i + 1) && decide (s.cfg .tb < g.target))
  || (i == 0 && s.firstBurn == some 0 && decide ((s.cfg .tb : Int) < s.filteredA))

/-- The smallest blamed index, or none where the profile is valid (R29). -/
def State.badSegment (s : State) : Option Nat :=
  if s.endIndex = 0 then some 0
  else
    match (List.range s.endIndex).find? s.blamed with
    | some i => some i
    | none => if s.endIndex = 16 then some 16 else none

/-- START's six conditions in order; the first that fails, with the index of PROFILE_INVALID (R4). -/
def State.startRefusal (s : State) : Option (ResultCode × Nat) :=
  if !s.alk.committed then some (.notConfigured, 0)
  else if s.cyc.phase ≠ .idle then some (.wrongPhase, 0)
  else if !(s.doorClosed && s.lck.state == .unlocked) then some (.doorNotReady, 0)
  else if !(s.tms.a.readyAndValid && s.tms.b.readyAndValid && s.tms.l.readyAndValid) then some (.notReady, 0)
  else if s.hasTrip then some (.faultActive, 0)
  else s.badSegment.map fun i => (.profileInvalid, i)

/-- START accepted (R5): PHASE_CHANGE is recorded before LCK takes the lock request (log 10). -/
def cycStart (s : State) : State :=
  lckLock (cycSetPhase .locking (cycClearRecord .none s))

/-! ## Clearing (R16, R17, R166, R167) -/

/-- CLEAR removes the entries of the listed classes whose flag is gone, each with a FAULT_REMOVED event, in the
order of the set. -/
def prtRemove (classes : List FaultClass) (s : State) : State :=
  let goes (e : FaultEntry) : Bool := classes.contains e.code.cls && !e.present
  let s1 := s.modPrt fun p => { p with faults := p.faults.filter fun e => !goes e }
  drvMain ((s.prt.faults.filter goes).foldl
    (fun t e => alkRecord .faultRemoved (detail 0 e.code.code) t) s1)

/-- CYC moves on from TRIPPED (R16). -/
def cycMoveOn (s : State) : State :=
  if s.latchEngaged then
    if s.takesUnlock then cycSetPhase .unlocking (lckUnlock s) else cycSetPhase .cooling s
  else cycSetPhase .idle s

/-- The classes that CLEAR removes outside TRIPPED (R167). -/
def Phase.clears : Phase → List FaultClass
  | .idle => [.trip, .abort, .degrade]
  | .locking | .heating | .cooling | .unlocking | .held => [.degrade]
  | .tripped => [.trip, .abort, .degrade]

/-- CLEAR in TRIPPED (R16, R166). -/
def clearTripped (s : State) : State :=
  if s.travelling then linkAnswer .wrongPhase [] s
  else if s.hasTripPresent then linkAnswer .faultActive [] s
  else linkAnswer .ok [] (cycMoveOn (prtRemove [.trip, .abort, .degrade] s))

/-- CLEAR in every other phase (R17, R167). -/
def clearOther (s : State) : State :=
  let classes := s.cyc.phase.clears
  let t := prtRemove classes s
  linkAnswer (if t.prt.faults.any fun e => classes.contains e.code.cls && e.present then .faultActive else .ok) [] t

/-! ## The commit (R174, R175) -/

def State.storedRatings (s : State) : PerElement Nat where
  e0 := s.stored .i0
  e1 := s.stored .i1
  e2 := s.stored .i2
  e3 := s.stored .i3

def State.storedWeights (s : State) : PerElement Nat where
  e0 := s.stored .w0
  e1 := s.stored .w1
  e2 := s.stored .w2
  e3 := s.stored .w3

/-- A sum lies within 10 to 1023. -/
def inFeeder (n : Nat) : Bool := decide (10 ≤ n ∧ n ≤ 1023)

/-- The first failing check of R174, as the item reported. -/
def State.badItem (s : State) : Option Item :=
  if s.stored .station = 0 then some .station
  else if !inFeeder s.storedRatings.sum then some .i0
  else if !inFeeder (fullCurrent s.storedRatings s.storedWeights) then some .w0
  else if s.stored .b < 10 * s.stored .n then some .b
  else if s.stored .tmax < s.stored .tu + 1000 then some .tu
  else if s.stored .tmax ≤ s.stored .tb then some .tb
  else none

/-- The commit reaches BLI (R123). -/
def bliCommit (s : State) : State :=
  let s1 := if s.bli.txStuck then s else bliPeriod (s.modBli fun b => { b with tx := .quiet })
  if 2 ≤ s1.cfg .n then s1.modBli fun b => { b with silenceTimer := some 0 } else s1

/-- The commit reaches SHR (R139): LISTENING is recorded before a FALLBACK that follows at once. -/
def shrCommit (s : State) : State :=
  let s1 := shrRecord (s.modShr fun u => { u with
    solo := s.soloAllowance, state := .listening true, ho := 0, listenTimer := some 3500 })
  if s1.shr.causes = 0 then s1 else shrEnterFallback s1

/-- The commit reaches CYC (R19). -/
def cycCommit (s : State) : State :=
  if s.cyc.phase = .held then cycSetPhase .cooling (cycClearRecord .interrupted s) else s

/-- The configuration is frozen and handed to the blocks that start on it (R175): BLI, SHR, CYC, TMS with the ceiling, LCK
with the unlock test, then the record; their order is a DESIGN CHOICE (log 10). -/
def commitAll (s : State) : State :=
  let s1 := alkLines (s.modAlk fun a => { a with committed := true })
  let s2 := unlockExam (tmsCeiling (cycCommit (shrCommit (bliCommit s1))))
  alkRecord .configCommitted (detail 0 (s2.cfg .station)) s2

/-! ## Reset (R176, R180) -/

/-- CSN as a reset finds it: low where a command has taken effect in the open transaction; else a free value, since no row is
CSN's fall and a transaction may be in its command or parameter bytes (R176; log 8). -/
def State.csnAtReset (s : State) : Bool :=
  s.alk.link.csnLow || s.drawIn 0 2 == 1

/-- Every block returns to its reset state; the pins and the queue stay. A transaction under way is cut off (R176). -/
def resetAll (cause : ResetCause) (s : State) : State :=
  (State.afterReset cause s.lck.door.raw s.lck.latch.raw s.csnAtReset s.pending s.draws).bumpDraws

/-- The cause of a station reset that may now take place: CSN has risen and the departure has been reported or was
not asked for (R176, R180). -/
def State.resetDue (s : State) : Option ResetCause :=
  match s.alk.resetPending with
  | some { csnRisen := true, departure := .sent } => some .departureSent
  | some { csnRisen := true, departure := .notSent } => some .departureNotSent
  | some { csnRisen := true, departure := .notAsked } => some .departureNotSent
  | _ => none

/-- STATION_RESET accepted (R176). -/
def alkScheduleReset (s : State) : State :=
  if s.alk.committed then
    bliDepart (s.modAlk fun a => { a with resetPending := some { csnRisen := false, departure := .waiting } })
  else s.modAlk fun a => { a with resetPending := some { csnRisen := false, departure := .notAsked } }

/-! ## A step taken only when it is the named case -/

/-- The event `f`, taken only when it is the case that `p` recognises from the states before and after (log 9). -/
def onlyWhen (p : State → State → Bool) (f : State → State) (s : State) : State :=
  if p s (f s) then f s else s

end Sys2Proof.Machine
end

