-- ==== Sys2Proof/Machine/BankLine.lean ====
section
/-! DEFINITION. Meanings of BLI's rows: attempts, the period and the departure, reception, the line conditions and a glitch
(R105 to R121). -/

namespace Sys2Proof.Machine

/-- The attempt that R110 lets begin. -/
def bliAttempt (s : State) : State :=
  match s.bli.nextKind with
  | some k => if s.bli.mayBegin then bliBegin k s else s
  | none => s

/-- ATTEMPT_BEGIN (R111), where R110 lets an attempt begin; elsewhere the row changes nothing (log 12). -/
def execAttemptBegin (s : State) : Host.Outcome State Fault Refusal :=
  .next (bliAttempt s)

/-- ATTEMPT_LOST (R112), while SENDING. -/
def execAttemptLost (s : State) : Host.Outcome State Fault Refusal :=
  .next (if s.bli.tx = .sending then bliLost s else s)

/-- The attempt on the line completes (R113). -/
def bliComplete (s : State) : State :=
  match s.bli.tx, s.bli.attempt with
  | .sending, some a => bliSucceed a s
  | _, _ => s

/-- ATTEMPT_COMPLETE (R113). -/
def execAttemptComplete (s : State) : Host.Outcome State Fault Refusal :=
  .next (takeEvent bliComplete s)

/-- The period expires: PERIODIC set, a new period (R114). -/
def bliPeriodExpiry (s : State) : State :=
  if s.bli.periodTimer.isSome then bliPeriod (bliSetReason .periodic s) else s

/-- PERIOD_EXPIRY (R114). -/
def execPeriodExpiry (s : State) : Host.Outcome State Fault Refusal :=
  .next (bliPeriodExpiry s)

/-- Driving stops at once, for an attempt on the line cut off (R115; log 24). -/
def bliCutOff (s : State) : State :=
  if s.bli.tx = .sending then
    s.modBli fun b => { b with attempt := none, tx := .waiting, output := .released, frame := .none, releasedRun := 0 }
  else s

/-- The departure timer expires: an attempt on the line ends, the departure was not sent (R115). -/
def bliDepartExpiry (s : State) : State :=
  if s.bli.departureTimer.isSome then bliDepartFails (bliCutOff s) else s

/-- DEPARTURE_TIMEOUT (R115). -/
def execDepartureTimeout (s : State) : Host.Outcome State Fault Refusal :=
  .next (bliDepartExpiry s)

/-- FRAME_RECEIVED (R116). Who sent the frame is the own state's to say (R117). -/
def execFrameReceived (nbits : Nat) (bits : BitVec 64) (_own : Bool) (s : State) : Host.Outcome State Fault Refusal :=
  .next (takeEvent (bliReceive nbits bits) s)

/-- UNRELIABLE (R118): the frame that sets or clears it; no other frame is this row (log 9). -/
def execUnreliable (nbits : Nat) (bits : BitVec 64) (_own : Bool) (s : State) : Host.Outcome State Fault Refusal :=
  .next (onlyWhen (fun a b => a.bli.unreliable != b.bli.unreliable) (takeEvent (bliReceive nbits bits)) s)

/-- The line-held timer reaches 8 ms: the cause is judged by the own driver (R119, R120). -/
def bliHeldExpiry (own : Bool) (s : State) : State :=
  if own then
    if s.bli.txStuck then s.modBli fun b => { b with heldTimer := 0 } else bliStuck s
  else bliHeld s

/-- LINE_HELD (R119). -/
def execLineHeld (own : Bool) (s : State) : Host.Outcome State Fault Refusal :=
  .next (takeEvent (bliHeldExpiry own) s)

/-- LINE_IDLE (R106). -/
def execLineIdle (s : State) : Host.Outcome State Fault Refusal :=
  .next (takeEvent bliIdle s)

/-- The silence timer reaches Ts (R121): LINE_STATE is recorded before SHR acts on the cause (log 10). -/
def bliSilent (s : State) : State :=
  if s.bli.silenceTimer.isSome ∧ s.bli.silent = false then
    shrAddCause .silent (lineRecord 1 true (s.modBli fun b => { b with silent := true }))
  else s

/-- SILENT (R121). -/
def execSilent (s : State) : Host.Outcome State Fault Refusal :=
  .next (takeEvent bliSilent s)

/-- GLITCH (R105, R106): no frame, not counted; the released run starts again. -/
def execGlitch (s : State) : Host.Outcome State Fault Refusal :=
  .next (s.modBli fun b => { b with releasedRun := 0 })

end Sys2Proof.Machine
end

