-- ==== Sys2Proof/Machine/CycleTime.lean ====
section
/-! DEFINITION. Meanings of the one-second rows of ALK and CYC: SECONDS_TICK, CYCLE_SECOND and COOL_SLOW (R9, R14, R21,
R177). -/

namespace Sys2Proof.Machine

/-- The seconds count advances and wraps (R177). -/
def alkSecond (s : State) : State :=
  s.modAlk fun a => { a with seconds := (a.seconds + 1) % 65536, secondMs := 0 }

/-- SECONDS_TICK (R177). -/
def execSecondsTick (s : State) : Host.Outcome State Fault Refusal :=
  .next (alkSecond s)

def Phase.running (p : Phase) : Bool := p != .idle && p != .held

/-- A count that advances in the seconds that `on` names, to its limit (R21). -/
def countIf (on : Bool) (n : Nat) : Nat :=
  if on then satSucc b16Limit n else n

/-- The counts of the record after a second (R9, R21). -/
def State.recordAfterSecond (s : State) : Record :=
  let r := s.cyc.record
  let heating := s.cyc.phase == .heating
  { r with
    cycleTime := countIf s.cyc.phase.running r.cycleTime
    heatingTime := countIf heating r.heatingTime
    slotWaitTime := countIf (heating && s.ramp.state == .waitingSlot) r.slotWaitTime }

/-- CYC's counts advance (R14, R21). The second is that of a timebase which runs on from reset: START, the commit and the entry
to HEATING do not restart it (R5, R7, R19; log 4). -/
def cycCounts (s : State) : State :=
  s.modCyc fun c => { c with
    secondMs := 0
    coolingTime := if c.phase = .cooling then c.coolingTime + 1 else c.coolingTime
    record := s.recordAfterSecond }

/-- COOL_SLOW is due: 14400 s of COOLING, and not yet raised (R14). -/
def State.coolSlowDue (s : State) : Bool :=
  s.cyc.phase == .cooling && decide (14400 ≤ s.cyc.coolingTime) && !s.cyc.coolSlowRaised

/-- COOL_SLOW is recorded once a cycle (R14). -/
def cycCoolSlow (s : State) : State :=
  if s.coolSlowDue then alkRecord .coolSlow 0 (s.modCyc fun c => { c with coolSlowRaised := true }) else s

/-- A second of CYC's timebase (R14, R21). -/
def cycSecond (s : State) : State :=
  cycCoolSlow (cycCounts s)

/-- CYCLE_SECOND (R21). -/
def execCycleSecond (s : State) : Host.Outcome State Fault Refusal :=
  .next (cycSecond s)

/-- COOL_SLOW (R14): the second in which the cooling-time count reaches 14400; no other second is this row (log 9). -/
def execCoolSlow (s : State) : Host.Outcome State Fault Refusal :=
  .next (onlyWhen (fun a b => !a.cyc.coolSlowRaised && b.cyc.coolSlowRaised) cycSecond s)

end Sys2Proof.Machine
end

