-- ==== Sys2Proof/Machine/Drive.lean ====
section
/-! DEFINITION. Meanings of DRV's rows: ZERO_CROSS and its named cases (R91 to R101), MAINS_SUSPEND and MAINS_ABSENT (R102,
R103). -/

namespace Sys2Proof.Machine

/-- ZERO_CROSS (R91). -/
def execZeroCross (sample : Nat) (s : State) : Host.Outcome State Fault Refusal :=
  .next (takeEvent (drvZeroCross sample) s)

/-- WINDOW_COMPLETE (R94): the boundary that ends half-cycle 63; no other boundary is this row (log 9). -/
def execWindowComplete (sample : Nat) (s : State) : Host.Outcome State Fault Refusal :=
  .next (if s.completes then takeEvent (drvZeroCross sample) s else s)

/-- ELEMENT_OVERCURRENT (R98): the completion that reports it (log 9). -/
def execElementOvercurrent (sample : Nat) (s : State) : Host.Outcome State Fault Refusal :=
  .next (onlyWhen (fun a b => !a.drv.overPresent && b.drv.overPresent) (takeEvent (drvZeroCross sample)) s)

/-- DRIVE_STUCK (R99): the completion that reports it (log 9). -/
def execDriveStuck (sample : Nat) (s : State) : Host.Outcome State Fault Refusal :=
  .next (onlyWhen (fun a b => !a.drv.stuckPresent && b.drv.stuckPresent) (takeEvent (drvZeroCross sample)) s)

/-- ELEMENT_LOW (R100): the completion that reports it (log 9). -/
def execElementLow (sample : Nat) (s : State) : Host.Outcome State Fault Refusal :=
  .next (onlyWhen (fun a b => !a.drv.lowPresent && b.drv.lowPresent) (takeEvent (drvZeroCross sample)) s)

/-- MAINS_SUSPEND (R102), in RUNNING. -/
def execMainsSuspend (s : State) : Host.Outcome State Fault Refusal :=
  .next (if s.drv.state = .running then drvSuspend s else s)

/-- MAINS_ABSENT is reported (R103). With its condition still present from an earlier cleaning PRT takes no action (R158),
but the minute ends this heating all the same (R103; log 34). -/
def drvMainsAbsent (s : State) : State :=
  let s1 := s.modDrv fun d => { d with mainsAbsentPresent := true }
  if s1.prt.faults.any fun e => e.code == .mainsAbsent && e.present then prtAction .mainsAbsent s1
  else prtRaise .mainsAbsent s1

/-- The mains-absent timer runs: SUSPENDED in HEATING (R103). -/
def State.mainsTimed (s : State) : Bool :=
  s.drv.state == .suspended && s.cyc.phase == .heating

/-- MAINS_ABSENT (R103), while its timer runs. -/
def execMainsAbsent (s : State) : Host.Outcome State Fault Refusal :=
  .next (if s.mainsTimed then takeEvent drvMainsAbsent s else s)

end Sys2Proof.Machine
end

