-- ==== Sys2Proof/Machine/LinkCommands.lean ====
section
/-! DEFINITION. Meanings of the link commands that act: configuration, profile loading, START, ABORT, CLEAR, EVENT_READ,
PEER_FORGET, an unknown code and the rise of CSN. -/

namespace Sys2Proof.Machine

/-! ## Configuration (R173 to R175) -/

/-- The stored value of an item becomes `v`. -/
def storeItem (i : Item) (v : Nat) (s : State) : State :=
  s.modAlk fun a => { a with items := a.items.set i.number v }

/-- CONFIG_PUT's four cases in order (R173); the value of a temperature item is signed (log 41). -/
def configPut (item : Byte) (value : Half) (s : State) : State :=
  match Item.ofNumber? item.toNat with
  | none => linkAnswer .badParameter [] s
  | some i =>
    if s.alk.committed then linkAnswer .configFrozen [] s
    else
      let v := i.valueOf value
      linkAnswer (if i.clamp v = v then .ok else .clamped) [] (storeItem i (i.clamp v) s)

/-- CONFIG_PUT (R173). -/
def execConfigPut (item : Byte) (value : Half) (s : State) : Host.Outcome State Fault Refusal :=
  .next (linkCommand 3 0 (configPut item value) s)

/-- CONFIG_COMMIT: frozen, the first failing check, or the commit (R174, R175). The item byte is 00h on OK (log 42). -/
def configCommit (s : State) : State :=
  if s.alk.committed then linkAnswer .configFrozen (zeroBytes 1) s
  else
    match s.badItem with
    | some i => linkAnswer .invalidConfig [byteOf i.number] s
    | none => linkAnswer .ok (zeroBytes 1) (commitAll s)

/-- CONFIG_COMMIT (R174). -/
def execConfigCommit (s : State) : Host.Outcome State Fault Refusal :=
  .next (takeEvent (linkCommand 0 1 configCommit) s)

/-! ## The profile table (R25 to R28) -/

/-- The pointer mode that a mode byte names, if any (section 12.3). -/
def PointerMode.ofCode? (n : Nat) : Option PointerMode :=
  match n with
  | 0 => some .write
  | 1 => some .read
  | _ => none

/-- PROFILE_SEEK's two cases (R25). -/
def profileSeek (index mode : Byte) (s : State) : State :=
  match PointerMode.ofCode? mode.toNat with
  | none => linkAnswer .badParameter [] s
  | some m =>
    if index.toNat ≤ 15 then linkAnswer .ok [] (prfSeek index.toNat m s) else linkAnswer .badParameter [] s

/-- PROFILE_SEEK (R25). -/
def execProfileSeek (index mode : Byte) (s : State) : Host.Outcome State Fault Refusal :=
  .next (linkCommand 2 0 (profileSeek index mode) s)

/-- PROFILE_PUT's checks in order, then the staging (R26, R27). -/
def profilePut (word : Half) (s : State) : State :=
  if s.prf.mode = .read then linkAnswer .wrongMode [] s
  else if 16 ≤ s.prf.index then linkAnswer .tableEnd [] s
  else if s.cyc.phase ≠ .idle then linkAnswer .wrongPhase [] s
  else linkAnswer (if prfClamps s.prf.wordPhase word then .clamped else .ok) [] (prfStage word s)

/-- PROFILE_PUT (R26). -/
def execProfilePut (word : Half) (s : State) : Host.Outcome State Fault Refusal :=
  .next (linkCommand 2 0 (profilePut word) s)

/-- PROFILE_GET's cases (R28); WRITE mode is tested first (log 16). -/
def profileGet (s : State) : State :=
  if s.prf.mode = .write then linkAnswer .wrongMode (zeroBytes 2) s
  else if 16 ≤ s.prf.index then linkAnswer .tableEnd (zeroBytes 2) s
  else linkAnswer .ok (halfBytes ((s.segmentAt s.prf.index).word s.prf.wordPhase)) (prfNext s)

/-- PROFILE_GET (R28). -/
def execProfileGet (s : State) : Host.Outcome State Fault Refusal :=
  .next (linkRead 0 profileGet s)

/-! ## The cycle (R4, R5, R8, R16, R17) -/

/-- START: the first failing condition, or the start (R4, R5). The index byte is 00h on OK (log 42). -/
def startCycle (s : State) : State :=
  match s.startRefusal with
  | some (code, index) => linkAnswer code [byteOf index] s
  | none => linkAnswer .ok (zeroBytes 1) (cycStart s)

/-- START (R4). -/
def execStart (s : State) : Host.Outcome State Fault Refusal :=
  .next (takeEvent (linkCommand 0 1 startCycle) s)

/-- ABORT by phase (R8). -/
def abortCycle (s : State) : State :=
  match s.cyc.phase with
  | .locking => linkAnswer .ok [] (s.modCyc fun c => { c with abortPending := true })
  | .heating => linkAnswer .ok [] (cycLeaveHeating .cooling (cycOutcome .aborted s))
  | .idle | .cooling | .tripped | .unlocking | .held => linkAnswer .wrongPhase [] s

/-- ABORT (R8). -/
def execAbort (s : State) : Host.Outcome State Fault Refusal :=
  .next (takeEvent (linkCommand 0 0 abortCycle) s)

/-- CLEAR by phase (R16, R17). -/
def clearFaults (s : State) : State :=
  if s.cyc.phase = .tripped then clearTripped s else clearOther s

/-- CLEAR (R16). -/
def execClear (s : State) : Host.Outcome State Fault Refusal :=
  .next (takeEvent (linkCommand 0 0 clearFaults) s)

/-! ## The event list, peers, an unknown code, CSN (R132, R170, R171, R178) -/

/-- The list loses its oldest record; the lost flag ends when it empties (R178). -/
def alkRemove (rest : List EventRec) (s : State) : State :=
  alkLines (s.modAlk fun a => { a with events := rest, lost := if rest = [] then false else a.lost })

/-- EVENT_READ (R178). -/
def eventRead (s : State) : State :=
  match s.alk.events with
  | [] => linkAnswer .empty (zeroBytes 8) s
  | e :: rest =>
    let t := alkRemove rest s
    linkAnswer .ok (eventBytes e rest.length t.alk.lost) t

/-- EVENT_READ (R178). -/
def execEventRead (s : State) : Host.Outcome State Fault Refusal :=
  .next (linkRead 0 eventRead s)

/-- PEER_FORGET's tests in order (R132). -/
def peerForget (station : Byte) (s : State) : State :=
  let n := station.toNat
  if n < 1 ∨ 31 < n then linkAnswer .badParameter [] s
  else
    match peerOf n s.ptb.records with
    | none => linkAnswer .empty [] s
    | some p =>
      match p.state with
      | .live => linkAnswer .badParameter [] s
      | .lapsed => linkAnswer .ok [] (ptbRemove 1 n s)

/-- PEER_FORGET (R132). -/
def execPeerForget (station : Byte) (s : State) : Host.Outcome State Fault Refusal :=
  .next (takeEvent (linkCommand 1 0 (peerForget station)) s)

/-- BAD_COMMAND (R170): a code of no command; WRONG_PHASE is for commands (log 23). -/
def execBadCommand (_code : Byte) (s : State) : Host.Outcome State Fault Refusal :=
  .next (linkRead 0 (linkAnswer .badCommand []) s)

/-- CSN_RISE (R171): the received bytes of a command that has not taken effect are dropped. -/
def execCsnRise (_received : List Byte) (s : State) : Host.Outcome State Fault Refusal :=
  .next (linkRise s)

end Sys2Proof.Machine
end

