-- ==== Sys2Proof/Machine/Lock.lean ====
section
/-! DEFINITION. Meanings of LCK's rows: switch edges and debounce (R43) and the ends of the parts of a travel (R49 to R55).
A row that ends a part which is not running changes nothing (log 12). -/

namespace Sys2Proof.Machine

/-- A raw change restarts the 50 ms (R43). -/
def lckEdge (sw : SwitchId) (level : Bool) (s : State) : State :=
  if (s.lck.switch sw).raw = level then s
  else s.modLck fun l => l.setSwitch sw { l.switch sw with raw := level, timer := some 50 }

/-- SWITCH_EDGE (R43). -/
def execSwitchEdge (sw : SwitchId) (level : Bool) (s : State) : Host.Outcome State Fault Refusal :=
  .next (lckEdge sw level s)

/-- SWITCH_DEBOUNCED (R43; log 12). -/
def execSwitchDebounced (sw : SwitchId) (level : Bool) (s : State) : Host.Outcome State Fault Refusal :=
  .next (takeEvent (lckDebounced sw level) s)

/-- A lock drive expires, perhaps meeting an engagement (R49, R52). -/
def lckDriveExpiry (s : State) : State :=
  if s.lck.stage = .lockDrive then lckAttemptFailed (lckStop (lckMeet s)) else s

/-- LOCK_DRIVE_EXPIRY (R49). -/
def execLockDriveExpiry (s : State) : Host.Outcome State Fault Refusal :=
  .next (takeEvent lckDriveExpiry s)

/-- The seat ends with the latch engaged: LOCKED, reported to CYC (R49). -/
def lckLocked (s : State) : State :=
  cycLocked (lckSetState .locked ((lckStop s).modLck fun l => { l with attempts := 0 }))

/-- The seat ends (R49). -/
def lckSeatEnd (s : State) : State :=
  if s.lck.stage = .seat then
    if s.latchEngaged then lckLocked s else lckAttemptFailed (lckStop s)
  else s

/-- SEAT_END (R49). -/
def execSeatEnd (s : State) : Host.Outcome State Fault Refusal :=
  .next (takeEvent lckSeatEnd s)

/-- A pause of 500 ms with the motor off (R50, R55). -/
def lckPause (stage : Stage) (s : State) : State :=
  s.modLck fun l => { l with stage := stage, motor := .off, travelTimer := none, stageTimer := some 500 }

/-- LOCK_BACK_DRIVE_END (R50). -/
def execLockBackDriveEnd (s : State) : Host.Outcome State Fault Refusal :=
  .next (if s.lck.stage = .lockBackDrive then lckPause .lockPause s else s)

/-- The second attempt is counted and recorded; `dir` is 0 for lock and 1 for unlock (R45, R50, R55). -/
def lckRetry (dir : Nat) (s : State) : State :=
  alkRecord .lockRetry (detail 0 dir) (s.modLck fun l => { l with attempts := 2 })

/-- LOCK_PAUSE_END (R50). -/
def execLockPauseEnd (s : State) : Host.Outcome State Fault Refusal :=
  .next (if s.lck.stage = .lockPause then lckLockDrive (lckRetry 0 s) else s)

/-- The travel timer of an unlock drive or of a door return expires, perhaps meeting a freeing (R51, R54). -/
def lckUnlockExpiry (s : State) : State :=
  match s.lck.stage with
  | .unlockDrive => lckUnlockFailed (lckStop (lckMeet s))
  | .doorReturn | .doorReturnClearance => lckReturnEnd (lckMeet s)
  | .none | .lockDrive | .seat | .lockBackDrive | .lockPause | .clearance | .unlockBackDrive | .unlockPause => s

/-- UNLOCK_DRIVE_EXPIRY (R54). -/
def execUnlockDriveExpiry (s : State) : Host.Outcome State Fault Refusal :=
  .next (takeEvent lckUnlockExpiry s)

/-- A clearance of an unlock travel or of a door return has run (R51, R54). -/
def lckClearanceEnd (s : State) : State :=
  match s.lck.stage with
  | .clearance => lckUnlockDone s
  | .doorReturnClearance => lckReturnEnd s
  | .none | .lockDrive | .seat | .lockBackDrive | .lockPause | .unlockDrive | .unlockBackDrive | .unlockPause
  | .doorReturn => s

/-- CLEARANCE_END (R54). -/
def execClearanceEnd (s : State) : Host.Outcome State Fault Refusal :=
  .next (takeEvent lckClearanceEnd s)

/-- UNLOCK_BACK_DRIVE_END (R55). -/
def execUnlockBackDriveEnd (s : State) : Host.Outcome State Fault Refusal :=
  .next (if s.lck.stage = .unlockBackDrive then lckPause .unlockPause s else s)

/-- The pause of an unlock travel ends: a second drive if the unlock test passes, JAMMED otherwise (R55). -/
def lckUnlockPause (s : State) : State :=
  if s.lck.stage = .unlockPause then
    if s.unlockTest then lckUnlockDrive (lckRetry 1 s) else lckUnlockJam s
  else s

/-- UNLOCK_PAUSE_END (R55). -/
def execUnlockPauseEnd (s : State) : Host.Outcome State Fault Refusal :=
  .next (takeEvent lckUnlockPause s)

end Sys2Proof.Machine
end

