-- ==== Sys2Proof/Machine/RampSteps.lean ====
section
/-! DEFINITION. Meanings of the ramp engine's one-second step and of its named cases: RAMP_STEP, HOLD_COMPLETE,
SEGMENT_RESTART, HEAT_TIMEOUT and SLOT_TIMEOUT (R33 to R40). -/

namespace Sys2Proof.Machine

/-! ## RAMPING (R33 to R36) -/

/-- The segment timer advances unless DRV's last window was allowance-limited (R35). -/
def rampTime (s : State) : State :=
  if s.drv.limited then s else s.modRamp fun r => { r with segTimer := satSucc b16Limit r.segTimer }

/-- The lag test stalls the step (R33). -/
def State.lagStalls (s : State) : Bool :=
  s.ramp.up && decide ((s.cfg .lg : Int) < s.ramp.sp - s.filteredA)

/-- SP one step nearer the target, stopping at it (R33). -/
def toward (target sp step : Int) : Int :=
  if sp ≤ target then min target (sp + step) else max target (sp - step)

/-- The setpoint's movement (R33). -/
def rampMove (s : State) : State :=
  s.modRamp fun r => { r with
    frac := (r.frac + s.segment.rate) % 60
    sp := toward s.segment.target r.sp ((r.frac + s.segment.rate) / 60 : Nat) }

/-- The step up to its completion test: the timer, then the movement or stall (R33, R35). -/
def rampAdvance (s : State) : State :=
  if s.lagStalls then rampTime s else rampMove (rampTime s)

/-- The RAMP segment is complete (R34). -/
def State.rampComplete (s : State) : Bool :=
  s.ramp.sp == (s.segment.target : Int) &&
    (if s.ramp.up then decide ((s.segment.target : Int) - s.cfg .ab ≤ s.filteredA)
     else decide (s.filteredA ≤ (s.segment.target : Int) + s.cfg .ab))

/-- The segment timer exceeds the limit of the RAMP, not yet reported (R36). -/
def State.heatLate (s : State) : Bool :=
  decide (rampLimit s.segment.target s.ramp.segStart s.segment.rate < s.ramp.segTimer) && !s.ramp.heatTimeoutRaised

/-- The segment completes; HEAT_TIMEOUT is gone, and the next one begins (R32, R34, R36; log 10). -/
def rampNext (s : State) : State :=
  rampBegin (s.ramp.segIndex + 1) (prtGone .heatTimeout (s.modRamp fun r => { r with frac := 0 }))

/-- HEAT_TIMEOUT is reported (R36). -/
def rampLate (s : State) : State :=
  prtRaise .heatTimeout (s.modRamp fun r => { r with heatTimeoutRaised := true })

/-- The step after its movement: completion, then the time limit (R34, R36). -/
def rampJudge (s : State) : State :=
  if s.rampComplete then rampNext s else if s.heatLate then rampLate s else s

/-! ## HOLDING (R37, R38) -/

/-- The filtered A value lies within the hold band (R37). -/
def State.inHoldBand (s : State) : Bool :=
  decide ((s.filteredA - s.segment.target).natAbs ≤ s.cfg .hb)

/-- The filtered A value lies below the hold band (R38). -/
def State.belowHoldBand (s : State) : Bool :=
  decide (s.filteredA < (s.segment.target : Int) - s.cfg .hb)

/-- The hold timer and the drop run of a step (R37, R38). -/
def holdCount (s : State) : State :=
  s.modRamp fun r => { r with
    holdTimer := if s.inHoldBand then satSucc b16Limit r.holdTimer else r.holdTimer
    dropRun := if s.segment.restart && s.belowHoldBand then r.dropRun + 1 else 0 }

/-- The step up to its judgement (R35, R37, R38). -/
def holdAdvance (s : State) : State :=
  holdCount (rampTime s)

/-- The drop run has reached 60 (R38). -/
def State.dropped (s : State) : Bool :=
  s.segment.restart && decide (60 ≤ s.ramp.dropRun)

/-- The hold timer has reached the hold minutes (R37). -/
def State.holdDone (s : State) : Bool :=
  decide (s.segment.holdMin * 60 ≤ s.ramp.holdTimer)

/-- The hold starts again from zero (R38). -/
def holdRestart (s : State) : State :=
  alkRecord .segmentRestart (detail 0 s.ramp.segIndex) (s.modRamp fun r => { r with holdTimer := 0, dropRun := 0 })

/-- The step after its counting: a restart, which does not complete, or completion (R37, R38). -/
def holdJudge (s : State) : State :=
  if s.dropped then holdRestart s
  else if s.holdDone then rampBegin (s.ramp.segIndex + 1) s
  else s

/-! ## WAITING_SLOT (R39, R40) -/

/-- The slot-wait count advances; at Ws × 60 s SLOT_TIMEOUT is reported (R40). -/
def slotWaitStep (s : State) : State :=
  let t := s.modRamp fun r => { r with slotWait := r.slotWait + 1 }
  if t.ramp.slotWait = s.cfg .ws * 60 then prtRaise .slotTimeout t else t

/-! ## The step -/

/-- The next step falls one second on (R30). -/
def rampRearm (s : State) : State :=
  s.modRamp fun r => { r with stepTimer := some secondMs }

/-- A one-second step by the engine's state; IDLE and FINISHED take none (R30, R42). -/
def rampStep (s : State) : State :=
  match s.ramp.state with
  | .idle | .finished => s
  | .ramping => rampJudge (rampAdvance (rampRearm s))
  | .holding => holdJudge (holdAdvance (rampRearm s))
  | .waitingSlot => slotWaitStep (rampRearm s)

/-- RAMP_STEP (R33). -/
def execRampStep (s : State) : Host.Outcome State Fault Refusal :=
  .next (takeEvent rampStep s)

/-- This step completes a HOLD (R37). -/
def State.holdCompletes (s : State) : Bool :=
  s.ramp.state == .holding && !(holdAdvance s).dropped && (holdAdvance s).holdDone

/-- HOLD_COMPLETE (R37): the step that completes a HOLD; no other step is this row (log 9). -/
def execHoldComplete (s : State) : Host.Outcome State Fault Refusal :=
  .next (if s.holdCompletes then takeEvent rampStep s else s)

/-- This step restarts a HOLD (R38). -/
def State.holdRestarts (s : State) : Bool :=
  s.ramp.state == .holding && (holdAdvance s).dropped

/-- SEGMENT_RESTART (R38): the step in which the drop run reaches 60 (log 9). -/
def execSegmentRestart (s : State) : Host.Outcome State Fault Refusal :=
  .next (if s.holdRestarts then takeEvent rampStep s else s)

/-- This step reports HEAT_TIMEOUT (R36). -/
def State.heatTimesOut (s : State) : Bool :=
  s.ramp.state == .ramping && !(rampAdvance s).rampComplete && (rampAdvance s).heatLate

/-- HEAT_TIMEOUT (R36): the step in which the segment timer passes the limit (log 9). -/
def execHeatTimeout (s : State) : Host.Outcome State Fault Refusal :=
  .next (if s.heatTimesOut then takeEvent rampStep s else s)

/-- This step reports SLOT_TIMEOUT (R40). -/
def State.slotTimesOut (s : State) : Bool :=
  s.ramp.state == .waitingSlot && s.ramp.slotWait + 1 == s.cfg .ws * 60

/-- SLOT_TIMEOUT (R40): the step in which the slot-wait count reaches the limit (log 9). -/
def execSlotTimeout (s : State) : Host.Outcome State Fault Refusal :=
  .next (if s.slotTimesOut then takeEvent rampStep s else s)

end Sys2Proof.Machine
end

