-- ==== Sys2Proof/Machine/Reads.lean ====
section
/-! DEFINITION. Meanings of the read commands (R172): the answer is formed from the state as it stands, and no block
changes. -/

namespace Sys2Proof.Machine

/-- A read command answered with OK. -/
def readOk (bytes : State → List Byte) (s : State) : State :=
  linkRead 0 (fun t => linkAnswer .ok (bytes s) t) s

/-- READ_STATUS (R172). -/
def execReadStatus (s : State) : Host.Outcome State Fault Refusal :=
  .next (readOk statusBytes s)

/-- READ_TEMPS (R71). -/
def execReadTemps (s : State) : Host.Outcome State Fault Refusal :=
  .next (readOk tempBytes s)

/-- READ_SHARE (R156). -/
def execReadShare (s : State) : Host.Outcome State Fault Refusal :=
  .next (readOk shareBytes s)

/-- READ_PEER's result: BAD_PARAMETER past 14, EMPTY past the records, else the record at the index (R136). -/
def peerAnswer (index : Byte) (s : State) : ResultCode × List Byte :=
  let count := s.ptb.records.length
  if 14 < index.toNat then (.badParameter, zeroBytes 24)
  else
    match s.ptb.records[index.toNat]? with
    | none => (.empty, [byteOf count, flagByte s.ptb.overflow] ++ zeroBytes 22)
    | some p => (.ok, peerBytes count s.ptb.overflow s.soloAllowance p)

/-- READ_PEER (R136). -/
def execReadPeer (index : Byte) (s : State) : Host.Outcome State Fault Refusal :=
  .next (linkRead 1 (linkAnswer (peerAnswer index s).1 (peerAnswer index s).2) s)

/-- READ_CYCLE (R21). -/
def execReadCycle (s : State) : Host.Outcome State Fault Refusal :=
  .next (readOk (fun t => cycleBytes t.cyc.record) s)

/-- READ_FAULTS (R169). -/
def execReadFaults (s : State) : Host.Outcome State Fault Refusal :=
  .next (readOk (fun t => faultBytes t.prt) s)

/-- CONFIG_GET's result (R173). -/
def getAnswer (item : Byte) (s : State) : ResultCode × List Byte :=
  match Item.ofNumber? item.toNat with
  | some i => (.ok, natBytes (s.stored i))
  | none => (.badParameter, natBytes 0)

/-- CONFIG_GET (R173). -/
def execConfigGet (item : Byte) (s : State) : Host.Outcome State Fault Refusal :=
  .next (linkRead 1 (linkAnswer (getAnswer item s).1 (getAnswer item s).2) s)

end Sys2Proof.Machine
end

