-- ==== Sys2Proof/Machine/Regulation.lean ====
section
/-! DEFINITION. Meanings of REG's rows: HEATING_EVALUATION (R75 to R80) and COOLING_RULE_EXPIRY (R86 to R88). -/

namespace Sys2Proof.Machine

/-- The error e, clamped (R77). -/
def State.error (s : State) : Int :=
  clampInt (-2000) 2000 (s.ramp.sp - s.filteredA)

/-- The proportional term P (R77). -/
def State.proportional (s : State) : Int :=
  ((s.cfg .kp : Int) * s.error).tdiv 16

/-- The integral step ΔI (R78). -/
def State.integralStep (s : State) : Int :=
  ((s.cfg .ki : Int) * s.error).tdiv 64

/-- The integral after the anti-windup (R78). -/
def State.nextIntegral (s : State) : Nat :=
  if s.reg.limited && decide (0 < s.error) then s.reg.integral
  else (clampInt 0 1000 (s.reg.integral + s.integralStep)).toNat

/-- The overshoot guard (R79). -/
def State.guardActs (s : State) : Bool :=
  decide (s.ramp.sp + 150 < s.filteredA)

/-- The demand (R79). -/
def State.nextDemand (s : State) : Nat :=
  if s.guardActs then 0 else (clampInt 0 1000 (s.proportional + s.nextIntegral)).toNat

/-- The evaluation's D and I, the next evaluation a second on (R74, R78, R79). -/
def regSet (s : State) : State :=
  s.modReg fun r => { r with
    demand := s.nextDemand
    integral := if s.guardActs then 0 else s.nextIntegral
    evalTimer := some secondMs }

/-- An evaluation, as one operation (R75, R80). -/
def regEvaluate (s : State) : State :=
  shrWant (s.wantOf s.nextDemand) (regSet s)

/-- HEATING_EVALUATION (R77): evaluations run in HEATING alone (R74). -/
def execHeatingEvaluation (s : State) : Host.Outcome State Fault Refusal :=
  .next (if s.cyc.phase = .heating then takeEvent regEvaluate s else s)

/-- The rule level after a measured rate, clamped to 20..100 (R87). -/
def nextLevel (level rc : Nat) (rate : Int) : Nat :=
  if rate < (rc : Int) - 5 then clampNat 20 100 (level + 10)
  else if (rc : Int) + 5 < rate then clampNat 20 100 (level - 10)
  else level

/-- An expiry's measurement: the new sample against the base (R86 to R88). -/
def regMeasure (s : State) : State :=
  match s.reg.base, s.coolingSample with
  | _, none => s.modReg fun r => { r with ruleLevel := 100, rate := none, base := none }
  | none, some b => s.modReg fun r => { r with rate := none, base := some b }
  | some a, some b =>
    if a.1 = b.1 then
      let rate := (a.2 - b.2) * 2
      s.modReg fun r => { r with ruleLevel := nextLevel r.ruleLevel (s.cfg .rc) rate, rate := some rate, base := some b }
    else s.modReg fun r => { r with rate := none, base := some b }

/-- The cooling-rule timer expires: it runs on, and the fan follows the new level (R86, R87). -/
def regCoolExpiry (s : State) : State :=
  regFan ((regMeasure s).modReg fun r => { r with coolTimer := some (30 * secondMs) })

/-- COOLING_RULE_EXPIRY (R86), while the rule runs. -/
def execCoolingRuleExpiry (s : State) : Host.Outcome State Fault Refusal :=
  .next (if s.reg.coolTimer.isSome then regCoolExpiry s else s)

end Sys2Proof.Machine
end

