-- ==== Sys2Proof/Machine/Resets.lean ====
section
/-! DEFINITION. Meanings of the reset rows: POWER_ON_RESET, RESETN, STATION_RESET and STATION_RESET_DONE (R176, R180). -/

namespace Sys2Proof.Machine

/-- POWER_ON_RESET (R180). -/
def execPowerOnReset (s : State) : Host.Outcome State Fault Refusal :=
  .next (resetAll .powerOn s)

/-- RESETN (R176, R180): at once, whatever the phase, the lock state and a reset that waits. -/
def execResetn (s : State) : Host.Outcome State Fault Refusal :=
  .next (resetAll .resetn s)

/-- STATION_RESET is accepted in IDLE with the lock UNLOCKED, and refused with WRONG_PHASE otherwise (R176). -/
def stationReset (s : State) : State :=
  if s.cyc.phase = .idle ∧ s.lck.state = .unlocked then linkAnswer .ok [] (alkScheduleReset s)
  else linkAnswer .wrongPhase [] s

/-- STATION_RESET (R176). -/
def execStationReset (s : State) : Host.Outcome State Fault Refusal :=
  .next (linkCommand 0 0 stationReset s)

/-- The accepted reset takes place once it is due (R176); while it is not, the row changes nothing (log 12). -/
def stationResetDone (s : State) : State :=
  match s.resetDue with
  | some cause => resetAll cause s
  | none => s

/-- STATION_RESET_DONE (R176). -/
def execStationResetDone (s : State) : Host.Outcome State Fault Refusal :=
  .next (stationResetDone s)

end Sys2Proof.Machine
end

