-- ==== Sys2Proof/Machine/Sharing.lean ====
section
/-! DEFINITION. Meanings of PTB's and SHR's timed rows: PEER_LAPSED (R131), LISTEN_EXPIRY (R139), CLAIM_SETTLE (R146),
SLOT_SETTLE (R151) and SLOT_BACKOFF_EXPIRY (R152). -/

namespace Sys2Proof.Machine

/-- The detail of PEER_LAPSED: bits 14 to 10 the station, bits 9 to 0 the held value (section 12.4). -/
def lapseDetail (p : Peer) : Half :=
  BitVec.ofNat 16 (p.station * 1024 + p.held)

/-- A LIVE record lapses at 3500 ms (R131). -/
def ptbLapse (station : Nat) (s : State) : State :=
  match peerOf station s.ptb.records with
  | none => s
  | some p =>
    match p.state with
    | .lapsed => s
    | .live =>
      ptbSignal (alkRecord .peerLapsed (lapseDetail p)
        (ptbSet (replacePeer { p with state := .lapsed, age := 3500 } s.ptb.records) s))

/-- PEER_LAPSED (R131). -/
def execPeerLapsed (station : Nat) (s : State) : Host.Outcome State Fault Refusal :=
  .next (takeEvent (ptbLapse station) s)

/-- A slot request that WAITS is taken again on entry to SHARING (R153, R154). -/
def shrResume (s : State) : State :=
  if s.shr.request = .waiting then shrTakeRequest s else s

/-- SHARING is entered (R139, R142, R154, R156): SHARE_STATE, the evaluation, then a request that waited (log 10). -/
def shrEnterSharing (s : State) : State :=
  shrResume (shrEvaluate (shrRecord (s.modShr fun u => { u with state := .sharing, listenTimer := none })))

/-- SHR is listening. -/
def ShareState.listens : ShareState → Bool
  | .listening _ => true
  | .off | .sharing | .fallback => false

/-- The listen timer expires with the cause set empty (R139). -/
def shrListenExpiry (s : State) : State :=
  if s.shr.state.listens && s.shr.listenTimer.isSome && s.shr.causes == 0 then shrEnterSharing s else s

/-- LISTEN_EXPIRY (R139). -/
def execListenExpiry (s : State) : Host.Outcome State Fault Refusal :=
  .next (takeEvent shrListenExpiry s)

/-- A claim settles: Ho gains the smaller of Co and a fresh room, SETTLED is set, SHR evaluates (R146). -/
def shrSettle (s : State) : State :=
  shrEvaluate (bliSetReason .settled (shrDropClaim
    (s.modShr fun u => { u with ho := u.ho + min u.co s.room })))

/-- The claim settle timer expires (R146). -/
def shrClaimExpiry (s : State) : State :=
  if s.shr.claimTimer.isSome ∧ s.shr.claim = .settling then shrSettle s else s

/-- CLAIM_SETTLE (R146). -/
def execClaimSettle (s : State) : Host.Outcome State Fault Refusal :=
  .next (takeEvent shrClaimExpiry s)

/-- The slot settle timer expires: HOLD if fewer than K holders are counted, else NONE and a back-off (R151). -/
def shrSlotExpiry (s : State) : State :=
  if s.shr.settleTimer.isSome ∧ s.shr.request = .claiming then
    if s.shr.sums.holders < s.cfg .k then shrHold s else shrBackOff (shrSetSlot .none s)
  else s

/-- SLOT_SETTLE (R151). -/
def execSlotSettle (s : State) : Host.Outcome State Fault Refusal :=
  .next (takeEvent shrSlotExpiry s)

/-- The slot back-off ends: the request is taken again as a new one (R152). -/
def shrBackOffExpiry (s : State) : State :=
  if s.shr.backoffTimer.isSome ∧ s.shr.request = .backingOff then
    shrTakeRequest (s.modShr fun u => { u with request := .none, backoffTimer := none })
  else s

/-- SLOT_BACKOFF_EXPIRY (R152). -/
def execSlotBackoffExpiry (s : State) : Host.Outcome State Fault Refusal :=
  .next (takeEvent shrBackOffExpiry s)

end Sys2Proof.Machine
end

