-- ==== Sys2Proof/Machine/Temperature.lean ====
section
/-! DEFINITION. Meanings of TMS's rows and of the blind-cool second: CONVERSION_COMPLETION and its named cases (R60 to R70),
BLIND_COOL_TICK (R164). -/

namespace Sys2Proof.Machine

/-- CONVERSION_COMPLETION (R60). -/
def execConversionCompletion (ch : Channel) (raw : Int) (s : State) : Host.Outcome State Fault Refusal :=
  .next (takeEvent (tmsComplete ch raw) s)

/-- CHANNEL_FAILURE (R63): the completion that fails the channel; no other completion is this row (log 9). -/
def execChannelFailure (ch : Channel) (raw : Int) (s : State) : Host.Outcome State Fault Refusal :=
  .next (onlyWhen (fun a b => !(a.tms.chan ch).failed && (b.tms.chan ch).failed) (takeEvent (tmsComplete ch raw)) s)

/-- CHANNEL_RECOVERY (R64): the completion that recovers the channel (log 9). -/
def execChannelRecovery (ch : Channel) (raw : Int) (s : State) : Host.Outcome State Fault Refusal :=
  .next (onlyWhen (fun a b => (a.tms.chan ch).failed && !(b.tms.chan ch).failed) (takeEvent (tmsComplete ch raw)) s)

/-- SENSOR_DISAGREE (R66): the B completion that makes the tenth disagreeing pair (log 9). -/
def execSensorDisagree (raw : Int) (s : State) : Host.Outcome State Fault Refusal :=
  .next (onlyWhen (fun a b => !a.tms.disagreePresent && b.tms.disagreePresent) (takeEvent (tmsComplete .b raw)) s)

/-- DISAGREE_CONDITION_GONE (R67): the B completion that makes the tenth agreeing pair (log 9). -/
def execDisagreeConditionGone (raw : Int) (s : State) : Host.Outcome State Fault Refusal :=
  .next (onlyWhen (fun a b => a.tms.disagreePresent && !b.tms.disagreePresent) (takeEvent (tmsComplete .b raw)) s)

/-- LATCH_HOT (R70): the L completion of the fiftieth hot period (log 9). -/
def execLatchHot (raw : Int) (s : State) : Host.Outcome State Fault Refusal :=
  .next (onlyWhen (fun a b => !a.tms.latchHotPresent && b.tms.latchHotPresent) (takeEvent (tmsComplete .l raw)) s)

/-- The blind-cool count after a second, at most 14400 (R164). -/
def Prt.blindAfterSecond (p : Prt) : Nat :=
  if p.heatSeen then p.blindCount else satSucc 14400 p.blindCount

/-- A second of PRT's timebase ends: the count, and the change handed on (R164, R165). -/
def prtSecond (s : State) : State :=
  if s.prt.blindRunning then
    let t := s.modPrt fun p => { p with blindCount := p.blindAfterSecond, secondMs := 0, heatSeen := s.drv.outputs.any }
    if t.prt.blindCount = s.prt.blindCount then t else unlockExam t
  else s

/-- BLIND_COOL_TICK (R164). -/
def execBlindCoolTick (s : State) : Host.Outcome State Fault Refusal :=
  .next (takeEvent prtSecond s)

end Sys2Proof.Machine
end

