-- ==== Sys2Proof/Machine/Dispatch.lean ====
section
/-! DEFINITION. One arm for each row of spec/opcode_table.json, in the table's order. -/

namespace Sys2Proof.Machine

def exec (i : Instr) (s : State) : Host.Outcome State Fault Refusal :=
  match i with
  | .powerOnReset => Sys2Proof.Machine.execPowerOnReset s
  | .resetn => Sys2Proof.Machine.execResetn s
  | .readStatus => Sys2Proof.Machine.execReadStatus s
  | .readTemps => Sys2Proof.Machine.execReadTemps s
  | .readShare => Sys2Proof.Machine.execReadShare s
  | .readPeer index => Sys2Proof.Machine.execReadPeer index s
  | .readCycle => Sys2Proof.Machine.execReadCycle s
  | .readFaults => Sys2Proof.Machine.execReadFaults s
  | .configPut item value => Sys2Proof.Machine.execConfigPut item value s
  | .configGet item => Sys2Proof.Machine.execConfigGet item s
  | .configCommit => Sys2Proof.Machine.execConfigCommit s
  | .profileSeek index mode => Sys2Proof.Machine.execProfileSeek index mode s
  | .profilePut word => Sys2Proof.Machine.execProfilePut word s
  | .profileGet => Sys2Proof.Machine.execProfileGet s
  | .start => Sys2Proof.Machine.execStart s
  | .abort => Sys2Proof.Machine.execAbort s
  | .clear => Sys2Proof.Machine.execClear s
  | .eventRead => Sys2Proof.Machine.execEventRead s
  | .peerForget station => Sys2Proof.Machine.execPeerForget station s
  | .stationReset => Sys2Proof.Machine.execStationReset s
  | .stationResetDone => Sys2Proof.Machine.execStationResetDone s
  | .badCommand code => Sys2Proof.Machine.execBadCommand code s
  | .csnRise received => Sys2Proof.Machine.execCsnRise received s
  | .secondsTick => Sys2Proof.Machine.execSecondsTick s
  | .cycleSecond => Sys2Proof.Machine.execCycleSecond s
  | .coolSlow => Sys2Proof.Machine.execCoolSlow s
  | .rampStep => Sys2Proof.Machine.execRampStep s
  | .holdComplete => Sys2Proof.Machine.execHoldComplete s
  | .segmentRestart => Sys2Proof.Machine.execSegmentRestart s
  | .heatTimeout => Sys2Proof.Machine.execHeatTimeout s
  | .slotTimeout => Sys2Proof.Machine.execSlotTimeout s
  | .heatingEvaluation => Sys2Proof.Machine.execHeatingEvaluation s
  | .coolingRuleExpiry => Sys2Proof.Machine.execCoolingRuleExpiry s
  | .switchEdge sw level => Sys2Proof.Machine.execSwitchEdge sw level s
  | .switchDebounced sw level => Sys2Proof.Machine.execSwitchDebounced sw level s
  | .lockDriveExpiry => Sys2Proof.Machine.execLockDriveExpiry s
  | .seatEnd => Sys2Proof.Machine.execSeatEnd s
  | .lockBackDriveEnd => Sys2Proof.Machine.execLockBackDriveEnd s
  | .lockPauseEnd => Sys2Proof.Machine.execLockPauseEnd s
  | .unlockDriveExpiry => Sys2Proof.Machine.execUnlockDriveExpiry s
  | .clearanceEnd => Sys2Proof.Machine.execClearanceEnd s
  | .unlockBackDriveEnd => Sys2Proof.Machine.execUnlockBackDriveEnd s
  | .unlockPauseEnd => Sys2Proof.Machine.execUnlockPauseEnd s
  | .conversionCompletion ch raw => Sys2Proof.Machine.execConversionCompletion ch raw s
  | .channelFailure ch raw => Sys2Proof.Machine.execChannelFailure ch raw s
  | .channelRecovery ch raw => Sys2Proof.Machine.execChannelRecovery ch raw s
  | .sensorDisagree raw => Sys2Proof.Machine.execSensorDisagree raw s
  | .disagreeConditionGone raw => Sys2Proof.Machine.execDisagreeConditionGone raw s
  | .latchHot raw => Sys2Proof.Machine.execLatchHot raw s
  | .blindCoolTick => Sys2Proof.Machine.execBlindCoolTick s
  | .zeroCross sample => Sys2Proof.Machine.execZeroCross sample s
  | .windowComplete sample => Sys2Proof.Machine.execWindowComplete sample s
  | .elementOvercurrent sample => Sys2Proof.Machine.execElementOvercurrent sample s
  | .driveStuck sample => Sys2Proof.Machine.execDriveStuck sample s
  | .elementLow sample => Sys2Proof.Machine.execElementLow sample s
  | .mainsSuspend => Sys2Proof.Machine.execMainsSuspend s
  | .mainsAbsent => Sys2Proof.Machine.execMainsAbsent s
  | .attemptBegin => Sys2Proof.Machine.execAttemptBegin s
  | .attemptLost => Sys2Proof.Machine.execAttemptLost s
  | .attemptComplete => Sys2Proof.Machine.execAttemptComplete s
  | .periodExpiry => Sys2Proof.Machine.execPeriodExpiry s
  | .departureTimeout => Sys2Proof.Machine.execDepartureTimeout s
  | .frameReceived nbits bits own => Sys2Proof.Machine.execFrameReceived nbits bits own s
  | .unreliable nbits bits own => Sys2Proof.Machine.execUnreliable nbits bits own s
  | .lineHeld own => Sys2Proof.Machine.execLineHeld own s
  | .lineIdle => Sys2Proof.Machine.execLineIdle s
  | .silent => Sys2Proof.Machine.execSilent s
  | .peerLapsed station => Sys2Proof.Machine.execPeerLapsed station s
  | .listenExpiry => Sys2Proof.Machine.execListenExpiry s
  | .claimSettle => Sys2Proof.Machine.execClaimSettle s
  | .slotSettle => Sys2Proof.Machine.execSlotSettle s
  | .slotBackoffExpiry => Sys2Proof.Machine.execSlotBackoffExpiry s
  | .glitch => Sys2Proof.Machine.execGlitch s

end Sys2Proof.Machine
end

