-- ==== Sys2Proof/Machine/Tick.lean ====
section
/-! DEFINITION. The crystal timebase: one millisecond of every running timer, then the rows that have fallen due, in a free
order (logs 2 and 3). Pins, conversions, zero-crossings and the bits on the bank line are not the timebase's: their rows are
commands (log 11). The leading edges of other stations, which no row tells, are free (log 43). -/

namespace Sys2Proof.Machine

/-! ## One millisecond -/

/-- A timer that counts down. -/
def downMs (t : Option Nat) : Option Nat :=
  t.map fun n => n - 1

/-- A timer that counts up. -/
def upMs (t : Option Nat) : Option Nat :=
  t.map fun n => n + 1

def tickSwitch (x : Switch) : Switch :=
  { x with timer := downMs x.timer }

/-- A record's age, held at 3500 while LIVE until PEER_LAPSED is taken (R131). -/
def Peer.aged (p : Peer) : Peer :=
  match p.state with
  | .live => { p with age := min 3500 (p.age + 1) }
  | .lapsed => { p with age := satSucc b16Limit p.age }

/-- The line may be released in this millisecond: no own bits, not held, no other station's frame under way (R106). -/
def Bli.quietLine (b : Bli) : Bool :=
  b.tx != .sending && !b.lineHeld && b.frame != .other

/-- What the other stations do to the line in a millisecond of 20 bit times (R105, R106, R110). -/
inductive LineMs where
  | released
  /-- Asserted, and released again `run` bit times before the millisecond ends. -/
  | restarted (run : Nat)
  /-- A frame began and is under way as the millisecond ends. -/
  | frameBegun
deriving DecidableEq, Repr

/-- What the others do is free: two draws from `k` decide it (log 43). -/
def freeLine (k : Nat) : LineMs :=
  match Config.draw k % 3 with
  | 0 => .released
  | 1 => .restarted (Config.draw (k + 1) % 20)
  | _ => .frameBegun

/-- The released run after a millisecond: a leading edge restarts it, and it does not grow while another station's frame is on
the line (R106, R110). -/
def Bli.runAfterMs (b : Bli) (m : LineMs) : Nat :=
  if b.quietLine then
    match m with
    | .released => b.releasedRun + 20
    | .restarted run => run
    | .frameBegun => 0
  else b.releasedRun

/-- The frame on the line after a millisecond. Another station's stays until its reception, or LINE_IDLE, ends it (R110,
R116). -/
def Bli.frameAfterMs (b : Bli) (m : LineMs) : LineFrame :=
  if b.quietLine then
    match m with
    | .released | .restarted _ => .none
    | .frameBegun => .other
  else b.frame

def tickLine (m : LineMs) (b : Bli) : Bli :=
  { b with releasedRun := b.runAfterMs m, frame := b.frameAfterMs m }

/-- Every running timer moves by one millisecond, and the line as the two draws have it. -/
def advanceMs (s : State) : State :=
  { s with
    cyc := { s.cyc with secondMs := s.cyc.secondMs + 1 }
    ramp := { s.ramp with stepTimer := downMs s.ramp.stepTimer }
    lck := { s.lck with
      door := tickSwitch s.lck.door, latch := tickSwitch s.lck.latch,
      travelTimer := downMs s.lck.travelTimer, stageTimer := downMs s.lck.stageTimer }
    reg := { s.reg with evalTimer := downMs s.reg.evalTimer, coolTimer := downMs s.reg.coolTimer }
    drv := { s.drv with absence := min 100 (s.drv.absence + 1), mainsTimer := upMs s.drv.mainsTimer }
    bli := { tickLine (freeLine s.draws) s.bli with
      periodTimer := downMs s.bli.periodTimer, departureTimer := downMs s.bli.departureTimer,
      silenceTimer := upMs s.bli.silenceTimer }
    ptb := { s.ptb with records := s.ptb.records.map Peer.aged }
    shr := { s.shr with
      listenTimer := downMs s.shr.listenTimer, claimTimer := downMs s.shr.claimTimer,
      settleTimer := downMs s.shr.settleTimer, backoffTimer := downMs s.shr.backoffTimer }
    prt := { s.prt with secondMs := if s.prt.blindRunning then s.prt.secondMs + 1 else s.prt.secondMs }
    alk := { s.alk with secondMs := s.alk.secondMs + 1 }
    draws := s.draws + 2 }

/-! ## The rows that are due -/

/-- A row that is due when `b` holds. -/
def rowIf (b : Bool) (i : Instr) : List Instr :=
  if b then [i] else []

/-- A count-down timer has run out. -/
def ranOut (t : Option Nat) : Bool :=
  t == some 0

/-- The row that ends the part of a travel timed by the travel timer. -/
def travelRow : Stage → List Instr
  | .lockDrive => [.lockDriveExpiry]
  | .unlockDrive | .doorReturn | .doorReturnClearance => [.unlockDriveExpiry]
  | .none | .seat | .lockBackDrive | .lockPause | .clearance | .unlockBackDrive | .unlockPause => []

/-- The row that ends the part of a travel timed by its own length. -/
def stageRow : Stage → List Instr
  | .seat => [.seatEnd]
  | .lockBackDrive => [.lockBackDriveEnd]
  | .lockPause => [.lockPauseEnd]
  | .clearance | .doorReturnClearance => [.clearanceEnd]
  | .unlockBackDrive => [.unlockBackDriveEnd]
  | .unlockPause => [.unlockPauseEnd]
  | .none | .lockDrive | .unlockDrive | .doorReturn => []

/-- The LIVE records whose age has reached 3500 ms. -/
def lapseRows (l : List Peer) : List Instr :=
  (l.filter fun p => p.state == .live && decide (3500 ≤ p.age)).map fun p => .peerLapsed p.station

/-- LCK's rows. -/
def lckDue (l : Lck) : List Instr :=
  rowIf (ranOut l.door.timer) (.switchDebounced .door l.door.raw)
    ++ rowIf (ranOut l.latch.timer) (.switchDebounced .latch l.latch.raw)
    ++ (if ranOut l.travelTimer then travelRow l.stage else [])
    ++ (if ranOut l.stageTimer then stageRow l.stage else [])

/-- BLI's rows. The attempt begins by itself once R110 lets it, with a reason pending. -/
def bliDue (s : State) : List Instr :=
  rowIf (s.bli.mayBegin && s.bli.nextKind.isSome) .attemptBegin ++ rowIf (ranOut s.bli.periodTimer) .periodExpiry
    ++ rowIf (ranOut s.bli.departureTimer) .departureTimeout
    ++ rowIf (!s.bli.silent && s.bli.silenceTimer.any fun n => decide (s.cfg .ts * 1000 ≤ n)) .silent

/-- SHR's rows. -/
def shrDue (u : Shr) : List Instr :=
  rowIf (ranOut u.listenTimer) .listenExpiry ++ rowIf (ranOut u.claimTimer) .claimSettle
    ++ rowIf (ranOut u.settleTimer) .slotSettle ++ rowIf (ranOut u.backoffTimer) .slotBackoffExpiry

/-- The rows that the timers make due now. -/
def State.dueRows (s : State) : List Instr :=
  rowIf s.resetDue.isSome .stationResetDone
    ++ rowIf (decide (1000 ≤ s.alk.secondMs)) .secondsTick
    ++ rowIf (decide (1000 ≤ s.cyc.secondMs)) .cycleSecond
    ++ rowIf (ranOut s.ramp.stepTimer) .rampStep
    ++ rowIf (ranOut s.reg.evalTimer) .heatingEvaluation
    ++ rowIf (ranOut s.reg.coolTimer) .coolingRuleExpiry
    ++ lckDue s.lck
    ++ rowIf (s.prt.blindRunning && decide (1000 ≤ s.prt.secondMs)) .blindCoolTick
    ++ rowIf (s.drv.state == .running && decide (100 ≤ s.drv.absence)) .mainsSuspend
    ++ rowIf (s.drv.mainsTimer == some 60000) .mainsAbsent
    ++ bliDue s
    ++ lapseRows s.ptb.records
    ++ shrDue s.shr

/-! ## Taking them in a free order (log 3) -/

def insertAt (n : Nat) (i : Instr) (l : List Instr) : List Instr :=
  l.take n ++ i :: l.drop n

/-- The rows in an order that the draws from `k` on decide. -/
def freeOrder (k : Nat) : List Instr → List Instr
  | [] => []
  | [i] => [i]
  | i :: j :: l => insertAt (Config.draw k % (l.length + 2)) i (freeOrder (k + 1) (j :: l))

/-- A row taken if it is still due when its turn comes. -/
def takeDue (s : State) (i : Instr) : State :=
  if i ∈ s.dueRows then
    match exec i s with
    | .next t => t
    | .fault _ | .refused _ => s
  else s

/-- One millisecond of the part with no command waiting (log 2). -/
def tick (s : State) : State :=
  let t := advanceMs s
  let rows := t.dueRows
  (freeOrder t.draws rows).foldl takeDue { t with draws := t.draws + (rows.length - 1) }

end Sys2Proof.Machine
end

