-- ==== Sys2Proof/Machine/LinkPort.lean ====
section
/-! DEFINITION. The bytes of a link transaction: which row the bytes on SDI spell, and what SDO carries (R170, R171, section
12.3). -/

namespace Sys2Proof.Machine

/-- How many parameter bytes a command code carries; absent for an unknown code (section 12.3). -/
def paramCount (code : Nat) : Option Nat :=
  match code with
  | 0x01 | 0x02 | 0x03 | 0x05 | 0x06 | 0x12 | 0x22 | 0x30 | 0x31 | 0x32 | 0x40 | 0x50 => some 0
  | 0x04 | 0x11 | 0x41 => some 1
  | 0x20 | 0x21 => some 2
  | 0x10 => some 3
  | _ => none

/-- The row that an unknown code or a code without parameters spells (R170). -/
def commandOfCode (code : Byte) : Instr :=
  match code.toNat with
  | 0x01 => .readStatus
  | 0x02 => .readTemps
  | 0x03 => .readShare
  | 0x05 => .readCycle
  | 0x06 => .readFaults
  | 0x12 => .configCommit
  | 0x22 => .profileGet
  | 0x30 => .start
  | 0x31 => .abort
  | 0x32 => .clear
  | 0x40 => .eventRead
  | 0x50 => .stationReset
  | _ => .badCommand code

/-- The command that has taken effect once these bytes have come on SDI, if any; bytes after the last parameter byte count
for nothing (R170, R171). -/
def commandOf (sdi : List Byte) : Option Instr :=
  match sdi with
  | [] => none
  | code :: params =>
    match code.toNat, params with
    | 0x04, i :: _ => some (.readPeer i)
    | 0x11, i :: _ => some (.configGet i)
    | 0x41, i :: _ => some (.peerForget i)
    | 0x20, i :: m :: _ => some (.profileSeek i m)
    | 0x21, h :: l :: _ => some (.profilePut (h ++ l))
    | 0x10, i :: h :: l :: _ => some (.configPut i (h ++ l))
    | 0x04, [] | 0x11, [] | 0x41, [] | 0x20, _ | 0x21, _ | 0x10, _ => none
    | _, _ => some (commandOfCode code)

/-- The byte at place `k` of the open transaction on SDO, absent while SDO is not driven: 00h up to the result code, then the
result, then 00h (R170, R176). -/
def Link.sdo (l : Link) (k : Nat) : Option Byte :=
  if l.csnLow && !l.sdoCut then some (if k < l.lead then 0 else l.answer.getD (k - l.lead) 0) else none

end Sys2Proof.Machine
end

