-- ==== Sys2Proof/Safety.lean ====
section
/-! DEFINITION. What every state of a run keeps, in the terms that the statements use: the event list and its lines, heat,
faults, the drive window, the fan, the slot, the shared current and the peer table. -/

namespace Sys2Proof.Machine

/-- R177 to R179: at most 32 records, the lost flag never with an empty list, the notice lines as the list calls for. -/
abbrev State.listSafe (s : State) : Prop :=
  s.alk.events.length ≤ 32 ∧ (s.alk.lost = true → s.alk.events ≠ []) ∧ s.alk.attn = s.attnDue ∧ s.alk.alert = s.alertDue

/-- R96: MAIN is closed exactly under its three conditions, the permission stands exactly in HEATING, and an element output
is on only while MAIN is closed. R44: while the start-up flag is set the lock state is LOCKED and no travel runs. -/
abbrev State.heatSafe (s : State) : Prop :=
  s.drv.main = s.mainAllowed ∧ s.drv.permitted = (s.cyc.phase == .heating) ∧
    (s.drv.outputs.any = true → s.drv.main = true) ∧
    (s.lck.startUp = true → s.lck.state = .locked ∧ s.lck.stage = .none)

/-- R157, R160: one entry a code, and a trip-class entry only in TRIPPED or IDLE. -/
abbrev State.faultSafe (s : State) : Prop :=
  (s.prt.faults.map FaultEntry.code).Nodup ∧ (s.hasTrip = true → s.cyc.phase = .idle ∨ s.cyc.phase = .tripped)

/-- R92: the current committed in the window is at most 64 × its Ho; before commit nothing is switched on. -/
abbrev State.windowSafe (s : State) : Prop :=
  s.committedCurrent s.drv.window.n ≤ 64 * s.drv.window.ho ∧
    (s.alk.committed = false → s.drv.window.n.sum = 0)

/-- R82, R83: the fan is at the level that the override and the phase call for; LOCKING and HEATING are reached only after
commit (R4). -/
abbrev State.fanSafe (s : State) : Prop :=
  s.reg.fan = s.fanLevel ∧ (s.cyc.phase = .locking ∨ s.cyc.phase = .heating → s.alk.committed = true)

/-- The slot state that a request standing goes with (the table of section 9.5). -/
def SlotStanding.slot : SlotStanding → SlotState
  | .none | .waiting | .backingOff => .none
  | .claiming => .claim
  | .granted => .hold

/-- R149: the valve is open exactly while the slot is HOLD, and the slot is the one of its request standing. -/
abbrev State.slotSafe (s : State) : Prop :=
  s.shr.valve = (s.shr.slot == .hold) ∧ s.shr.slot = s.shr.request.slot

/-- R147: what Ho is bounded by in each share state. -/
abbrev State.hoBounded (s : State) : Prop :=
  s.shr.ho ≤ s.cfg .b ∧ s.shr.ho ≤ 1023 ∧
    (s.shr.state = .off ∨ s.shr.state = .listening true → s.shr.ho = 0) ∧
    (s.shr.state = .fallback ∨ s.shr.state = .listening false → s.shr.ho ≤ s.soloAllowance)

/-- What keeps R147: SHR leaves OFF at commit (R139), S is formed there (R137), If fits a frame (R174), a claim stands in
SHARING alone (R140, R141), and a settled claim would still fit. -/
abbrev State.shareSafe (s : State) : Prop :=
  s.hoBounded ∧ s.alk.committed = (s.shr.state != .off) ∧
    (s.alk.committed = true → s.shr.solo = s.soloAllowance ∧ fullCurrent s.ratings s.weights ≤ 1023) ∧
    s.shr.wo ≤ 1023 ∧ s.shr.ho + s.shr.co ≤ 1023 ∧
    (s.shr.claim = .none → s.shr.co = 0) ∧ (s.shr.claim ≠ .none → s.shr.state = .sharing)

/-- R125: at most 15 records, in ascending station order, none of the own station, none made by a DEPART, none before
commit. -/
abbrev State.peerSafe (s : State) : Prop :=
  s.ptb.records.length ≤ 15 ∧ (s.ptb.records.map Peer.station).Pairwise (· < ·) ∧
    (∀ p ∈ s.ptb.records, 1 ≤ p.station ∧ p.station ≤ 31 ∧ p.station ≠ s.cfg .station ∧ p.lastKind ≠ .depart) ∧
    (s.alk.committed = false → s.ptb.records = [])

/-! ## What a command leaves as it was -/

/-- `t` is `s` but for the port's transaction, whose opening may end an older one that a waiting reset watches (R171, R176). -/
abbrev State.sameButLink (s t : State) : Prop :=
  { t with alk := { t.alk with link := s.alk.link, resetPending := s.alk.resetPending } } = s

/-- The set holds `c` with its condition flag as given. -/
abbrev State.holdsFault (s : State) (c : FaultCode) (present : Bool) : Prop :=
  (s.prt.faults.any fun e => e.code == c && e.present == present) = true

/-- The commands that R172 refuses between an accepted STATION_RESET and its reset: all but the reads, EVENT_READ and
PROFILE_GET. -/
def commandActs (c : Instr) : Bool :=
  match c with
  | .configPut _ _ | .configCommit | .profileSeek _ _ | .profilePut _ | .start | .abort | .clear | .peerForget _
  | .stationReset => true
  | _ => false

/-! ## The index that a rule of R29 blames -/

/-- Segment `i` is examined: it stands before the first END record (R29). -/
abbrev State.examined (s : State) (i : Nat) : Prop :=
  i < 16 ∧ ∀ j ≤ i, (s.segmentAt j).kind ≠ .endRec

/-- Some rule of R29's table, each on a line of its own in the table's order, blames index `n`. -/
abbrev State.blames (s : State) (n : Nat) : Prop :=
  (n = 0 ∧ (s.segmentAt 0).kind ≠ .ramp) ∨
  (s.examined n ∧ (s.segmentAt n).kind = .code3) ∨
  (s.examined n ∧ (s.segmentAt n).kind = .ramp ∧ (s.segmentAt n).rate < 10) ∨
  (s.examined n ∧ s.cfg .tmax < (s.segmentAt n).target) ∨
  (s.examined n ∧ 0 < n ∧ (s.segmentAt n).kind = .hold ∧ (s.segmentAt n).target ≠ (s.segmentAt (n - 1)).target) ∨
  (s.examined n ∧ (s.segmentAt n).burn = true ∧ ∃ i < n, (s.segmentAt i).burn = false ∧ ∃ j < i, (s.segmentAt j).burn = true) ∨
  (s.examined (n + 1) ∧ (s.segmentAt (n + 1)).burn = true ∧ (∀ j ≤ n, (s.segmentAt j).burn = false) ∧
    s.cfg .tb < (s.segmentAt n).target) ∨
  (n = 0 ∧ s.examined 0 ∧ (s.segmentAt 0).burn = true ∧ (s.cfg .tb : Int) < s.tms.a.filtered) ∨
  (n = 16 ∧ ∀ j < 16, (s.segmentAt j).kind ≠ .endRec)

end Sys2Proof.Machine
end

