-- ==== Sys2Proof/Certificates/Slice0/Obligations.lean ====
section
/-! DEFINITION. The statements for the provers: the queue and completion, the laws that every step keeps, the bank frame,
and what each row of the table does. `0x..` in an answer is the result code byte of section 12.3. -/

open Sys2Proof Sys2Proof.Machine

/-! ## The machine -/

/-- The command at the front of the queue is the one that runs; with none waiting the timers move by a millisecond, and where
no timer falls due that is all (the idle step is the model's choice, logs 2 and 43). -/
def Obligations.StepTakesTheFront : Prop :=
  (∀ (c : Instr) (rest : List Instr) (s : State), step (s.setPending (c :: rest)) = exec c (s.setPending rest)) ∧
    ∀ s : State, s.pending = [] → (advanceMs s).dueRows = [] → step s = .next (advanceMs s)

/-- No command and no event stops the part, and none touches what waits: the model's reading, since the spec describes no stop
(log 35) and what waits is the model's queue (log 36). -/
def Obligations.EveryCommandCompletes : Prop :=
  ∀ (c : Instr) (s : State), ∃ t, exec c s = .next t ∧ t.pending = s.pending

/-- The reset state meets every law below (R1, R90, R96, R137, R157, R180). -/
def Obligations.ResetMeetsEveryLaw : Prop :=
  State.reset.listSafe ∧ State.reset.heatSafe ∧ State.reset.faultSafe ∧ State.reset.windowSafe ∧
    State.reset.fanSafe ∧ State.reset.slotSafe ∧ State.reset.shareSafe ∧ State.reset.peerSafe

/-! ## Laws that every step keeps -/

/-- The event list and the notice lines (R177 to R179). -/
def Obligations.ListLawKept : Prop :=
  ∀ s t : State, s.listSafe → step s = .next t → t.listSafe

/-- MAIN and the element outputs are on only in HEATING, LOCKED, with no trip-class entry; while the start-up flag is set the
lock state is LOCKED and no travel runs (R44, R96). -/
def Obligations.HeatLawKept : Prop :=
  ∀ s t : State, s.heatSafe → step s = .next t →
    t.heatSafe ∧ (t.drv.main = true ∨ t.drv.outputs.any = true →
      t.cyc.phase = .heating ∧ t.lck.state = .locked ∧ t.hasTrip = false)

/-- One entry a code, and a trip-class entry stands only in TRIPPED or IDLE (R157, R160). -/
def Obligations.FaultLawKept : Prop :=
  ∀ s t : State, s.faultSafe → step s = .next t → t.faultSafe ∧ t.prt.faults.length ≤ 18

/-- The current committed in a window never exceeds 64 × Ho (R92). -/
def Obligations.WindowLawKept : Prop :=
  ∀ s t : State, s.windowSafe → step s = .next t → t.windowSafe

/-- The fan is at the level that the override and the phase call for (R82, R83). -/
def Obligations.FanLawKept : Prop :=
  ∀ s t : State, s.fanSafe → step s = .next t → t.fanSafe

/-- The smoke valve is open exactly while the own slot is HOLD (R149). -/
def Obligations.SlotLawKept : Prop :=
  ∀ s t : State, s.slotSafe → step s = .next t → t.slotSafe

/-- The held current keeps its bounds (R147). -/
def Obligations.ShareLawKept : Prop :=
  ∀ s t : State, s.shareSafe → step s = .next t → t.shareSafe

/-- The peer table never holds more than 15 records, two of one station, or one of the own station (R125). -/
def Obligations.PeerLawKept : Prop :=
  ∀ s t : State, s.peerSafe → step s = .next t → t.peerSafe

/-! ## The bank frame -/

/-- A frame's 64 bits are read back as that frame, every field at every value it can carry (R107, R116, R181). -/
def Obligations.BankFrameRoundTrip : Prop :=
  ∀ f : Frame, f.word ≤ 255 → 1 ≤ f.station → f.station ≤ 31 → f.group ≤ 15 → f.held ≤ 1023 → f.want ≤ 1023 →
    f.claim ≤ 1023 → classify 64 f.bits = .good f

/-- The check register run over the check bits as well ends at 00h (R181). -/
def Obligations.CheckRemainderZero : Prop :=
  ∀ f : Frame, (sentBits f.body ++ sentBits f.check).foldl crcStep 0xFF#8 = 0#8

/-! ## Resets -/

/-- Power-on and RESETN return every block to its reset state at once, field by field; the list holds POWER_UP with the cause,
a transaction under way is cut off, SDO undriven, and only the levels of the pins and the queue stay (R1, R23, R24, R30,
R43, R44, R61, R73, R90, R108, R124, R137, R157, R164, R173, R176, R177, R180; that the pins stay is the model's choice,
logs 6 and 8; what the rules leave open at reset, logs 4, 5 and 7, is not stated). -/
def Obligations.ResetsReturnEveryBlock : Prop :=
  ∀ (s : State) (p : Instr × ResetCause),
    p ∈ [(Instr.powerOnReset, ResetCause.powerOn), (.resetn, .resetn)] → ∃ t, exec p.1 s = .next t ∧
      t.cyc = {
        phase := .idle, abortPending := false, coolingTime := 0, coolSlowRaised := false, secondMs := t.cyc.secondMs
        record := { outcome := .none, firstFault := none, cycleTime := 0, heatingTime := 0, slotWaitTime := 0,
                    peakA := -400, shedCount := 0 } } ∧
      (∀ i : Fin 16, t.prf.table[i] =
        { kind := .endRec, target := 0, burn := false, rate := 0, holdMin := 0, restart := false }) ∧
      t.prf.index = 0 ∧ t.prf.mode = .write ∧ t.prf.wordPhase = 0 ∧ t.prf.staged = [] ∧
      t.ramp = {
        state := .idle, segIndex := 0, sp := 0, segStart := 0, up := true, frac := 0, holdTimer := 0, segTimer := 0,
        dropRun := 0, slotWait := 0, slotFlag := .none, heatTimeoutRaised := false, stepTimer := none } ∧
      t.lck = {
        state := .locked, carried := t.lck.carried, attempts := 0, motor := .off, startUp := true
        door := { raw := s.lck.door.raw, value := none, timer := some 50 }
        latch := { raw := s.lck.latch.raw, value := none, timer := some 50 }
        stage := .none, travelTimer := none, stageTimer := none, testPass := false, lockLostPresent := false,
        doorForcedPresent := false } ∧
      (∀ ch, t.tms.chan ch = {
        raw := 0, cls := .underRange, history := [], filtered := 0, ready := false, failed := false, invalidRun := 0,
        validRun := 0 }) ∧
      t.tms.hotRun = 0 ∧ t.tms.disagreeCount = 0 ∧ t.tms.agreeCount = 0 ∧ t.tms.disagreePresent = false ∧
      t.tms.overtempPresent = false ∧ t.tms.latchHotPresent = false ∧ t.tms.due = .a ∧ t.tms.zoneOverride = false ∧
      t.reg = {
        demand := 0, integral := 0, limited := true, evalTimer := none, fan := 0, ruleLevel := 60, coolTimer := none,
        base := none, rate := none } ∧
      t.drv = {
        state := .suspended, windowRunning := false, position := 0
        window := { ho := 0, ir := 0, ig := 0, n := { e0 := 0, e1 := 0, e2 := 0, e3 := 0 } }
        sampleSum := 0, limited := true
        last := { ho := 0, ir := 0, ig := 0, n := { e0 := 0, e1 := 0, e2 := 0, e3 := 0 } }
        lastExpected := 0, lastMeasured := 0, overRun := 0, stuckRun := 0, lowRun := 0, overPresent := false,
        stuckPresent := false, lowPresent := false, mainsAbsentPresent := false, main := false, permitted := false
        outputs := { e0 := false, e1 := false, e2 := false, e3 := false }
        absence := t.drv.absence, mainsTimer := none } ∧
      t.bli = {
        tx := .off, reasons := 0, backoff := 0, attempt := none, output := .released, frame := .none, releasedRun := 0,
        errors := 0, unreliable := false, lineHeld := false, txStuck := false, numberConflict := false, silent := false,
        heldTimer := 0, silenceTimer := none, periodTimer := none, departureTimer := none, lastKind := none } ∧
      t.ptb = { records := [], overflow := false } ∧
      t.shr = {
        state := .off, listenTimer := none, causes := 0, solo := 0, ho := 0, wo := 0, go := 0, co := 0, claim := .none,
        claimTimer := none, sums := { held := 0, want := 0, claim := 0, holders := 0 }, slot := .none, request := .none,
        settleTimer := none, backoffTimer := none, valve := false } ∧
      t.prt = {
        faults := [], blindRunning := false, blindCount := 0, secondMs := t.prt.secondMs, heatSeen := t.prt.heatSeen } ∧
      (∀ i : Item, t.stored i = i.default) ∧ t.alk.committed = false ∧
      t.alk.events = [{ kind := .powerUp, detail := detail 0 p.2.code, time := 0 }] ∧ t.alk.lost = false ∧
      t.alk.seconds = 0 ∧ t.alk.attn = true ∧ t.alk.alert = false ∧ t.alk.resetPending = none ∧
      (s.alk.link.csnLow = true → t.alk.link.csnLow = true) ∧ t.alk.link.sdoCut = t.alk.link.csnLow ∧ t.alk.link.answer = [] ∧
      (∀ k, t.alk.link.sdo k = none) ∧ t.pending = s.pending

/-- STATION_RESET is accepted in IDLE with the lock UNLOCKED, asks BLI to depart when committed, and is refused otherwise
(R115, R176). -/
def Obligations.StationResetAsked : Prop :=
  ∀ s : State, s.alk.resetPending = none → ∃ t, exec .stationReset s = .next t ∧
    if s.cyc.phase = .idle ∧ s.lck.state = .unlocked then
      t.alk.link.answer = [0x00] ∧ s.sameButLink { t with bli := s.bli } ∧
      if s.alk.committed then
        if s.bli.tx = .off ∨ s.bli.tx = .stopped then
          t.bli = s.bli ∧ t.alk.resetPending = some { csnRisen := false, departure := .notSent }
        else
          t.bli = { s.bli with departureTimer := some 50, reasons := s.bli.reasons ||| FrameKind.depart.bit,
                               tx := if s.bli.tx = .quiet then .waiting else s.bli.tx } ∧
          t.alk.resetPending = some { csnRisen := false, departure := .waiting }
      else t.bli = s.bli ∧ t.alk.resetPending = some { csnRisen := false, departure := .notAsked }
    else t.alk.link.answer = [0x02] ∧ s.sameButLink t

/-- The accepted reset takes place once CSN has risen and the departure is settled, and its cause says whether the departure
was sent; SDO then stays undriven where a transaction is under way; before that nothing happens (R176, R180; that it is a step
of its own is log 29). -/
def Obligations.StationResetCarriedOut : Prop :=
  ∀ (s : State) (r : ResetPending), s.alk.resetPending = some r →
    ∃ t, exec .stationResetDone s = .next t ∧
    if r.csnRisen = true ∧ r.departure ≠ .waiting then
      t.alk.events = [{ kind := .powerUp, detail := detail 0 (if r.departure = .sent then 2 else 3), time := 0 }] ∧
      t.alk.resetPending = none ∧ t.alk.committed = false ∧ t.cyc.phase = .idle ∧ t.lck.startUp = true ∧
      t.ptb.records = [] ∧ t.shr.state = .off ∧ t.bli.tx = .off ∧ t.bli.output = .released ∧ t.prt.faults = [] ∧
      t.drv.state = .suspended ∧ t.ramp.state = .idle ∧ t.reg.fan = 0 ∧ t.tms.due = .a ∧
      (s.alk.link.csnLow = true → t.alk.link.sdoCut = true) ∧ (∀ k, t.alk.link.sdo k = none)
    else t = s

/-! ## Link commands -/

/-- The reads without a parameter answer OK with their bytes, as many as section 12.3 gives, and change nothing (R21, R71,
R156, R169, R172). -/
def Obligations.ReadsAnswer : Prop :=
  ∀ s : State,
    (∃ t, exec .readStatus s = .next t ∧ s.sameButLink t ∧ t.alk.link.answer = 0x00 :: statusBytes s) ∧
    (∃ t, exec .readTemps s = .next t ∧ s.sameButLink t ∧ t.alk.link.answer = 0x00 :: tempBytes s) ∧
    (∃ t, exec .readShare s = .next t ∧ s.sameButLink t ∧ t.alk.link.answer = 0x00 :: shareBytes s) ∧
    (∃ t, exec .readCycle s = .next t ∧ s.sameButLink t ∧ t.alk.link.answer = 0x00 :: cycleBytes s.cyc.record) ∧
    (∃ t, exec .readFaults s = .next t ∧ s.sameButLink t ∧ t.alk.link.answer = 0x00 :: faultBytes s.prt) ∧
    (statusBytes s).length = 46 ∧ (tempBytes s).length = 23 ∧ (shareBytes s).length = 37 ∧
    (cycleBytes s.cyc.record).length = 11 ∧ (s.prt.faults.length ≤ 18 → (faultBytes s.prt).length = 94)

/-- READ_PEER: BAD_PARAMETER above 14, EMPTY past the records, else the record's 24 bytes; CONFIG_GET: the stored value, or
BAD_PARAMETER with 0; neither changes anything (R136, R173). -/
def Obligations.ParameterReadsAnswer : Prop :=
  ∀ (s : State) (i : Byte),
    (∃ t, exec (.readPeer i) s = .next t ∧ s.sameButLink t ∧
      t.alk.link.answer.length = 25 ∧
      if 14 < i.toNat then t.alk.link.answer = 0x0E :: List.replicate 24 0
      else if h : i.toNat < s.ptb.records.length then
        t.alk.link.answer =
          0x00 :: peerBytes s.ptb.records.length s.ptb.overflow s.soloAllowance (s.ptb.records[i.toNat]'h)
      else t.alk.link.answer =
        0x0C :: byteOf s.ptb.records.length :: flagByte s.ptb.overflow :: List.replicate 22 0) ∧
    (∃ t, exec (.configGet i) s = .next t ∧ s.sameButLink t ∧
      if h : i.toNat < 34 then
        t.alk.link.answer = 0x00 :: halfBytes (BitVec.ofNat 16 (s.alk.items[i.toNat]'h))
      else t.alk.link.answer = [0x0E, 0x00, 0x00])

/-- Between an accepted STATION_RESET and its reset, every command that acts is refused with WRONG_PHASE and its result bytes 0,
and nothing but the port's transaction moves (R172, section 12.3). -/
def Obligations.WaitingResetRefuses : Prop :=
  ∀ (c : Instr) (s : State), commandActs c = true → s.alk.resetPending ≠ none → ∃ t, exec c s = .next t ∧ s.sameButLink t ∧
    t.alk.link.answer = 0x02 :: List.replicate (if c = .configCommit ∨ c = .start then 1 else 0) 0

/-- CONFIG_PUT: unknown item, frozen, stored, or the nearer end of the range stored; no other item moves (R173). That the value
of Tu, Tmax and Tb is two's complement and every other item's unsigned is the model's reading (log 41). -/
def Obligations.ConfigPutStores : Prop :=
  ∀ (s : State) (item : Byte) (v : Half), s.alk.resetPending = none → ∃ t, exec (.configPut item v) s = .next t ∧
    s.sameButLink { t with alk := { t.alk with items := s.alk.items } } ∧
    match Item.ofNumber? item.toNat with
    | none => t.alk.link.answer = [0x0E] ∧ t.alk.items = s.alk.items
    | some i =>
      if s.alk.committed then t.alk.link.answer = [0x05] ∧ t.alk.items = s.alk.items
      else
        (∀ j, j ≠ i → t.stored j = s.stored j) ∧
        let n : Int := if i = .tu ∨ i = .tmax ∨ i = .tb then v.toInt else v.toNat
        if n < i.range.1 then t.alk.link.answer = [0x01] ∧ t.stored i = i.range.1
        else if i.range.2 < n then t.alk.link.answer = [0x01] ∧ t.stored i = i.range.2
        else t.alk.link.answer = [0x00] ∧ t.stored i = n

/-- CONFIG_COMMIT is frozen, or names the item of the first check that fails, or freezes the items: S is formed, and a share
unit with no cause listens for 3500 ms at Ho = 0 (R139, R174, R175; that the item byte is 00h on OK is the model's choice,
log 42). -/
def Obligations.ConfigCommitFreezes : Prop :=
  ∀ s : State, s.alk.resetPending = none → ∃ t, exec .configCommit s = .next t ∧ t.alk.items = s.alk.items ∧
    let names (i : Item) : Prop := t.alk.link.answer = [0x06, byteOf i.number] ∧ s.sameButLink t
    let driven (i w : Item) : Nat := if 0 < s.stored i ∧ 0 < s.stored w then s.stored i else 0
    let sum := s.stored .i0 + s.stored .i1 + s.stored .i2 + s.stored .i3
    let full := driven .i0 .w0 + driven .i1 .w1 + driven .i2 .w2 + driven .i3 .w3
    if s.alk.committed then t.alk.link.answer = [0x05, 0x00] ∧ s.sameButLink t
    else if s.stored .station = 0 then names .station
    else if sum < 10 ∨ 1023 < sum then names .i0
    else if full < 10 ∨ 1023 < full then names .w0
    else if s.stored .b < 10 * s.stored .n then names .b
    else if (s.stored .tmax : Int) - 1000 < s.stored .tu then names .tu
    else if s.stored .tmax ≤ s.stored .tb then names .tb
    else
      t.alk.link.answer = [0x00, 0x00] ∧ t.alk.committed = true ∧ t.shr.solo = s.stored .b / s.stored .n ∧
      t.ptb = s.ptb ∧ t.prf = s.prf ∧ (∀ ch, t.tms.chan ch = s.tms.chan ch) ∧ t.cyc.phase ≠ .held ∧
      (s.shr.causes = 0 → t.shr.state = .listening true ∧ t.shr.listenTimer = some 3500 ∧ t.shr.ho = 0)

/-- PROFILE_SEEK sets the pointer and discards the staged words, or is refused and changes nothing (R25). -/
def Obligations.SeekSetsThePointer : Prop :=
  ∀ (s : State) (index mode : Byte), s.alk.resetPending = none → ∃ t, exec (.profileSeek index mode) s = .next t ∧
    s.sameButLink { t with prf := s.prf } ∧
    if index.toNat ≤ 15 ∧ mode.toNat ≤ 1 then
      t.alk.link.answer = [0x00] ∧
      t.prf = { s.prf with
        index := index.toNat, mode := if mode = 0 then .write else .read, wordPhase := 0, staged := [] }
    else t.alk.link.answer = [0x0E] ∧ t.prf = s.prf

/-- PROFILE_PUT's refusals in their order; a refused PUT changes nothing (R26). -/
def Obligations.PutRefusals : Prop :=
  ∀ (s : State) (w : Half), s.alk.resetPending = none →
    s.prf.mode = .read ∨ 16 ≤ s.prf.index ∨ s.cyc.phase ≠ .idle → ∃ t, exec (.profilePut w) s = .next t ∧
      s.sameButLink t ∧
      t.alk.link.answer =
        [if s.prf.mode = .read then 0x03 else if 16 ≤ s.prf.index then 0x0B else 0x02]

/-- Three accepted PUTs clamp their words and then replace one whole record; until the third the table stands (R27). -/
def Obligations.PutsWriteARecord : Prop :=
  ∀ (s : State) (w1 w2 w3 : Half), s.alk.resetPending = none → s.cyc.phase = .idle → s.prf.mode = .write →
    s.prf.wordPhase = 0 → s.prf.index ≤ 15 → ∃ t1 t2 t3,
      exec (.profilePut w1) s = .next t1 ∧ exec (.profilePut w2) t1 = .next t2 ∧
      exec (.profilePut w3) t2 = .next t3 ∧
      t1.alk.link.answer = [if 600 < w1.toNat % 1024 then 0x01 else 0x00] ∧
      t2.alk.link.answer = [if 5000 < w2.toNat then 0x01 else 0x00] ∧
      t3.alk.link.answer = [if w3 ≠ 0 ∧ (w3.toNat < 10 ∨ 1200 < w3.toNat) then 0x01 else 0x00] ∧
      t1.prf.table = s.prf.table ∧ t2.prf.table = s.prf.table ∧ t1.prf.wordPhase = 1 ∧ t2.prf.wordPhase = 2 ∧
      t3.prf = {
        table := s.prf.table.setIfInBounds s.prf.index {
          kind := SegKind.ofCode (w1.toNat / 16384)
          target := min w2.toNat 5000
          burn := w1.getLsbD 13
          rate := if w3 = 0 then 0 else clampNat 10 1200 w3.toNat
          holdMin := min (w1.toNat % 1024) 600
          restart := w1.getLsbD 12 }
        index := s.prf.index + 1, mode := .write, wordPhase := 0, staged := [] } ∧
      s.sameButLink { t3 with prf := s.prf }

/-- PROFILE_GET returns the word that the word phase selects and steps on, or is refused and changes nothing (R28; that
WRITE mode is tested before index 16 is the model's choice, log 16). -/
def Obligations.GetReturnsAWord : Prop :=
  ∀ s : State, ∃ t, exec .profileGet s = .next t ∧ s.sameButLink { t with prf := s.prf } ∧
    if s.prf.mode = .write then t.alk.link.answer = [0x03, 0x00, 0x00] ∧ t.prf = s.prf
    else if h : s.prf.index < 16 then
      t.alk.link.answer = 0x00 :: halfBytes ((s.prf.table[s.prf.index]'h).word s.prf.wordPhase) ∧
      t.prf.table = s.prf.table ∧ t.prf.mode = .read ∧
      if s.prf.wordPhase < 2 then t.prf.wordPhase = s.prf.wordPhase + 1 ∧ t.prf.index = s.prf.index
      else t.prf.wordPhase = 0 ∧ t.prf.index = s.prf.index + 1
    else t.alk.link.answer = [0x0B, 0x00, 0x00] ∧ t.prf = s.prf

/-- START's six conditions in their order: the first that fails gives the refusal, PROFILE_INVALID with the smallest index that
a rule of R29 blames, and every block stays as it was (R4, R29). -/
def Obligations.StartRefusals : Prop :=
  ∀ s : State, s.alk.resetPending = none → ∃ t, exec .start s = .next t ∧
    let refused (code n : Nat) : Prop := t.alk.link.answer = [byteOf code, byteOf n] ∧ s.sameButLink t
    if s.alk.committed = false then refused 0x04 0
    else if s.cyc.phase ≠ .idle then refused 0x02 0
    else if s.lck.door.value ≠ some true ∨ s.lck.state ≠ .unlocked then refused 0x08 0
    else if ¬((s.tms.a.standing = .valid ∧ s.tms.a.cls = .valid) ∧ (s.tms.b.standing = .valid ∧ s.tms.b.cls = .valid) ∧
      (s.tms.l.standing = .valid ∧ s.tms.l.cls = .valid)) then refused 0x09 0
    else if s.hasTrip then refused 0x0A 0
    else ∀ n ≤ 16, s.blames n → (∀ m < n, ¬ s.blames m) → refused 0x07 n

/-- START accepted, with all six conditions met, clears the record, enters LOCKING and begins the lock drive (R4, R5, R29, R48,
R49; that the index byte is 00h on OK is the model's choice, log 42). -/
def Obligations.StartLocks : Prop :=
  ∀ s : State, s.alk.resetPending = none → s.alk.committed = true → s.cyc.phase = .idle → s.lck.door.value = some true →
    s.lck.state = .unlocked → s.lck.startUp = false →
    (∀ ch, (s.tms.chan ch).standing = .valid ∧ (s.tms.chan ch).cls = .valid) → s.hasTrip = false →
    (∀ n ≤ 16, ¬ s.blames n) →
    ∃ t, exec .start s = .next t ∧ t.alk.link.answer = [0x00, 0x00] ∧ t.cyc.phase = .locking ∧
      t.cyc.abortPending = false ∧ t.cyc.coolingTime = 0 ∧ t.cyc.coolSlowRaised = false ∧
      t.cyc.record = { outcome := .none, firstFault := none, cycleTime := 0, heatingTime := 0, slotWaitTime := 0,
                       peakA := s.tms.a.filtered, shedCount := 0 } ∧
      t.lck.state = .locking ∧ t.lck.attempts = 1 ∧ t.lck.motor = .lock ∧
      (if s.latchEngaged then t.lck.stage = .seat ∧ t.lck.stageTimer = some 200
       else t.lck.stage = .lockDrive ∧ t.lck.travelTimer = some (s.cfg .lt * 100)) ∧
      t.ramp = s.ramp ∧ t.prf = s.prf ∧ t.tms = s.tms ∧ t.bli = s.bli ∧ t.ptb = s.ptb ∧ t.shr = s.shr ∧
      t.reg.demand = s.reg.demand ∧ t.alk.items = s.alk.items ∧ t.alk.committed = s.alk.committed

/-- ABORT sets abort pending in LOCKING, ends HEATING into COOLING with the leaving actions, and is refused elsewhere (R8,
R10). -/
def Obligations.AbortEndsHeating : Prop :=
  ∀ s : State, s.alk.resetPending = none → ∃ t, exec .abort s = .next t ∧
    match s.cyc.phase with
    | .locking =>
      t.alk.link.answer = [0x00] ∧ t.cyc = { s.cyc with abortPending := true } ∧ s.sameButLink { t with cyc := s.cyc }
    | .heating =>
      t.alk.link.answer = [0x00] ∧ t.cyc.phase = .cooling ∧ t.cyc.record.outcome = .aborted ∧
      t.drv.permitted = false ∧ t.drv.main = false ∧ (s.drv.main = true → t.drv.outputs.any = false) ∧
      t.ramp.state = .idle ∧ t.ramp.sp = s.ramp.sp ∧ t.ramp.segIndex = s.ramp.segIndex ∧
      t.ramp.holdTimer = s.ramp.holdTimer ∧ t.ramp.segTimer = s.ramp.segTimer ∧
      t.shr.slot = .none ∧ t.shr.request = .none ∧ t.shr.wo = 0 ∧ t.reg.demand = 0 ∧ t.reg.integral = 0 ∧
      t.reg.evalTimer = none ∧ t.prf = s.prf ∧ t.lck = s.lck ∧ t.tms = s.tms ∧ t.ptb = s.ptb
    | _ => t.alk.link.answer = [0x02] ∧ s.sameButLink t

/-- CLEAR in TRIPPED: refused while a travel runs or a trip-class condition is present; else every entry whose flag is gone
goes, and the cycle moves on by the latch and the unlock test, its outcome kept (R16, R166). -/
def Obligations.ClearInTripped : Prop :=
  ∀ s : State, s.alk.resetPending = none → s.cyc.phase = .tripped → ∃ t, exec .clear s = .next t ∧
    if s.travelling then t.alk.link.answer = [0x02] ∧ s.sameButLink t
    else if s.hasTripPresent then t.alk.link.answer = [0x0A] ∧ s.sameButLink t
    else
      t.alk.link.answer = [0x00] ∧
      t.prt.faults.map FaultEntry.code = (s.prt.faults.filter FaultEntry.present).map FaultEntry.code ∧
      t.cyc.record.outcome = s.cyc.record.outcome ∧ t.ramp = s.ramp ∧ t.prf = s.prf ∧ t.tms = s.tms ∧ t.bli = s.bli ∧
      t.ptb = s.ptb ∧ t.shr = s.shr ∧
      if s.latchEngaged then
        if s.takesUnlock then t.cyc.phase = .unlocking ∧ t.lck.state = .unlocking ∧ t.lck.attempts = 1
        else t.cyc.phase = .cooling ∧ t.lck = s.lck
      else t.cyc.phase = .idle ∧ t.lck = s.lck

/-- CLEAR elsewhere leaves the cycle as it is, removes the gone entries of the classes listed for the phase, and answers
FAULT_ACTIVE while one of those classes is still present (R17, R167). -/
def Obligations.ClearElsewhere : Prop :=
  ∀ s : State, s.alk.resetPending = none → s.cyc.phase ≠ .tripped → s.heatSafe → ∃ t, exec .clear s = .next t ∧
    t.cyc = s.cyc ∧ t.lck = s.lck ∧ t.ramp = s.ramp ∧ t.shr = s.shr ∧ t.bli = s.bli ∧ t.ptb = s.ptb ∧
    t.prt.faults = s.prt.faults.filter
      (fun e => e.present || (s.cyc.phase != .idle && e.code.cls != .degrade)) ∧
    t.alk.link.answer =
      [if s.prt.faults.any (fun e => e.present && (s.cyc.phase == .idle || e.code.cls == .degrade)) then 0x0A else 0x00]

/-- EVENT_READ removes the oldest record and returns it with what is left; the lost flag ends with the last record (R178). -/
def Obligations.EventReadRemoves : Prop :=
  ∀ s : State, ∃ t, exec .eventRead s = .next t ∧
    match s.alk.events with
    | [] => t.alk.link.answer = 0x0C :: List.replicate 8 0 ∧ s.sameButLink t
    | e :: rest =>
      t.alk.events = rest ∧ t.alk.lost = (s.alk.lost && rest != []) ∧ t.alk.attn = t.attnDue ∧
      t.alk.alert = t.alertDue ∧
      t.alk.link.answer = 0x00 :: byteOf e.kind.cls.code :: byteOf e.kind.code :: (halfBytes e.detail
        ++ natBytes e.time ++ [byteOf rest.length, flagByte (s.alk.lost && rest != [])]) ∧
      s.sameButLink { t with alk := { t.alk with
        events := s.alk.events, lost := s.alk.lost, attn := s.alk.attn, alert := s.alk.alert } }

/-- PEER_FORGET's tests in their order; a LAPSED record is removed and OVERFLOW ends (R130, R132). -/
def Obligations.PeerForgetRemoves : Prop :=
  ∀ (s : State) (n : Byte), s.alk.resetPending = none → ∃ t, exec (.peerForget n) s = .next t ∧
    if n.toNat < 1 ∨ 31 < n.toNat then t.alk.link.answer = [0x0E] ∧ s.sameButLink t
    else
      match s.ptb.records.find? (fun p => p.station == n.toNat) with
      | none => t.alk.link.answer = [0x0C] ∧ s.sameButLink t
      | some p =>
        if p.state = .live then t.alk.link.answer = [0x0E] ∧ s.sameButLink t
        else
          t.alk.link.answer = [0x00] ∧ t.ptb.overflow = false ∧
          t.ptb.records = s.ptb.records.filter (fun q => q.station != n.toNat) ∧
          t.shr.sums = tableSums s.soloAllowance t.ptb.records ∧ t.prf = s.prf ∧ t.ramp = s.ramp ∧ t.lck = s.lck ∧
          t.tms = s.tms ∧ t.reg = s.reg ∧ t.drv = s.drv ∧ t.prt = s.prt

/-- A transaction's bytes: those of a whole command give its effect, CSN low, 00h on SDO through the code, the parameters and
the turnaround, then its result, then 00h; an unknown code answers BAD_COMMAND with no bytes; a rise of CSN ends the
transaction, drops what was received and is seen by a waiting reset (R170, R171, R176; the answer while a reset waits is
log 23, that CSN has fallen for each command log 15). -/
def Obligations.UnknownCodesAndCsn : Prop :=
  ∀ s : State,
    (∀ code params c, commandOf (code :: params) = some c → ∃ t, exec c s = .next t ∧ t.alk.link.csnLow = true ∧
      t.alk.link.answer ≠ [] ∧
      ∀ k, t.alk.link.sdo k = some
        (if k < (paramCount code.toNat).getD 0 + 2 then 0
         else t.alk.link.answer.getD (k - ((paramCount code.toNat).getD 0 + 2)) 0)) ∧
    (∀ code, ∃ t, exec (.badCommand code) s = .next t ∧ s.sameButLink t ∧ t.alk.link.answer = [0x0D]) ∧
    (∀ received, ∃ t, exec (.csnRise received) s = .next t ∧ s.sameButLink t ∧ t.alk.link.csnLow = false ∧
      t.alk.link.answer = [] ∧ (∀ k, t.alk.link.sdo k = none) ∧
      t.alk.resetPending = s.alk.resetPending.map fun r => { r with csnRisen := true })

/-! ## Counts of a second -/

/-- The seconds count wraps at 65536; CYC's counts advance in their intervals and stop at their limits; COOL_SLOW is raised
once, when the cooling-time count reaches 14400 (R14, R21, R177). -/
def Obligations.SecondsAreCounted : Prop :=
  ∀ s : State,
    (∃ t, exec .secondsTick s = .next t ∧ t.alk.seconds = (s.alk.seconds + 1) % 65536 ∧
      { t with alk := { t.alk with seconds := s.alk.seconds, secondMs := s.alk.secondMs } } = s) ∧
    (∃ t, exec .cycleSecond s = .next t ∧ t.cyc.phase = s.cyc.phase ∧
      t.cyc.record.cycleTime = (if s.cyc.phase = .idle ∨ s.cyc.phase = .held then s.cyc.record.cycleTime
        else if s.cyc.record.cycleTime < 65535 then s.cyc.record.cycleTime + 1 else 65535) ∧
      t.cyc.record.heatingTime = (if s.cyc.phase ≠ .heating then s.cyc.record.heatingTime
        else if s.cyc.record.heatingTime < 65535 then s.cyc.record.heatingTime + 1 else 65535) ∧
      t.cyc.record.slotWaitTime = (if s.reportedPhase ≠ .waitingSlot then s.cyc.record.slotWaitTime
        else if s.cyc.record.slotWaitTime < 65535 then s.cyc.record.slotWaitTime + 1 else 65535) ∧
      t.cyc.coolingTime = (if s.cyc.phase = .cooling then s.cyc.coolingTime + 1 else s.cyc.coolingTime) ∧
      { t with cyc := s.cyc, alk := s.alk } = s ∧ t.alk.items = s.alk.items) ∧
    (s.cyc.phase = .cooling → s.cyc.coolingTime = 14399 → s.cyc.coolSlowRaised = false →
      s.routing .cycle ≠ 0 → s.alk.events.length < 32 → ∃ t, exec .coolSlow s = .next t ∧
        t.cyc.coolSlowRaised = true ∧ t.cyc.coolingTime = 14400 ∧ t.cyc.phase = .cooling ∧
        { t with cyc := s.cyc, alk := s.alk } = s ∧
        t.alk.events = s.alk.events ++ [{ kind := .coolSlow, detail := 0, time := s.alk.seconds }])

/-! ## The ramp engine -/

/-- A RAMPING step short of its limit: the lag test stalls SP, else SP moves `d` whole tenths, never past the target; on the
target with A within the approach band, in a stalled step too, the next segment begins with its timers at 0, or asks for the
slot and waits where it is the first burn-flagged one; a HOLDING step counts the `n` seconds in the band and the drop run; a WAITING_SLOT step counts
the wait; the segment timer counts unless the last window was limited (R32 to R40, R150). -/
def Obligations.RampStepMoves : Prop :=
  ∀ (s : State) (target : Int) (d n segTime : Nat) (stalled : Bool), target = s.segment.target →
    d = (s.ramp.frac + s.segment.rate) / 60 →
    stalled = (s.ramp.up && decide ((s.cfg .lg : Int) < s.ramp.sp - s.tms.a.filtered)) →
    segTime = (if s.drv.limited then s.ramp.segTimer else satSucc 65535 s.ramp.segTimer) →
    n = (if (s.tms.a.filtered - target).natAbs ≤ s.cfg .hb then satSucc 65535 s.ramp.holdTimer else s.ramp.holdTimer) →
    (s.ramp.state = .ramping →
      s.ramp.segTimer < rampLimit target s.ramp.segStart s.segment.rate ∨ s.ramp.heatTimeoutRaised = true →
    (stalled = true → (s.ramp.sp = target → s.tms.a.filtered < target - s.cfg .ab) →
      ∃ t, exec .rampStep s = .next t ∧ { t with ramp := s.ramp } = s ∧ t.ramp = { s.ramp with
        segTimer := segTime, stepTimer := some 1000 }) ∧
    (stalled = false → d < (target - s.ramp.sp).natAbs →
      ∃ t, exec .rampStep s = .next t ∧ { t with ramp := s.ramp } = s ∧ t.ramp = { s.ramp with
        sp := if s.ramp.sp ≤ target then s.ramp.sp + d else s.ramp.sp - d
        frac := (s.ramp.frac + s.segment.rate) % 60
        segTimer := segTime, stepTimer := some 1000 }) ∧
    (stalled = false → (target - s.ramp.sp).natAbs ≤ d →
      (if s.ramp.up then s.tms.a.filtered < target - s.cfg .ab else target + s.cfg .ab < s.tms.a.filtered) →
      ∃ t, exec .rampStep s = .next t ∧ { t with ramp := s.ramp } = s ∧ t.ramp = { s.ramp with
        sp := target
        frac := (s.ramp.frac + s.segment.rate) % 60
        segTimer := segTime, stepTimer := some 1000 }) ∧
    ((if stalled then s.ramp.sp = target else (target - s.ramp.sp).natAbs ≤ d) →
      (if s.ramp.up then target - s.cfg .ab ≤ s.tms.a.filtered else s.tms.a.filtered ≤ target + s.cfg .ab) →
      s.cyc.phase = .heating → s.ramp.slotFlag = .none → (s.segmentAt (s.ramp.segIndex + 1)).burn = false →
      (s.segmentAt (s.ramp.segIndex + 1)).kind = .ramp ∨ (s.segmentAt (s.ramp.segIndex + 1)).kind = .hold →
      ∃ t, exec .rampStep s = .next t ∧ t.ramp = { s.ramp with
          state := if (s.segmentAt (s.ramp.segIndex + 1)).kind = .ramp then .ramping else .holding
          segIndex := s.ramp.segIndex + 1, sp := target, segStart := target
          up := if (s.segmentAt (s.ramp.segIndex + 1)).kind = .ramp then
            decide (target ≤ ((s.segmentAt (s.ramp.segIndex + 1)).target : Int)) else s.ramp.up
          frac := 0, holdTimer := 0, segTimer := 0, dropRun := 0, heatTimeoutRaised := false, stepTimer := some 1000 } ∧
        t.cyc = s.cyc ∧ t.prf = s.prf ∧ t.lck = s.lck ∧ t.tms = s.tms ∧ t.reg = s.reg ∧ t.drv = s.drv ∧ t.bli = s.bli ∧
        t.shr = s.shr) ∧
    ((if stalled then s.ramp.sp = target else (target - s.ramp.sp).natAbs ≤ d) →
      (if s.ramp.up then target - s.cfg .ab ≤ s.tms.a.filtered else s.tms.a.filtered ≤ target + s.cfg .ab) →
      s.cyc.phase = .heating → s.ramp.slotFlag = .none → (s.segmentAt (s.ramp.segIndex + 1)).burn = true →
      (s.segmentAt (s.ramp.segIndex + 1)).kind = .ramp ∨ (s.segmentAt (s.ramp.segIndex + 1)).kind = .hold →
      s.shr.state = .sharing → s.shr.request = .none → s.shr.slot = .none →
      ∃ t, exec .rampStep s = .next t ∧ t.ramp = { s.ramp with
          state := .waitingSlot, segIndex := s.ramp.segIndex + 1, sp := target, frac := 0, segTimer := segTime
          slotWait := 0, slotFlag := .requested, stepTimer := some 1000 } ∧
        (if s.shr.sums.holders < s.cfg .k then t.shr.request = .claiming ∧ t.shr.slot = .claim
         else t.shr.request = .backingOff ∧ t.shr.slot = .none) ∧ t.shr.ho = s.shr.ho ∧
        t.cyc = s.cyc ∧ t.prf = s.prf ∧ t.lck = s.lck ∧ t.tms = s.tms ∧ t.reg = s.reg ∧ t.drv = s.drv ∧ t.ptb = s.ptb)) ∧
    (s.ramp.state = .holding → n < s.segment.holdMin * 60 →
      ¬(s.segment.restart = true ∧ s.tms.a.filtered < target - s.cfg .hb ∧ 59 ≤ s.ramp.dropRun) →
      ∃ t, exec .rampStep s = .next t ∧ { t with ramp := s.ramp } = s ∧ t.ramp = { s.ramp with
        holdTimer := n, segTimer := segTime, stepTimer := some 1000
        dropRun := if s.segment.restart = true ∧ s.tms.a.filtered < target - s.cfg .hb then s.ramp.dropRun + 1 else 0 }) ∧
    (s.ramp.state = .waitingSlot → s.ramp.slotWait + 1 ≠ s.cfg .ws * 60 →
      ∃ t, exec .rampStep s = .next t ∧ { t with ramp := s.ramp } = s ∧
        t.ramp = { s.ramp with slotWait := s.ramp.slotWait + 1, stepTimer := some 1000 })

/-- The step in which the hold timer, counted on to `n` within the band, reaches the hold minutes × 60 with no restart completes
the last HOLD, and END ends the cleaning: COOLING with outcome COMPLETED, the engine IDLE (R9, R37, R38, R42). -/
def Obligations.HoldCompletes : Prop :=
  ∀ (s : State) (n : Nat), s.cyc.phase = .heating → s.ramp.state = .holding →
    n = (if (s.tms.a.filtered - s.segment.target).natAbs ≤ s.cfg .hb then satSucc 65535 s.ramp.holdTimer
         else s.ramp.holdTimer) →
    s.segment.holdMin * 60 ≤ n →
    ¬(s.segment.restart = true ∧ s.tms.a.filtered < (s.segment.target : Int) - s.cfg .hb ∧ 59 ≤ s.ramp.dropRun) →
    (s.segmentAt (s.ramp.segIndex + 1)).kind = .endRec →
    ∃ t, exec .holdComplete s = .next t ∧ exec .rampStep s = .next t ∧ t.cyc.phase = .cooling ∧
      t.cyc.record.outcome = .completed ∧ t.ramp.state = .idle ∧ t.ramp.segIndex = s.ramp.segIndex + 1 ∧
      t.ramp.sp = s.ramp.sp ∧ t.ramp.holdTimer = n ∧ t.drv.permitted = false ∧
      t.drv.main = false ∧ t.shr.slot = .none ∧ t.reg.demand = 0 ∧ t.shr.wo = 0 ∧ t.prf = s.prf ∧ t.lck = s.lck ∧
      t.tms = s.tms ∧ t.ptb = s.ptb

/-- The step in which the drop run reaches 60 starts the hold again and does not complete it (R38). -/
def Obligations.HoldRestarts : Prop :=
  ∀ s : State, s.ramp.state = .holding → s.segment.restart = true → s.ramp.dropRun = 59 →
    s.tms.a.filtered < (s.segment.target : Int) - s.cfg .hb → s.routing .cycle ≠ 0 → s.alk.events.length < 32 →
    ∃ t, exec .segmentRestart s = .next t ∧ t.ramp.holdTimer = 0 ∧ t.ramp.dropRun = 0 ∧ t.ramp.state = .holding ∧
      t.ramp.segIndex = s.ramp.segIndex ∧ t.ramp.sp = s.ramp.sp ∧ { t with ramp := s.ramp, alk := s.alk } = s ∧
      t.alk.events = s.alk.events ++
        [{ kind := .segmentRestart, detail := detail 0 s.ramp.segIndex, time := s.alk.seconds }]

/-- HEAT_TIMEOUT, in a step that moves SP to `sp`, does not complete and leaves the segment timer past the limit, and
SLOT_TIMEOUT abort the heating: COOLING, FAULT_ABORTED, the entry standing with its condition gone (R11, R36, R40, R42). -/
def Obligations.TimeoutsAbortHeating : Prop :=
  ∀ (s : State) (target sp : Int) (d : Nat), s.cyc.phase = .heating → target = s.segment.target →
    d = (s.ramp.frac + s.segment.rate) / 60 →
    sp = (if s.ramp.up = true ∧ (s.cfg .lg : Int) < s.ramp.sp - s.tms.a.filtered then s.ramp.sp
      else if s.ramp.sp ≤ target then min target (s.ramp.sp + d) else max target (s.ramp.sp - d)) →
    (s.ramp.state = .ramping → ¬(sp = target ∧
      (if s.ramp.up then target - s.cfg .ab ≤ s.tms.a.filtered else s.tms.a.filtered ≤ target + s.cfg .ab)) →
      rampLimit target s.ramp.segStart s.segment.rate <
        (if s.drv.limited then s.ramp.segTimer else satSucc 65535 s.ramp.segTimer) →
      s.ramp.heatTimeoutRaised = false → ¬ s.holdsFault .heatTimeout true → ∃ t, exec .heatTimeout s = .next t ∧
      t.cyc.phase = .cooling ∧ t.cyc.record.outcome = .faultAborted ∧
      t.cyc.record.firstFault = some (s.cyc.record.firstFault.getD .heatTimeout) ∧ t.holdsFault .heatTimeout false ∧
      t.ramp.state = .idle ∧ t.ramp.sp = sp ∧ t.drv.main = false ∧ t.reg.demand = 0 ∧ t.shr.slot = .none ∧
      t.prf = s.prf ∧ t.lck = s.lck ∧ t.tms = s.tms ∧ t.ptb = s.ptb) ∧
    (s.ramp.state = .waitingSlot → s.ramp.slotWait + 1 = s.cfg .ws * 60 → ¬ s.holdsFault .slotTimeout true →
      ∃ t, exec .slotTimeout s = .next t ∧ t.cyc.phase = .cooling ∧ t.cyc.record.outcome = .faultAborted ∧
      t.cyc.record.firstFault = some (s.cyc.record.firstFault.getD .slotTimeout) ∧ t.holdsFault .slotTimeout false ∧
      t.ramp.state = .idle ∧ t.ramp.slotWait = s.cfg .ws * 60 ∧ t.drv.main = false ∧ t.shr.request = .none ∧
      t.prf = s.prf ∧ t.lck = s.lck ∧ t.tms = s.tms ∧ t.ptb = s.ptb)

/-! ## The regulator -/

/-- An evaluation in HEATING computes D and I and hands Wo on (R75 to R80). -/
def Obligations.EvaluationSetsDemand : Prop :=
  ∀ (s : State) (e p di : Int) (i : Nat), s.cyc.phase = .heating →
    e = max (-2000) (min 2000 (s.ramp.sp - s.tms.a.filtered)) → p = ((s.cfg .kp : Int) * e).tdiv 16 →
    di = ((s.cfg .ki : Int) * e).tdiv 64 →
    (i : Int) = (if s.reg.limited = true ∧ 0 < e then (s.reg.integral : Int)
      else max 0 (min 1000 (s.reg.integral + di))) →
    ∃ t, exec .heatingEvaluation s = .next t ∧
      (if s.ramp.sp + 150 < s.tms.a.filtered then t.reg.integral = 0 ∧ t.reg.demand = 0
       else t.reg.integral = i ∧ (t.reg.demand : Int) = max 0 (min 1000 (p + i))) ∧
      t.reg.demand ≤ 1000 ∧ t.shr.wo = (t.reg.demand * fullCurrent s.ratings s.weights + 999) / 1000 ∧
      t.cyc.phase = .heating ∧ t.ramp = s.ramp ∧ t.tms = s.tms ∧ t.drv = s.drv ∧ t.lck = s.lck ∧ t.prt = s.prt ∧
      t.reg.fan = s.reg.fan ∧ t.reg.limited = s.reg.limited ∧ t.prf = s.prf ∧ t.ptb = s.ptb

/-- An expiry of the cooling rule measures the fall over 30 s, moves the level by 10 within 20 to 100 outside the band, and
the fan follows (R86 to R88). -/
def Obligations.CoolingRuleMeasures : Prop :=
  ∀ s : State, s.reg.coolTimer.isSome →
    ∃ t, exec .coolingRuleExpiry s = .next t ∧ t.reg.coolTimer = some 30000 ∧ t.reg.base = s.coolingSample ∧
      t.reg.fan = t.fanLevel ∧
      { t with reg := s.reg } = s ∧
      match s.reg.base, s.coolingSample with
      | _, none => t.reg.ruleLevel = 100 ∧ t.reg.rate = none
      | none, some _ => t.reg.ruleLevel = s.reg.ruleLevel ∧ t.reg.rate = none
      | some a, some b =>
        if a.1 ≠ b.1 then t.reg.ruleLevel = s.reg.ruleLevel ∧ t.reg.rate = none
        else t.reg.rate = some ((a.2 - b.2) * 2) ∧
          t.reg.ruleLevel =
            if (a.2 - b.2) * 2 < (s.cfg .rc : Int) - 5 then max 20 (min 100 (s.reg.ruleLevel + 10))
            else if (s.cfg .rc : Int) + 5 < (a.2 - b.2) * 2 then max 20 (min 100 (s.reg.ruleLevel - 10))
            else s.reg.ruleLevel

/-! ## The lock controller -/

/-- A raw change restarts the 50 ms and leaves the debounced value; the other switch is not touched (R43). -/
def Obligations.SwitchEdgeRestarts : Prop :=
  ∀ (s : State) (sw : SwitchId) (level : Bool), ∃ t, exec (.switchEdge sw level) s = .next t ∧
    { t with lck := s.lck } = s ∧ (∀ other, other ≠ sw → t.lck.switch other = s.lck.switch other) ∧
    t.lck.state = s.lck.state ∧ t.lck.motor = s.lck.motor ∧ t.lck.stage = s.lck.stage ∧
    if (s.lck.switch sw).raw = level then t = s
    else t.lck.switch sw = { raw := level, value := (s.lck.switch sw).value, timer := some 50 }

/-- What a new debounced value brings about: the first latch value ends start-up in LOCKED and HELD, TRIPPED where a trip-class
entry stands, or UNLOCKED and IDLE; an engagement in a lock drive begins the seat; a freeing of a held door is LOCK_LOST; a
door opened on an engaged latch is DOOR_FORCED; a door opened in JAMMED carrying free ends the jam; a door opened in LOCKING
ends the travel by a door return, in JAMMED or in UNLOCKED (R2, R44, R49, R51, R52, R56, R57, R58; that a first value after a
commit enters HELD is the model's choice, log 38, that a door found open at the end of start-up raises nothing its reading of R57,
log 19, that in UNLOCKING DOOR_FORCED goes by what the latch shows as the door opens its choice, log 44, and that the row is
taken whatever the raw level, log 12). -/
def Obligations.DebouncedValuesAct : Prop :=
  ∀ s : State,
    (∀ engaged, s.lck.startUp = true → s.lck.latch.value = none → s.cyc.phase = .idle →
      ∃ t, exec (.switchDebounced .latch engaged) s = .next t ∧ t.lck.startUp = false ∧
      t.lck.latch = { raw := engaged, value := some engaged, timer := none } ∧ t.lck.door = s.lck.door ∧
      t.ramp = s.ramp ∧ t.shr = s.shr ∧ t.bli = s.bli ∧ t.tms = s.tms ∧ t.prf = s.prf ∧ t.ptb = s.ptb ∧
      if engaged = false then t.cyc = s.cyc ∧ t.lck.state = .unlocked
      else
        match s.oldestTrip with
        | none => t.cyc.phase = .held ∧ t.lck.state = .locked ∧ t.cyc.record = s.cyc.record
        | some c => t.cyc.phase = .tripped ∧ t.cyc.record.outcome = .tripped ∧ t.cyc.record.firstFault = some c) ∧
    (s.lck.startUp = false → s.lck.state = .locking → s.lck.stage = .lockDrive → s.latchEngaged = false →
      ∃ t, exec (.switchDebounced .latch true) s = .next t ∧ t.lck.stage = .seat ∧ t.lck.motor = .lock ∧
      t.lck.travelTimer = none ∧ t.lck.stageTimer = some 200 ∧ t.lck.state = .locking ∧ t.latchEngaged = true ∧
      t.cyc = s.cyc ∧ t.drv = s.drv ∧ t.ramp = s.ramp ∧ t.tms = s.tms ∧ t.bli = s.bli ∧ t.shr = s.shr) ∧
    (s.lck.startUp = false → s.latchEngaged = true → s.lck.state = .locked ∨ (s.lck.state = .jammed ∧ s.lck.carried = true) →
      s.lck.stage = .none → s.lck.testPass = false → ¬ s.holdsFault .lockLost true →
      ∃ t, exec (.switchDebounced .latch false) s = .next t ∧ t.latchEngaged = false ∧ t.lck.lockLostPresent = true ∧
      t.holdsFault .lockLost true ∧ t.lck.doorForcedPresent = false ∧
      t.lck.state = (if s.doorOpen then .unlocked else .jammed) ∧ t.lck.carried = false ∧ t.drv.main = false ∧
      t.cyc.phase = (if s.cyc.phase = .idle then .idle else .tripped) ∧ t.prf = s.prf ∧ t.tms = s.tms ∧ t.ptb = s.ptb) ∧
    (s.lck.startUp = false → s.latchEngaged = true → s.doorOpen = false →
      s.lck.state = .locked ∨ (s.lck.state = .jammed ∧ s.lck.carried = true) ∨ s.lck.state = .unlocking →
      ¬ s.holdsFault .doorForced true → ∃ t, exec (.switchDebounced .door false) s = .next t ∧ t.doorOpen = true ∧
      t.lck.doorForcedPresent = true ∧ t.holdsFault .doorForced true ∧
      t.lck.state = (if s.lck.state = .unlocking then .unlocking else .jammed) ∧
      (s.lck.state = .locked → t.lck.carried = true) ∧ t.lck.stage = s.lck.stage ∧ t.lck.motor = s.lck.motor ∧
      t.drv.main = false ∧ t.cyc.phase = (if s.cyc.phase = .idle then .idle else .tripped) ∧ t.prf = s.prf ∧
      t.tms = s.tms ∧ t.ptb = s.ptb) ∧
    (s.lck.startUp = false → s.latchEngaged = false → s.doorOpen = false → s.lck.state = .jammed → s.lck.carried = false →
      ∃ t, exec (.switchDebounced .door false) s = .next t ∧ t.lck.state = .unlocked ∧ t.doorOpen = true ∧
      t.cyc = s.cyc ∧ t.ramp = s.ramp ∧ t.tms = s.tms ∧ t.bli = s.bli ∧ t.shr = s.shr ∧ t.prf = s.prf ∧ t.ptb = s.ptb) ∧
    (s.lck.startUp = false → s.doorOpen = false → s.lck.state = .locking → s.lck.stage ≠ .doorReturn →
      s.lck.stage ≠ .doorReturnClearance → s.cyc.phase = .locking →
      ∃ t, exec (.switchDebounced .door false) s = .next t ∧ t.doorOpen = true ∧ t.lck.attempts = 0 ∧
      t.ramp = s.ramp ∧ t.tms = s.tms ∧ t.bli = s.bli ∧ t.shr = s.shr ∧ t.prf = s.prf ∧ t.ptb = s.ptb ∧
      if s.unlockTest then
        t.lck.state = .locking ∧ t.lck.motor = .unlock ∧ t.lck.travelTimer = some (s.cfg .lt * 100) ∧ t.cyc = s.cyc ∧
        (if s.latchEngaged then t.lck.stage = .doorReturn
         else t.lck.stage = .doorReturnClearance ∧ t.lck.stageTimer = some 200)
      else
        ¬ s.holdsFault .lockFail true →
        t.lck.state = (if s.latchEngaged then .jammed else .unlocked) ∧ (s.latchEngaged = true → t.lck.carried = true) ∧
        t.lck.motor = .off ∧ t.lck.stage = .none ∧ t.holdsFault .lockFail false ∧
        t.cyc.phase = (if s.latchEngaged then .cooling else .idle) ∧
        t.cyc.record.outcome = (if s.cyc.abortPending then .aborted else .lockFailed))

/-- A lock drive expires with the latch free: a back-drive after the first attempt; after the second JAMMED carrying the latch
as it shows at that moment, free (the cycle in LOCKING ends in IDLE) or, where the expiry met an engagement, engaged (in
COOLING), LOCK_FAIL standing gone (R6, R49, R50, R52; how an expiry meets an engagement is log 37). -/
def Obligations.LockDriveExpires : Prop :=
  ∀ (s : State) (met : Bool), s.lck.stage = .lockDrive → s.lck.state = .locking → s.lck.startUp = false →
    s.latchEngaged = false → s.lck.lockLostPresent = false → s.lck.doorForcedPresent = false →
    met = (s.lck.latch.timer == some 0 && s.lck.latch.raw) →
    ∃ t, exec .lockDriveExpiry s = .next t ∧ t.latchEngaged = met ∧
      (s.lck.latch.timer ≠ some 0 → t.lck.latch = s.lck.latch) ∧
      if s.lck.attempts < 2 then
        t.lck = { s.lck with
          latch := t.lck.latch, stage := .lockBackDrive, motor := .unlock, travelTimer := none
          stageTimer := some (s.cfg .lt * 100) } ∧
        { t with lck := s.lck } = s
      else
        s.cyc.phase = .locking → ¬ s.holdsFault .lockFail true →
        t.lck.state = .jammed ∧ t.lck.carried = met ∧ t.lck.attempts = 0 ∧ t.lck.motor = .off ∧
        t.lck.stage = .none ∧ t.cyc.phase = (if met then .cooling else .idle) ∧ t.holdsFault .lockFail false ∧
        t.cyc.record.outcome = (if s.cyc.abortPending then .aborted else .lockFailed) ∧
        t.cyc.record.firstFault = some (s.cyc.record.firstFault.getD .lockFail) ∧
        t.ramp = s.ramp ∧ t.prf = s.prf ∧ t.tms = s.tms ∧ t.bli = s.bli ∧ t.ptb = s.ptb ∧ t.shr = s.shr

/-- The back-drives end in a pause of 500 ms with the motor off; the pause of a lock travel ends in the second drive, counted
and recorded (R50, R55). -/
def Obligations.BackDrivesPause : Prop :=
  ∀ s : State,
    (s.lck.stage = .lockBackDrive → ∃ t, exec .lockBackDriveEnd s = .next t ∧ { t with lck := s.lck } = s ∧
      t.lck = { s.lck with stage := .lockPause, motor := .off, travelTimer := none, stageTimer := some 500 }) ∧
    (s.lck.stage = .unlockBackDrive → ∃ t, exec .unlockBackDriveEnd s = .next t ∧ { t with lck := s.lck } = s ∧
      t.lck = { s.lck with stage := .unlockPause, motor := .off, travelTimer := none, stageTimer := some 500 }) ∧
    (s.lck.stage = .lockPause → s.routing .lock ≠ 0 → s.alk.events.length < 32 →
      ∃ t, exec .lockPauseEnd s = .next t ∧ t.lck.attempts = 2 ∧ t.lck.motor = .lock ∧ t.lck.state = s.lck.state ∧
      (if s.latchEngaged then t.lck.stage = .seat ∧ t.lck.stageTimer = some 200
       else t.lck.stage = .lockDrive ∧ t.lck.travelTimer = some (s.cfg .lt * 100)) ∧
      t.alk.events = s.alk.events ++ [{ kind := .lockRetry, detail := 0, time := s.alk.seconds }] ∧ t.cyc = s.cyc)

/-- The seat ends with the latch engaged: LOCKED; the cycle in LOCKING enters HEATING with the ramp engine at segment 0, or
COOLING with outcome ABORTED (R6, R7, R31, R49, R74, R96). -/
def Obligations.SeatEndLocks : Prop :=
  ∀ s : State, s.lck.stage = .seat → s.latchEngaged = true → s.cyc.phase = .locking →
    (s.segmentAt 0).kind = .ramp → (s.segmentAt 0).burn = false → ∃ t, exec .seatEnd s = .next t ∧
      t.lck.state = .locked ∧ t.lck.attempts = 0 ∧ t.lck.motor = .off ∧ t.lck.stage = .none ∧
      t.prf = s.prf ∧ t.tms = s.tms ∧ t.ptb = s.ptb ∧ t.shr = s.shr ∧
      if s.cyc.abortPending then
        t.cyc.phase = .cooling ∧ t.cyc.record.outcome = .aborted ∧ t.cyc.abortPending = false ∧ t.ramp = s.ramp
      else
        t.cyc.phase = .heating ∧ t.cyc.record = s.cyc.record ∧ t.drv.permitted = true ∧
        t.drv.main = (!s.hasTrip) ∧ t.ramp.state = .ramping ∧ t.ramp.segIndex = 0 ∧
        t.ramp.sp = min s.tms.a.filtered (s.cfg .tmax) ∧ t.ramp.slotFlag = .none ∧ t.ramp.stepTimer = some 1000 ∧
        t.reg.demand = 0 ∧ t.reg.integral = 0 ∧ t.reg.limited = true ∧ t.reg.evalTimer = some 1000

/-- An unlock drive expires: a back-drive after the first attempt, JAMMED after the second; the pause after the back-drive ends
in a second drive if the unlock test passes, else in JAMMED. JAMMED carries the latch (UNLOCKED where the latch is free and the
door open), UNLOCK_FAIL stands gone and the cycle is in TRIPPED. A door return ends at its expiry or its clearance in UNLOCKED,
or in JAMMED carrying engaged, as a lock failure (R6, R12, R51, R52, R54, R55, R58; a latch whose 50 ms end at the expiry shows
at it, log 37; a return is decided by the latch at its end, log 20). -/
def Obligations.UnlockTravelsEnd : Prop :=
  ∀ (s : State) (shows : Bool), shows = (if s.lck.latch.timer = some 0 then s.lck.latch.raw else s.latchEngaged) →
    let jammed (latch : Bool) (t : State) : Prop :=
      (if latch = false ∧ s.doorOpen then t.lck.state = .unlocked else t.lck.state = .jammed ∧ t.lck.carried = latch) ∧
      t.lck.attempts = 0 ∧ t.lck.motor = .off ∧ t.lck.stage = .none ∧
      t.cyc.phase = .tripped ∧ t.cyc.record.outcome = .tripped ∧ t.holdsFault .unlockFail false ∧
      t.ramp = s.ramp ∧ t.prf = s.prf ∧ t.tms = s.tms ∧ t.bli = s.bli ∧ t.ptb = s.ptb ∧ t.shr = s.shr
    let returned (latch : Bool) (t : State) : Prop :=
      (if latch then t.lck.state = .jammed ∧ t.lck.carried = true else t.lck.state = .unlocked) ∧
      t.lck.attempts = 0 ∧ t.lck.motor = .off ∧ t.lck.stage = .none ∧ t.holdsFault .lockFail false ∧
      t.cyc.phase = (if latch then .cooling else .idle) ∧
      t.cyc.record.outcome = (if s.cyc.abortPending then .aborted else .lockFailed) ∧
      t.ramp = s.ramp ∧ t.prf = s.prf ∧ t.tms = s.tms ∧ t.bli = s.bli ∧ t.ptb = s.ptb ∧ t.shr = s.shr
    (s.lck.stage = .unlockDrive → s.lck.attempts < 2 → s.lck.state = .unlocking → s.lck.startUp = false →
      s.lck.lockLostPresent = false →
      ∃ t, exec .unlockDriveExpiry s = .next t ∧ { t with lck := s.lck, prt := s.prt, alk := s.alk } = s ∧
      t.lck = { s.lck with
        latch := t.lck.latch, stage := .unlockBackDrive, motor := .lock, travelTimer := none
        stageTimer := some (s.cfg .lt * 100), doorForcedPresent := t.lck.doorForcedPresent } ∧
      if s.lck.latch.timer = some 0 then
        t.lck.latch = { raw := s.lck.latch.raw, value := some s.lck.latch.raw, timer := none }
      else t.lck.latch = s.lck.latch ∧ t.lck.doorForcedPresent = s.lck.doorForcedPresent ∧ t.prt = s.prt ∧ t.alk = s.alk) ∧
    (s.lck.stage = .unlockDrive → 2 ≤ s.lck.attempts → s.lck.state = .unlocking → s.lck.startUp = false →
      s.cyc.phase = .unlocking → ¬ s.holdsFault .unlockFail true →
      ∃ t, exec .unlockDriveExpiry s = .next t ∧ jammed shows t) ∧
    (s.lck.stage = .unlockPause → s.lck.state = .unlocking → s.cyc.phase = .unlocking → ∃ t,
      exec .unlockPauseEnd s = .next t ∧
      if s.unlockTest then
        t.lck.attempts = 2 ∧ t.lck.motor = .unlock ∧ t.lck.state = .unlocking ∧ t.cyc = s.cyc ∧
        (if s.latchEngaged then t.lck.stage = .unlockDrive ∧ t.lck.travelTimer = some (s.cfg .lt * 100)
         else t.lck.stage = .clearance ∧ t.lck.stageTimer = some 200)
      else ¬ s.holdsFault .unlockFail true → jammed s.latchEngaged t) ∧
    (s.lck.stage = .doorReturn ∨ s.lck.stage = .doorReturnClearance → s.lck.state = .locking → s.lck.startUp = false →
      s.cyc.phase = .locking → ¬ s.holdsFault .lockFail true →
      (∃ t, exec .unlockDriveExpiry s = .next t ∧ returned shows t) ∧
      (s.lck.stage = .doorReturnClearance → ∃ t, exec .clearanceEnd s = .next t ∧ returned s.latchEngaged t))

/-- The clearance ends: UNLOCKED whatever the latch shows, and the cycle in UNLOCKING ends in IDLE with its outcome (R14, R15,
R54). -/
def Obligations.ClearanceEndUnlocks : Prop :=
  ∀ s : State, s.lck.stage = .clearance → s.cyc.phase = .unlocking → ∃ t, exec .clearanceEnd s = .next t ∧
    t.lck.state = .unlocked ∧ t.lck.attempts = 0 ∧ t.lck.motor = .off ∧ t.lck.stage = .none ∧
    t.cyc.phase = .idle ∧ t.cyc.record = s.cyc.record ∧ t.reg.coolTimer = none ∧ t.ramp = s.ramp ∧ t.tms = s.tms ∧
    t.shr = s.shr ∧ t.bli = s.bli

/-! ## Temperature -/

/-- The completions come in the order A, B, L; a valid reading is filtered over the last four and makes the channel ready; an
invalid one before the fourth is bridged and the value held (R60 to R63; a completion of a channel that is not due changes
nothing, log 31). -/
def Obligations.ReadingsAreFiltered : Prop :=
  ∀ (s : State) (ch : Channel) (raw : Int),
    (s.tms.due ≠ ch → exec (.conversionCompletion ch raw) s = .next s) ∧
    (s.tms.due = ch → (s.tms.chan ch).failed = false →
    ∃ t, exec (.conversionCompletion ch raw) s = .next t ∧ (t.tms.chan ch).raw = raw ∧
      t.tms.due = (match ch with | .a => .b | .b => .l | .l => .a) ∧
      (∀ other, other ≠ ch → t.tms.chan other = s.tms.chan other) ∧ t.prf = s.prf ∧ t.ptb = s.ptb ∧
      t.alk.items = s.alk.items ∧
      if -400 ≤ raw ∧ raw ≤ 7000 then
        (t.tms.chan ch).cls = .valid ∧ (t.tms.chan ch).ready = true ∧ (t.tms.chan ch).failed = false ∧
        (t.tms.chan ch).invalidRun = 0 ∧
        (t.tms.chan ch).history =
          (if (s.tms.chan ch).history.length < 4 then (s.tms.chan ch).history else (s.tms.chan ch).history.tail) ++ [raw] ∧
        (t.tms.chan ch).filtered =
          ((t.tms.chan ch).history.sum).tdiv (t.tms.chan ch).history.length
      else
        (t.tms.chan ch).cls = (if 7000 < raw then .overRange else .underRange) ∧
        (t.tms.chan ch).filtered = (s.tms.chan ch).filtered ∧
        ((s.tms.chan ch).invalidRun < 3 →
          (t.tms.chan ch).history = (s.tms.chan ch).history ∧ (t.tms.chan ch).failed = false ∧
          (t.tms.chan ch).invalidRun = (s.tms.chan ch).invalidRun + 1 ∧ (ch ≠ .l → t.prt.faults = s.prt.faults)))

/-- The fourth invalid reading fails the channel and raises its fault; the fourth valid one recovers it with the mean of its
fresh readings, and the condition is gone (R63, R64). -/
def Obligations.ChannelFailsAndRecovers : Prop :=
  ∀ (s : State) (ch : Channel) (raw : Int), s.tms.due = ch →
    ((s.tms.chan ch).failed = false → (s.tms.chan ch).invalidRun = 3 → ¬ (-400 ≤ raw ∧ raw ≤ 7000) →
      ∃ t, exec (.channelFailure ch raw) s = .next t ∧ (t.tms.chan ch).failed = true ∧
        (t.tms.chan ch).history = [] ∧ (t.tms.chan ch).validRun = 0 ∧
        (t.tms.chan ch).filtered = (s.tms.chan ch).filtered ∧ t.holdsFault (failCode ch) true ∧
        (∀ other, other ≠ ch → t.tms.chan other = s.tms.chan other) ∧ t.prf = s.prf ∧ t.ptb = s.ptb) ∧
    (∀ x y z : Int, (s.tms.chan ch).failed = true → (s.tms.chan ch).validRun = 3 → (s.tms.chan ch).history = [x, y, z] →
      -400 ≤ raw → raw ≤ 7000 → ∃ t, exec (.channelRecovery ch raw) s = .next t ∧ (t.tms.chan ch).failed = false ∧
        (t.tms.chan ch).validRun = 0 ∧ (t.tms.chan ch).invalidRun = 0 ∧
        (t.tms.chan ch).filtered = (x + y + z + raw).tdiv 4 ∧ ¬ t.holdsFault (failCode ch) true ∧
        (∀ other, other ≠ ch → t.tms.chan other = s.tms.chan other) ∧ t.prf = s.prf ∧ t.ptb = s.ptb)

/-- The tenth disagreeing pair raises SENSOR_DISAGREE, the tenth agreeing pair ends its condition, the fiftieth hot period
raises LATCH_HOT; a compared cavity value `v` above Tmax + 300 raises OVERTEMP and one at or below Tmax ends its condition; a
latch-zone value above 900, or the failure of L, turns the override and the fan full on: `x` is the value that the completion
leaves (R66 to R70). -/
def Obligations.ChecksRaiseAndEnd : Prop :=
  ∀ (s : State) (ch : Channel) (raw x : Int), s.tms.due = ch → (s.tms.chan ch).failed = false →
    (-400 ≤ raw → raw ≤ 7000 →
      x = (pushReading (s.tms.chan ch).history raw).sum.tdiv (pushReading (s.tms.chan ch).history raw).length →
      (ch = .b → s.tms.a.standing = .valid → s.tms.a.cls = .valid → 300 < (s.tms.a.filtered - x).natAbs →
        s.tms.disagreeCount = 9 → s.tms.disagreePresent = false → ∃ t, exec (.sensorDisagree raw) s = .next t ∧
        t.tms.disagreePresent = true ∧ t.tms.disagreeCount = 10 ∧ t.tms.agreeCount = 0 ∧
        t.holdsFault .sensorDisagree true ∧ t.prf = s.prf ∧ t.ptb = s.ptb) ∧
      (ch = .b → s.tms.a.standing = .valid → s.tms.a.cls = .valid → (s.tms.a.filtered - x).natAbs ≤ 300 →
        s.tms.agreeCount = 9 → s.tms.disagreePresent = true → ∃ t, exec (.disagreeConditionGone raw) s = .next t ∧
        t.tms.disagreePresent = false ∧ t.tms.agreeCount = 10 ∧ t.tms.disagreeCount = 0 ∧
        ¬ t.holdsFault .sensorDisagree true ∧ t.prf = s.prf ∧ t.ptb = s.ptb) ∧
      (ch = .l → 1200 < x → s.tms.hotRun = 49 → s.tms.latchHotPresent = false → ∃ t, exec (.latchHot raw) s = .next t ∧
        t.tms.latchHotPresent = true ∧ t.tms.hotRun = 50 ∧ t.holdsFault .latchHot true ∧ t.prf = s.prf ∧ t.ptb = s.ptb) ∧
      (∀ v other, ch ≠ .l → other = (if ch = .a then s.tms.b else s.tms.a) → s.alk.committed = true →
        v = (if other.standing = .valid then max x other.filtered else x) →
        ∃ t, exec (.conversionCompletion ch raw) s = .next t ∧ t.prf = s.prf ∧ t.ptb = s.ptb ∧
        (if (s.cfg .tmax : Int) + 300 < v then
          t.tms.overtempPresent = true ∧
          (s.tms.overtempPresent = false → ¬ s.holdsFault .overtemp true → t.holdsFault .overtemp true ∧
            t.drv.main = false ∧ t.cyc.phase = (if s.cyc.phase = .idle then .idle else .tripped))
        else if v ≤ s.cfg .tmax then
          t.tms.overtempPresent = false ∧ (s.tms.overtempPresent = true → ¬ t.holdsFault .overtemp true)
        else t.tms.overtempPresent = s.tms.overtempPresent)) ∧
      (ch = .l → ∃ t, exec (.conversionCompletion .l raw) s = .next t ∧ t.tms.zoneOverride = decide (900 < x) ∧
        (900 < x → t.reg.fan = 100) ∧ t.prf = s.prf ∧ t.ptb = s.ptb)) ∧
    (ch = .l → ¬(-400 ≤ raw ∧ raw ≤ 7000) → s.tms.l.invalidRun = 3 →
      ∃ t, exec (.conversionCompletion .l raw) s = .next t ∧ t.tms.zoneOverride = true ∧ t.reg.fan = 100 ∧
        t.prf = s.prf ∧ t.ptb = s.ptb)

/-- The unlock test passes as R46's table gives; where a new value of A or B, or the second in which the blind-cool count
reaches Bc × 60, makes it pass, the cycle in COOLING goes to UNLOCKING with the unlock travel begun, and in TRIPPED with the
sensor failures alone present the travel begins without leaving TRIPPED; a second of PRT's timebase advances the count, to
14400, unless an element output was on in it (R13, R46, R47, R53, R54, R164, R165). -/
def Obligations.UnlockTestReleases : Prop :=
  ∀ s : State,
    let sensorTrips : Prop := (∃ e ∈ s.prt.faults, e.code.cls = .trip ∧ e.present = true) ∧
      ∀ e ∈ s.prt.faults, e.code.cls = .trip → e.present = true → e.code = .sensorAFail ∨ e.code = .sensorBFail
    let waits : Prop := s.lck.startUp = false ∧
      ((s.cyc.phase = .cooling ∧ (s.lck.state = .locked ∨ s.lck.state = .jammed)) ∨
       (s.cyc.phase = .tripped ∧ s.lck.state = .locked ∧ s.lck.testPass = false ∧ sensorTrips))
    let released (t : State) : Prop :=
      t.cyc.phase = (if s.cyc.phase = .cooling then .unlocking else .tripped) ∧
      t.cyc.record.outcome = s.cyc.record.outcome ∧
      t.lck.state = .unlocking ∧ t.lck.attempts = 1 ∧ t.lck.motor = .unlock ∧
      (if s.latchEngaged then t.lck.stage = .unlockDrive ∧ t.lck.travelTimer = some (s.cfg .lt * 100)
       else t.lck.stage = .clearance ∧ t.lck.stageTimer = some 200) ∧
      t.ramp = s.ramp ∧ t.prf = s.prf ∧ t.bli = s.bli ∧ t.ptb = s.ptb ∧ t.shr = s.shr
    (s.unlockTest = true ↔ s.alk.committed = true ∧
      (((s.tms.a.ready = true ∧ s.tms.a.failed = false) ∧ (s.tms.b.ready = true ∧ s.tms.b.failed = false) ∧
          max s.tms.a.filtered s.tms.b.filtered < s.cfg .tu) ∨
       ((s.tms.a.ready = true ∧ s.tms.a.failed = false) ∧ s.tms.b.failed = true ∧
          s.tms.a.filtered < (s.cfg .tu : Int) - 300) ∨
       (s.tms.a.failed = true ∧ (s.tms.b.ready = true ∧ s.tms.b.failed = false) ∧
          s.tms.b.filtered < (s.cfg .tu : Int) - 300) ∨
       (s.tms.a.failed = true ∧ s.tms.b.failed = true ∧ s.prt.blindRunning = true ∧
          s.cfg .bc * 60 ≤ s.prt.blindCount))) ∧
    (∀ (ch : Channel) (raw x v : Int) (other : Chan), ch ≠ .l → other = (if ch = .a then s.tms.b else s.tms.a) →
      s.tms.due = ch → (s.tms.chan ch).failed = false → -400 ≤ raw → raw ≤ 7000 →
      x = (pushReading (s.tms.chan ch).history raw).sum.tdiv (pushReading (s.tms.chan ch).history raw).length →
      v = (if other.standing = .valid then max x other.filtered else x) → s.alk.committed = true →
      (other.standing = .valid ∧ v < s.cfg .tu) ∨ (other.standing = .failed ∧ x < (s.cfg .tu : Int) - 300) →
      v ≤ (s.cfg .tmax : Int) + 300 → (ch = .b → s.tms.disagreeCount < 9) → waits →
      ∃ t, exec (.conversionCompletion ch raw) s = .next t ∧ released t ∧ (t.tms.chan ch).filtered = x) ∧
    (s.alk.committed = true → s.tms.a.failed = true → s.tms.b.failed = true → s.prt.blindRunning = true →
      s.prt.heatSeen = false → s.prt.blindCount + 1 = s.cfg .bc * 60 → s.prt.blindCount < 14400 → waits →
      ∃ t, exec .blindCoolTick s = .next t ∧ released t ∧ t.prt.blindCount = s.cfg .bc * 60 ∧ t.tms = s.tms) ∧
    (s.prt.blindRunning = true → ∃ t, exec .blindCoolTick s = .next t ∧ t.prt.blindRunning = true ∧
      t.prt.blindCount =
        (if s.prt.heatSeen = true then s.prt.blindCount
         else if s.prt.blindCount < 14400 then s.prt.blindCount + 1 else 14400) ∧
      t.ramp = s.ramp ∧ t.tms = s.tms ∧ t.bli = s.bli ∧ t.ptb = s.ptb ∧ t.shr = s.shr ∧ t.alk.items = s.alk.items)

/-! ## The element drive -/

/-- A zero-cross in a running window short of its end: the sample is added and the window advances, its outputs switched by
MAIN and the on-counts; or it is truncated where SHR's Ho has fallen; a suspended drive resumes with a window at Ho; the
MAINS_ABSENT condition is gone (R91 to R95, R102, R103). That change of the fault set makes CYC examine R13's conditions: where
they hold in TRIPPED the unlock travel begins in the same event (R13). -/
def Obligations.ZeroCrossAdvances : Prop :=
  ∀ (s : State) (sample : Nat),
    let gone : List FaultEntry := if s.drv.mainsAbsentPresent then
      s.prt.faults.map fun e => if e.code = .mainsAbsent then { e with present := false } else e else s.prt.faults
    let reported : Bool := s.drv.mainsAbsentPresent && s.prt.faults.any fun e => e.code == .mainsAbsent && e.present
    ((reported = false ∨ s.trippedRelease = false ∨ s.lck.startUp = true) → ∃ t, exec (.zeroCross sample) s = .next t ∧
      t.drv.absence = 0 ∧ t.drv.mainsTimer = none ∧ t.drv.state = .running ∧ t.drv.mainsAbsentPresent = false ∧
      (s.drv.state = .running → s.drv.windowRunning = true → s.drv.position < 63 →
        t.drv.last = s.drv.last ∧ t.drv.limited = s.drv.limited ∧ t.drv.main = s.drv.main ∧
        { t with drv := s.drv, prt := s.prt, alk := s.alk } = s ∧ t.prt.faults = gone ∧ (reported = false → t.alk = s.alk) ∧
        (s.drv.window.ho ≤ s.shr.ho →
          t.drv.position = s.drv.position + 1 ∧ t.drv.sampleSum = s.drv.sampleSum + sample ∧
          t.drv.window = s.drv.window ∧
          t.drv.outputs = if s.drv.main then outputsAt s.drv.window.n (s.drv.position + 1) else PerElement.all false) ∧
        (s.shr.ho < s.drv.window.ho →
          t.drv.position = 0 ∧ t.drv.sampleSum = 0 ∧ t.drv.window.ho = s.shr.ho ∧ t.drv.window.ig ≤ s.shr.ho)) ∧
      (s.drv.state = .suspended →
        t.drv.windowRunning = true ∧ t.drv.position = 0 ∧ t.drv.window.ho = s.shr.ho ∧
        t.drv.window.ir = (s.reg.demand * fullCurrent s.ratings s.weights + 999) / 1000 ∧
        t.drv.window.ig = (if s.drv.main then min t.drv.window.ir s.shr.ho else 0) ∧ t.drv.limited = s.drv.limited ∧
        { t with drv := s.drv, prt := s.prt, alk := s.alk } = s ∧ t.prt.faults = gone ∧ (reported = false → t.alk = s.alk))) ∧
    (reported = true → s.trippedRelease = true → s.lck.startUp = false → s.drv.state = .suspended → s.heatSafe →
      ∃ t, exec (.zeroCross sample) s = .next t ∧ t.drv.state = .running ∧ t.drv.mainsAbsentPresent = false ∧
        t.prt.faults = gone ∧ t.cyc = s.cyc ∧ t.lck.state = .unlocking ∧ t.lck.attempts = 1 ∧ t.lck.motor = .unlock ∧
        t.ramp = s.ramp ∧ t.prf = s.prf ∧ t.tms = s.tms ∧ t.bli = s.bli ∧ t.ptb = s.ptb ∧ t.shr = s.shr)

/-- The 64th half-cycle completes the window: its values, measured and expected current and standing are stored and handed on,
and the next window begins (R91, R94). -/
def Obligations.WindowCompletes : Prop :=
  ∀ (s : State) (sample : Nat), s.completes = true → ∃ t, exec (.windowComplete sample) s = .next t ∧
    t.drv.last = s.drv.window ∧ t.drv.lastMeasured = (s.drv.sampleSum + sample) / 64 ∧
    t.drv.lastExpected = s.committedCurrent s.drv.window.n / 64 ∧
    t.drv.limited = decide (s.drv.window.ig < s.drv.window.ir) ∧ t.reg.limited = t.drv.limited ∧
    t.drv.position = 0 ∧ t.drv.sampleSum = 0 ∧ t.drv.state = .running ∧ t.prf = s.prf ∧ t.tms = s.tms ∧ t.ptb = s.ptb

/-- The three checks of a complete window: the third overdrawn and the third all-off window that draws raise their trips, the
eighth low window raises ELEMENT_LOW and heating goes on (R98 to R101). -/
def Obligations.WindowChecksReport : Prop :=
  ∀ (s : State) (sample m x : Nat), s.completes = true → s.heatSafe → m = (s.drv.sampleSum + sample) / 64 →
    x = s.committedCurrent s.drv.window.n / 64 →
    (s.drv.window.n.sum ≠ 0 → x + max 20 (x / 4) < m → s.drv.overRun = 2 → s.drv.overPresent = false →
      ∃ t, exec (.elementOvercurrent sample) s = .next t ∧ t.drv.overPresent = true ∧
        t.holdsFault .elementOvercurrent true ∧ t.drv.main = false) ∧
    (s.drv.window.n.sum = 0 → 10 < m → s.drv.stuckRun = 2 → s.drv.stuckPresent = false →
      ∃ t, exec (.driveStuck sample) s = .next t ∧ t.drv.stuckPresent = true ∧ t.holdsFault .driveStuck true ∧
        t.drv.main = false) ∧
    (s.drv.window.n.sum ≠ 0 → 20 ≤ x → m * 10 < x * 6 → s.drv.lowRun = 7 → s.drv.lowPresent = false →
      s.drv.overPresent = false → s.drv.stuckPresent = false → s.drv.mainsAbsentPresent = false →
      ∃ t, exec (.elementLow sample) s = .next t ∧ t.drv.lowPresent = true ∧ t.holdsFault .elementLow true ∧
        t.drv.main = s.drv.main ∧ t.cyc = s.cyc ∧ t.ramp = s.ramp)

/-- 100 ms without a zero-cross suspend the drive with every output off; a minute of it in HEATING aborts the cleaning, a later
cleaning that began with the mains still absent too (R11, R102, R103; the last is log 34). -/
def Obligations.MainsLossSuspends : Prop :=
  ∀ s : State,
    (s.drv.state = .running → ∃ t, exec .mainsSuspend s = .next t ∧ t.drv.state = .suspended ∧
      t.drv.outputs.any = false ∧ t.drv.windowRunning = false ∧ t.drv.limited = true ∧ t.reg.limited = true ∧
      t.drv.main = s.drv.main ∧ t.drv.mainsTimer = (if s.cyc.phase = .heating then some 0 else none) ∧
      { t with drv := s.drv, reg := s.reg, prt := s.prt } = s ∧ t.prt.faults = s.prt.faults) ∧
    (s.drv.state = .suspended → s.cyc.phase = .heating →
      ∃ t, exec .mainsAbsent s = .next t ∧ t.cyc.phase = .cooling ∧ t.cyc.record.outcome = .faultAborted ∧
      t.holdsFault .mainsAbsent true ∧ t.drv.mainsAbsentPresent = true ∧ t.drv.mainsTimer = none ∧
      t.drv.main = false ∧ t.ramp.state = .idle ∧ t.reg.demand = 0 ∧ t.prf = s.prf ∧ t.lck = s.lck ∧ t.tms = s.tms ∧
      t.ptb = s.ptb)

/-! ## The bank line -/

/-- An attempt begins once the released run has reached the idle gap and the back-off, not while another frame is on the line,
with a snapshot of the present state; it is lost with a back-off and its reasons kept, or completes, clears the reasons that
were pending at its start and reports a DEPART sent; the line is driven just while it lasts (R106, R108 to R115). The model's
choices: the row changes nothing where no attempt may begin (log 12); a reason pending at the start and set again during the
attempt is cleared at the completion too (log 40); the millisecond in which the run does not grow (logs 2, 43). -/
def Obligations.AttemptRuns : Prop :=
  ∀ s : State,
    (s.bli.tx ≠ .waiting ∨ s.bli.releasedRun < 12 + s.bli.backoff ∨ s.bli.frame = .other →
      exec .attemptBegin s = .next s) ∧
    (s.bli.frame = .other → (advanceMs s).bli.releasedRun = s.bli.releasedRun ∧ (advanceMs s).bli.frame = .other) ∧
    (∀ k, s.bli.tx = .waiting → s.bli.frame ≠ .other → 12 + s.bli.backoff ≤ s.bli.releasedRun → s.bli.nextKind = some k →
      ∃ t, exec .attemptBegin s = .next t ∧ t.bli.tx = .sending ∧ t.bli.backoff = 0 ∧ t.bli.output = .driving ∧
        t.bli.releasedRun = 0 ∧
        t.bli.reasons = s.bli.reasons ∧ (∃ word, 1 ≤ word ∧ word ≤ 255 ∧ t.bli.attempt = some {
          frame := { word := word, station := s.cfg .station, group := s.cfg .group, kind := k, held := s.shr.ho,
                     want := s.shr.wo, claim := s.shr.co, slot := s.shr.slot, phase := s.reportedPhase,
                     fallback := s.shr.state == .fallback }
          check := (s.snapshot k).check, sent := s.bli.reasons }) ∧
        { t with bli := s.bli, draws := s.draws } = s) ∧
    (s.bli.tx = .sending → ∃ t, exec .attemptLost s = .next t ∧ t.bli.tx = .waiting ∧ t.bli.attempt = none ∧
        t.bli.output = .released ∧ t.bli.reasons = s.bli.reasons ∧ (∃ k ≤ 15, t.bli.backoff = 4 * k) ∧
        { t with bli := s.bli, draws := s.draws } = s) ∧
    (∀ a, s.bli.tx = .sending → s.bli.attempt = some a → ∃ t, exec .attemptComplete s = .next t ∧
        t.bli.reasons = s.bli.reasons &&& ~~~a.sent ∧ t.bli.attempt = none ∧ t.bli.backoff = 0 ∧
        t.bli.output = .released ∧ t.bli.tx = (if t.bli.reasons = 0 then .quiet else .waiting) ∧
        t.bli.lastKind = some a.frame.kind ∧ (∃ ms, 875 ≤ ms ∧ ms ≤ 1125 ∧ t.bli.periodTimer = some ms) ∧
        (s.shr.claim = .announcing → 0 < a.frame.claim → a.frame.claim = s.shr.co →
          t.shr.claim = .settling ∧ t.shr.claimTimer = some 300) ∧
        (s.shr.request = .claiming → a.frame.slot = .claim → s.shr.settleTimer = none →
          t.shr.settleTimer = some 300) ∧
        (a.frame.kind = .depart → t.bli.departureTimer = none ∧
          ∀ r, s.alk.resetPending = some r → r.departure = .waiting →
            t.alk.resetPending = some { r with departure := .sent }) ∧
        t.shr.ho = s.shr.ho ∧ t.alk.items = s.alk.items ∧ t.alk.events = s.alk.events ∧
        { t with bli := s.bli, shr := s.shr, alk := s.alk, draws := s.draws } = s)

/-- The period sets PERIODIC and starts a new period of 875 to 1125 ms; the departure timer ends the attempt and reports the
departure not sent; the silence timer sets SILENT (R114, R115, R121; that the transmitter then waits is the
model's choice, log 24). -/
def Obligations.BankTimersExpire : Prop :=
  ∀ s : State,
    (s.bli.periodTimer.isSome → s.bli.tx ≠ .off → s.bli.tx ≠ .stopped → ∃ t, exec .periodExpiry s = .next t ∧
      t.bli.reasons = s.bli.reasons ||| FrameKind.periodic.bit ∧ t.bli.tx = (if s.bli.tx = .quiet then .waiting else s.bli.tx) ∧
      (∃ ms, 875 ≤ ms ∧ ms ≤ 1125 ∧ t.bli.periodTimer = some ms) ∧ { t with bli := s.bli, draws := s.draws } = s) ∧
    (s.bli.departureTimer.isSome → ∃ t, exec .departureTimeout s = .next t ∧ t.bli.departureTimer = none ∧
      (if s.bli.tx = .sending then t.bli.tx = .waiting ∧ t.bli.attempt = none ∧ t.bli.output = .released
       else t.bli = { s.bli with departureTimer := none }) ∧
      (∀ r, s.alk.resetPending = some r → r.departure = .waiting →
        t.alk.resetPending = some { r with departure := .notSent }) ∧
      { t with bli := s.bli, alk := { t.alk with resetPending := s.alk.resetPending } } = s) ∧
    (s.bli.silenceTimer.isSome → s.bli.silent = false → ∃ t, exec .silent s = .next t ∧ t.bli.silent = true ∧
      t.shr.causes = s.shr.causes ||| Cause.silent.bit ∧ t.ptb = s.ptb ∧ t.prf = s.prf ∧ t.tms = s.tms ∧
      (s.shr.causes = 0 → s.shr.state = .sharing → t.shr.state = .fallback ∧ t.shr.claim = .none ∧
        (s.shr.claim ≠ .none → t.shr.co = 0)))

/-- A frame is classed and its reception ends. A bad frame counts once; a good own frame changes nothing more; a good frame of
another station is counted off, restarts the silence and, where the filter accepts it, updates, inserts or (DEPART) removes
its record, or sets OVERFLOW where the table is full; one of the own number that another sent latches NUMBER_CONFLICT; the
counter sets UNRELIABLE at 24 and clears it at 8 (R106, R116 to R118, R126 to R130; that the released run is 0 at the moment a
frame's reception ends is the model's choice, log 32). -/
def Obligations.FramesAreTaken : Prop :=
  ∀ (s : State) (nbits : Nat) (bits : BitVec 64) (own : Bool),
    ((∀ f, classify nbits bits ≠ .good f) → ∃ t, exec (.frameReceived nbits bits own) s = .next t ∧
      t.bli.errors = satSucc 31 s.bli.errors ∧ t.bli.frame = .none ∧ t.bli.releasedRun = 0 ∧ t.ptb = s.ptb ∧
      t.prf = s.prf ∧ t.tms = s.tms ∧ t.bli.silenceTimer = s.bli.silenceTimer) ∧
    (∀ f, classify nbits bits = .good f → s.bli.frame = .own → f.station = s.cfg .station →
      ∃ t, exec (.frameReceived nbits bits own) s = .next t ∧ { t with bli := s.bli } = s ∧
        t.bli = { s.bli with frame := .none, releasedRun := 0 }) ∧
    (∀ f, classify nbits bits = .good f → f.station ≠ s.cfg .station →
      ∃ t, exec (.frameReceived nbits bits own) s = .next t ∧ t.bli.errors = s.bli.errors - 1 ∧ t.bli.frame = .none ∧
        t.bli.silenceTimer = s.bli.silenceTimer.map (fun _ => 0) ∧ t.prf = s.prf ∧ t.tms = s.tms ∧
        (s.alk.committed = true → s.accepts f.group = true → f.kind ≠ .depart →
          ((s.ptb.records.find? fun p => p.station == f.station).isSome ∨ s.ptb.records.length < 15) →
          { station := f.station, state := .live, group := f.group, held := f.held, want := f.want, claim := f.claim,
            slot := f.slot, phase := f.phase, fallback := f.fallback, lastKind := f.kind, age := 0 : Peer }
              ∈ t.ptb.records ∧
          (∀ p ∈ s.ptb.records, p.station ≠ f.station → p ∈ t.ptb.records) ∧
          t.ptb.overflow = s.ptb.overflow ∧ t.shr.sums = tableSums s.soloAllowance t.ptb.records) ∧
        (s.alk.committed = true → s.accepts f.group = true → f.kind = .depart →
          if (s.ptb.records.find? fun p => p.station == f.station).isSome then
            t.ptb.records = s.ptb.records.filter (fun p => p.station != f.station) ∧ t.ptb.overflow = false ∧
            t.shr.sums = tableSums s.soloAllowance t.ptb.records
          else t.ptb = s.ptb) ∧
        (s.alk.committed = true → s.accepts f.group = false → t.ptb = s.ptb) ∧
        (s.alk.committed = true → s.accepts f.group = true → f.kind ≠ .depart →
          (s.ptb.records.find? fun p => p.station == f.station) = none → 15 ≤ s.ptb.records.length →
          t.ptb.records = s.ptb.records ∧ t.ptb.overflow = true ∧
          (s.ptb.overflow = false → t.shr.causes.getLsbD 5 = true))) ∧
    (∀ f, classify nbits bits = .good f → s.bli.frame ≠ .own → f.station = s.cfg .station →
      ∃ t, exec (.frameReceived nbits bits own) s = .next t ∧ t.bli.errors = s.bli.errors - 1 ∧
        t.bli.silenceTimer = s.bli.silenceTimer.map (fun _ => 0) ∧ t.bli.numberConflict = true ∧ t.ptb = s.ptb ∧
        (s.bli.numberConflict = false → ¬ s.holdsFault .numberConflict true →
          t.holdsFault .numberConflict true ∧ t.shr.causes.getLsbD 4 = true)) ∧
    ((∀ f, classify nbits bits ≠ .good f) → s.bli.errors = 23 → s.bli.unreliable = false →
      ∃ t, exec (.unreliable nbits bits own) s = .next t ∧ t.bli.unreliable = true ∧ t.bli.errors = 24 ∧
        t.shr.causes = s.shr.causes ||| Cause.unreliable.bit ∧ t.ptb = s.ptb) ∧
    (∀ f, classify nbits bits = .good f → f.station ≠ s.cfg .station → s.bli.errors = 9 → s.bli.unreliable = true →
      ∃ t, exec (.unreliable nbits bits own) s = .next t ∧ t.bli.unreliable = false ∧ t.bli.errors = 8 ∧
        t.shr.causes.getLsbD 0 = false)

/-- A line asserted for 8 ms sets LINE_HELD, or by the own driver latches TX_STUCK and stops the transmitter; idle clears
LINE_HELD; a glitch only restarts the released run (R105, R106, R119, R120). -/
def Obligations.LineConditions : Prop :=
  ∀ s : State,
    (s.bli.lineHeld = false → ∃ t, exec (.lineHeld false) s = .next t ∧ t.bli.lineHeld = true ∧
      t.bli.txStuck = s.bli.txStuck ∧ t.shr.causes = s.shr.causes ||| Cause.lineHeld.bit ∧ t.ptb = s.ptb) ∧
    (s.bli.txStuck = false → ¬ s.holdsFault .txStuck true → ∃ t, exec (.lineHeld true) s = .next t ∧
      t.bli.txStuck = true ∧ t.bli.tx = .stopped ∧ t.bli.reasons = 0 ∧ t.bli.attempt = none ∧ t.bli.output = .disabled ∧
      t.bli.periodTimer = none ∧ t.bli.departureTimer = none ∧ t.bli.lineHeld = s.bli.lineHeld ∧
      t.holdsFault .txStuck true ∧ t.shr.causes = s.shr.causes ||| Cause.txStuck.bit) ∧
    (∃ t, exec .lineIdle s = .next t ∧ t.bli.lineHeld = false ∧ t.bli.releasedRun = max 12 s.bli.releasedRun ∧
      t.bli.heldTimer = 0 ∧
      t.ptb = s.ptb ∧ t.shr.ho = s.shr.ho ∧ (s.bli.lineHeld = false → t.shr = s.shr)) ∧
    (∃ t, exec .glitch s = .next t ∧ t.bli = { s.bli with releasedRun := 0 } ∧ { t with bli := s.bli } = s)

/-! ## Sharing -/

/-- A LIVE record lapses; the listening ends in SHARING; a claim settles by the fresh room; a slot claim settles by the count of
holders; a back-off ends in a new request (R131, R134, R139, R146, R150 to R152). -/
def Obligations.SharingTimersExpire : Prop :=
  ∀ s : State,
    (∀ p, s.ptb.records.find? (fun q => q.station == p.station) = some p → p.state = .live →
      ∃ t, exec (.peerLapsed p.station) s = .next t ∧
        t.ptb.records = s.ptb.records.map (fun q =>
          if q.station = p.station then { p with state := .lapsed, age := 3500 } else q) ∧
        t.shr.sums = tableSums s.soloAllowance t.ptb.records ∧ t.ptb.overflow = s.ptb.overflow ∧
        t.prf = s.prf ∧ t.ramp = s.ramp ∧ t.lck = s.lck ∧ t.tms = s.tms ∧ t.reg = s.reg ∧ t.drv = s.drv ∧ t.prt = s.prt) ∧
    (s.shr.state.listens = true → s.shr.listenTimer.isSome → s.shr.causes = 0 → s.shr.request ≠ .waiting →
      ∃ t, exec .listenExpiry s = .next t ∧ t.shr.state = .sharing ∧ t.shr.listenTimer = none ∧
        t.shr.go = s.targetOf ∧ t.shr.ho = min s.shr.ho s.targetOf ∧ t.ptb = s.ptb ∧ t.ramp = s.ramp ∧ t.prf = s.prf ∧ t.lck = s.lck ∧
        t.tms = s.tms) ∧
    (s.shr.claimTimer.isSome → s.shr.claim = .settling →
      ∃ t, exec .claimSettle s = .next t ∧ t.shr.go = s.targetOf ∧
        t.shr.ho = min (s.shr.ho + min s.shr.co s.room) s.targetOf ∧ t.shr.claim ≠ .settling ∧
        t.shr.claimTimer = none ∧ t.ptb = s.ptb ∧ t.ramp = s.ramp ∧ t.prf = s.prf ∧ t.lck = s.lck ∧ t.tms = s.tms) ∧
    (s.shr.settleTimer.isSome → s.shr.request = .claiming → s.shr.slot = .claim → s.cfg .k ≤ s.shr.sums.holders →
      ∃ t, exec .slotSettle s = .next t ∧ t.shr.slot = .none ∧ t.shr.request = .backingOff ∧
        (∃ n, 50 ≤ n ∧ n ≤ 200 ∧ t.shr.backoffTimer = some (n * 100)) ∧ t.ramp = s.ramp ∧ t.cyc = s.cyc ∧ t.prf = s.prf ∧
        t.tms = s.tms ∧ t.ptb = s.ptb ∧ t.shr.ho = s.shr.ho) ∧
    (s.shr.settleTimer.isSome → s.shr.request = .claiming → s.shr.slot = .claim → s.shr.sums.holders < s.cfg .k →
      s.ramp.state = .waitingSlot → s.segment.kind = .ramp → ∃ t, exec .slotSettle s = .next t ∧
        t.shr.slot = .hold ∧ t.shr.request = .granted ∧ t.shr.valve = true ∧ t.ramp.state = .ramping ∧
        t.ramp.slotFlag = .granted ∧ t.ramp.segIndex = s.ramp.segIndex ∧ t.ramp.sp = s.ramp.sp ∧
        t.cyc = s.cyc ∧ t.prf = s.prf ∧ t.tms = s.tms ∧ t.ptb = s.ptb ∧ t.shr.ho = s.shr.ho) ∧
    (s.shr.backoffTimer.isSome → s.shr.request = .backingOff → s.shr.slot = .none → s.shr.state = .sharing →
      s.shr.sums.holders < s.cfg .k → ∃ t, exec .slotBackoffExpiry s = .next t ∧ t.shr.slot = .claim ∧
        t.shr.request = .claiming ∧ t.shr.backoffTimer = none ∧ t.ramp = s.ramp ∧ t.cyc = s.cyc ∧ t.prf = s.prf ∧
        t.tms = s.tms ∧ t.ptb = s.ptb ∧ t.shr.ho = s.shr.ho)
end

