-- ==== Sys2Proof/Laws/State.lean ====
section
/-! SUPPORT. One lemma for each field after each change of one block, and what a reset keeps. -/

namespace Sys2Proof.Machine

@[simp] theorem State.modCyc_cyc (f : Cyc → Cyc) (s : State) : (s.modCyc f).cyc = f s.cyc := rfl
@[simp] theorem State.modCyc_prf (f : Cyc → Cyc) (s : State) : (s.modCyc f).prf = s.prf := rfl
@[simp] theorem State.modCyc_ramp (f : Cyc → Cyc) (s : State) : (s.modCyc f).ramp = s.ramp := rfl
@[simp] theorem State.modCyc_lck (f : Cyc → Cyc) (s : State) : (s.modCyc f).lck = s.lck := rfl
@[simp] theorem State.modCyc_tms (f : Cyc → Cyc) (s : State) : (s.modCyc f).tms = s.tms := rfl
@[simp] theorem State.modCyc_reg (f : Cyc → Cyc) (s : State) : (s.modCyc f).reg = s.reg := rfl
@[simp] theorem State.modCyc_drv (f : Cyc → Cyc) (s : State) : (s.modCyc f).drv = s.drv := rfl
@[simp] theorem State.modCyc_bli (f : Cyc → Cyc) (s : State) : (s.modCyc f).bli = s.bli := rfl
@[simp] theorem State.modCyc_ptb (f : Cyc → Cyc) (s : State) : (s.modCyc f).ptb = s.ptb := rfl
@[simp] theorem State.modCyc_shr (f : Cyc → Cyc) (s : State) : (s.modCyc f).shr = s.shr := rfl
@[simp] theorem State.modCyc_prt (f : Cyc → Cyc) (s : State) : (s.modCyc f).prt = s.prt := rfl
@[simp] theorem State.modCyc_alk (f : Cyc → Cyc) (s : State) : (s.modCyc f).alk = s.alk := rfl
@[simp] theorem State.modCyc_pending (f : Cyc → Cyc) (s : State) : (s.modCyc f).pending = s.pending := rfl
@[simp] theorem State.modCyc_draws (f : Cyc → Cyc) (s : State) : (s.modCyc f).draws = s.draws := rfl

@[simp] theorem State.modPrf_cyc (f : Prf → Prf) (s : State) : (s.modPrf f).cyc = s.cyc := rfl
@[simp] theorem State.modPrf_prf (f : Prf → Prf) (s : State) : (s.modPrf f).prf = f s.prf := rfl
@[simp] theorem State.modPrf_ramp (f : Prf → Prf) (s : State) : (s.modPrf f).ramp = s.ramp := rfl
@[simp] theorem State.modPrf_lck (f : Prf → Prf) (s : State) : (s.modPrf f).lck = s.lck := rfl
@[simp] theorem State.modPrf_tms (f : Prf → Prf) (s : State) : (s.modPrf f).tms = s.tms := rfl
@[simp] theorem State.modPrf_reg (f : Prf → Prf) (s : State) : (s.modPrf f).reg = s.reg := rfl
@[simp] theorem State.modPrf_drv (f : Prf → Prf) (s : State) : (s.modPrf f).drv = s.drv := rfl
@[simp] theorem State.modPrf_bli (f : Prf → Prf) (s : State) : (s.modPrf f).bli = s.bli := rfl
@[simp] theorem State.modPrf_ptb (f : Prf → Prf) (s : State) : (s.modPrf f).ptb = s.ptb := rfl
@[simp] theorem State.modPrf_shr (f : Prf → Prf) (s : State) : (s.modPrf f).shr = s.shr := rfl
@[simp] theorem State.modPrf_prt (f : Prf → Prf) (s : State) : (s.modPrf f).prt = s.prt := rfl
@[simp] theorem State.modPrf_alk (f : Prf → Prf) (s : State) : (s.modPrf f).alk = s.alk := rfl
@[simp] theorem State.modPrf_pending (f : Prf → Prf) (s : State) : (s.modPrf f).pending = s.pending := rfl
@[simp] theorem State.modPrf_draws (f : Prf → Prf) (s : State) : (s.modPrf f).draws = s.draws := rfl

@[simp] theorem State.modRamp_cyc (f : Ramp → Ramp) (s : State) : (s.modRamp f).cyc = s.cyc := rfl
@[simp] theorem State.modRamp_prf (f : Ramp → Ramp) (s : State) : (s.modRamp f).prf = s.prf := rfl
@[simp] theorem State.modRamp_ramp (f : Ramp → Ramp) (s : State) : (s.modRamp f).ramp = f s.ramp := rfl
@[simp] theorem State.modRamp_lck (f : Ramp → Ramp) (s : State) : (s.modRamp f).lck = s.lck := rfl
@[simp] theorem State.modRamp_tms (f : Ramp → Ramp) (s : State) : (s.modRamp f).tms = s.tms := rfl
@[simp] theorem State.modRamp_reg (f : Ramp → Ramp) (s : State) : (s.modRamp f).reg = s.reg := rfl
@[simp] theorem State.modRamp_drv (f : Ramp → Ramp) (s : State) : (s.modRamp f).drv = s.drv := rfl
@[simp] theorem State.modRamp_bli (f : Ramp → Ramp) (s : State) : (s.modRamp f).bli = s.bli := rfl
@[simp] theorem State.modRamp_ptb (f : Ramp → Ramp) (s : State) : (s.modRamp f).ptb = s.ptb := rfl
@[simp] theorem State.modRamp_shr (f : Ramp → Ramp) (s : State) : (s.modRamp f).shr = s.shr := rfl
@[simp] theorem State.modRamp_prt (f : Ramp → Ramp) (s : State) : (s.modRamp f).prt = s.prt := rfl
@[simp] theorem State.modRamp_alk (f : Ramp → Ramp) (s : State) : (s.modRamp f).alk = s.alk := rfl
@[simp] theorem State.modRamp_pending (f : Ramp → Ramp) (s : State) : (s.modRamp f).pending = s.pending := rfl
@[simp] theorem State.modRamp_draws (f : Ramp → Ramp) (s : State) : (s.modRamp f).draws = s.draws := rfl

@[simp] theorem State.modLck_cyc (f : Lck → Lck) (s : State) : (s.modLck f).cyc = s.cyc := rfl
@[simp] theorem State.modLck_prf (f : Lck → Lck) (s : State) : (s.modLck f).prf = s.prf := rfl
@[simp] theorem State.modLck_ramp (f : Lck → Lck) (s : State) : (s.modLck f).ramp = s.ramp := rfl
@[simp] theorem State.modLck_lck (f : Lck → Lck) (s : State) : (s.modLck f).lck = f s.lck := rfl
@[simp] theorem State.modLck_tms (f : Lck → Lck) (s : State) : (s.modLck f).tms = s.tms := rfl
@[simp] theorem State.modLck_reg (f : Lck → Lck) (s : State) : (s.modLck f).reg = s.reg := rfl
@[simp] theorem State.modLck_drv (f : Lck → Lck) (s : State) : (s.modLck f).drv = s.drv := rfl
@[simp] theorem State.modLck_bli (f : Lck → Lck) (s : State) : (s.modLck f).bli = s.bli := rfl
@[simp] theorem State.modLck_ptb (f : Lck → Lck) (s : State) : (s.modLck f).ptb = s.ptb := rfl
@[simp] theorem State.modLck_shr (f : Lck → Lck) (s : State) : (s.modLck f).shr = s.shr := rfl
@[simp] theorem State.modLck_prt (f : Lck → Lck) (s : State) : (s.modLck f).prt = s.prt := rfl
@[simp] theorem State.modLck_alk (f : Lck → Lck) (s : State) : (s.modLck f).alk = s.alk := rfl
@[simp] theorem State.modLck_pending (f : Lck → Lck) (s : State) : (s.modLck f).pending = s.pending := rfl
@[simp] theorem State.modLck_draws (f : Lck → Lck) (s : State) : (s.modLck f).draws = s.draws := rfl

@[simp] theorem State.modTms_cyc (f : Tms → Tms) (s : State) : (s.modTms f).cyc = s.cyc := rfl
@[simp] theorem State.modTms_prf (f : Tms → Tms) (s : State) : (s.modTms f).prf = s.prf := rfl
@[simp] theorem State.modTms_ramp (f : Tms → Tms) (s : State) : (s.modTms f).ramp = s.ramp := rfl
@[simp] theorem State.modTms_lck (f : Tms → Tms) (s : State) : (s.modTms f).lck = s.lck := rfl
@[simp] theorem State.modTms_tms (f : Tms → Tms) (s : State) : (s.modTms f).tms = f s.tms := rfl
@[simp] theorem State.modTms_reg (f : Tms → Tms) (s : State) : (s.modTms f).reg = s.reg := rfl
@[simp] theorem State.modTms_drv (f : Tms → Tms) (s : State) : (s.modTms f).drv = s.drv := rfl
@[simp] theorem State.modTms_bli (f : Tms → Tms) (s : State) : (s.modTms f).bli = s.bli := rfl
@[simp] theorem State.modTms_ptb (f : Tms → Tms) (s : State) : (s.modTms f).ptb = s.ptb := rfl
@[simp] theorem State.modTms_shr (f : Tms → Tms) (s : State) : (s.modTms f).shr = s.shr := rfl
@[simp] theorem State.modTms_prt (f : Tms → Tms) (s : State) : (s.modTms f).prt = s.prt := rfl
@[simp] theorem State.modTms_alk (f : Tms → Tms) (s : State) : (s.modTms f).alk = s.alk := rfl
@[simp] theorem State.modTms_pending (f : Tms → Tms) (s : State) : (s.modTms f).pending = s.pending := rfl
@[simp] theorem State.modTms_draws (f : Tms → Tms) (s : State) : (s.modTms f).draws = s.draws := rfl

@[simp] theorem State.modReg_cyc (f : Reg → Reg) (s : State) : (s.modReg f).cyc = s.cyc := rfl
@[simp] theorem State.modReg_prf (f : Reg → Reg) (s : State) : (s.modReg f).prf = s.prf := rfl
@[simp] theorem State.modReg_ramp (f : Reg → Reg) (s : State) : (s.modReg f).ramp = s.ramp := rfl
@[simp] theorem State.modReg_lck (f : Reg → Reg) (s : State) : (s.modReg f).lck = s.lck := rfl
@[simp] theorem State.modReg_tms (f : Reg → Reg) (s : State) : (s.modReg f).tms = s.tms := rfl
@[simp] theorem State.modReg_reg (f : Reg → Reg) (s : State) : (s.modReg f).reg = f s.reg := rfl
@[simp] theorem State.modReg_drv (f : Reg → Reg) (s : State) : (s.modReg f).drv = s.drv := rfl
@[simp] theorem State.modReg_bli (f : Reg → Reg) (s : State) : (s.modReg f).bli = s.bli := rfl
@[simp] theorem State.modReg_ptb (f : Reg → Reg) (s : State) : (s.modReg f).ptb = s.ptb := rfl
@[simp] theorem State.modReg_shr (f : Reg → Reg) (s : State) : (s.modReg f).shr = s.shr := rfl
@[simp] theorem State.modReg_prt (f : Reg → Reg) (s : State) : (s.modReg f).prt = s.prt := rfl
@[simp] theorem State.modReg_alk (f : Reg → Reg) (s : State) : (s.modReg f).alk = s.alk := rfl
@[simp] theorem State.modReg_pending (f : Reg → Reg) (s : State) : (s.modReg f).pending = s.pending := rfl
@[simp] theorem State.modReg_draws (f : Reg → Reg) (s : State) : (s.modReg f).draws = s.draws := rfl

@[simp] theorem State.modDrv_cyc (f : Drv → Drv) (s : State) : (s.modDrv f).cyc = s.cyc := rfl
@[simp] theorem State.modDrv_prf (f : Drv → Drv) (s : State) : (s.modDrv f).prf = s.prf := rfl
@[simp] theorem State.modDrv_ramp (f : Drv → Drv) (s : State) : (s.modDrv f).ramp = s.ramp := rfl
@[simp] theorem State.modDrv_lck (f : Drv → Drv) (s : State) : (s.modDrv f).lck = s.lck := rfl
@[simp] theorem State.modDrv_tms (f : Drv → Drv) (s : State) : (s.modDrv f).tms = s.tms := rfl
@[simp] theorem State.modDrv_reg (f : Drv → Drv) (s : State) : (s.modDrv f).reg = s.reg := rfl
@[simp] theorem State.modDrv_drv (f : Drv → Drv) (s : State) : (s.modDrv f).drv = f s.drv := rfl
@[simp] theorem State.modDrv_bli (f : Drv → Drv) (s : State) : (s.modDrv f).bli = s.bli := rfl
@[simp] theorem State.modDrv_ptb (f : Drv → Drv) (s : State) : (s.modDrv f).ptb = s.ptb := rfl
@[simp] theorem State.modDrv_shr (f : Drv → Drv) (s : State) : (s.modDrv f).shr = s.shr := rfl
@[simp] theorem State.modDrv_prt (f : Drv → Drv) (s : State) : (s.modDrv f).prt = s.prt := rfl
@[simp] theorem State.modDrv_alk (f : Drv → Drv) (s : State) : (s.modDrv f).alk = s.alk := rfl
@[simp] theorem State.modDrv_pending (f : Drv → Drv) (s : State) : (s.modDrv f).pending = s.pending := rfl
@[simp] theorem State.modDrv_draws (f : Drv → Drv) (s : State) : (s.modDrv f).draws = s.draws := rfl

@[simp] theorem State.modBli_cyc (f : Bli → Bli) (s : State) : (s.modBli f).cyc = s.cyc := rfl
@[simp] theorem State.modBli_prf (f : Bli → Bli) (s : State) : (s.modBli f).prf = s.prf := rfl
@[simp] theorem State.modBli_ramp (f : Bli → Bli) (s : State) : (s.modBli f).ramp = s.ramp := rfl
@[simp] theorem State.modBli_lck (f : Bli → Bli) (s : State) : (s.modBli f).lck = s.lck := rfl
@[simp] theorem State.modBli_tms (f : Bli → Bli) (s : State) : (s.modBli f).tms = s.tms := rfl
@[simp] theorem State.modBli_reg (f : Bli → Bli) (s : State) : (s.modBli f).reg = s.reg := rfl
@[simp] theorem State.modBli_drv (f : Bli → Bli) (s : State) : (s.modBli f).drv = s.drv := rfl
@[simp] theorem State.modBli_bli (f : Bli → Bli) (s : State) : (s.modBli f).bli = f s.bli := rfl
@[simp] theorem State.modBli_ptb (f : Bli → Bli) (s : State) : (s.modBli f).ptb = s.ptb := rfl
@[simp] theorem State.modBli_shr (f : Bli → Bli) (s : State) : (s.modBli f).shr = s.shr := rfl
@[simp] theorem State.modBli_prt (f : Bli → Bli) (s : State) : (s.modBli f).prt = s.prt := rfl
@[simp] theorem State.modBli_alk (f : Bli → Bli) (s : State) : (s.modBli f).alk = s.alk := rfl
@[simp] theorem State.modBli_pending (f : Bli → Bli) (s : State) : (s.modBli f).pending = s.pending := rfl
@[simp] theorem State.modBli_draws (f : Bli → Bli) (s : State) : (s.modBli f).draws = s.draws := rfl

@[simp] theorem State.modPtb_cyc (f : Ptb → Ptb) (s : State) : (s.modPtb f).cyc = s.cyc := rfl
@[simp] theorem State.modPtb_prf (f : Ptb → Ptb) (s : State) : (s.modPtb f).prf = s.prf := rfl
@[simp] theorem State.modPtb_ramp (f : Ptb → Ptb) (s : State) : (s.modPtb f).ramp = s.ramp := rfl
@[simp] theorem State.modPtb_lck (f : Ptb → Ptb) (s : State) : (s.modPtb f).lck = s.lck := rfl
@[simp] theorem State.modPtb_tms (f : Ptb → Ptb) (s : State) : (s.modPtb f).tms = s.tms := rfl
@[simp] theorem State.modPtb_reg (f : Ptb → Ptb) (s : State) : (s.modPtb f).reg = s.reg := rfl
@[simp] theorem State.modPtb_drv (f : Ptb → Ptb) (s : State) : (s.modPtb f).drv = s.drv := rfl
@[simp] theorem State.modPtb_bli (f : Ptb → Ptb) (s : State) : (s.modPtb f).bli = s.bli := rfl
@[simp] theorem State.modPtb_ptb (f : Ptb → Ptb) (s : State) : (s.modPtb f).ptb = f s.ptb := rfl
@[simp] theorem State.modPtb_shr (f : Ptb → Ptb) (s : State) : (s.modPtb f).shr = s.shr := rfl
@[simp] theorem State.modPtb_prt (f : Ptb → Ptb) (s : State) : (s.modPtb f).prt = s.prt := rfl
@[simp] theorem State.modPtb_alk (f : Ptb → Ptb) (s : State) : (s.modPtb f).alk = s.alk := rfl
@[simp] theorem State.modPtb_pending (f : Ptb → Ptb) (s : State) : (s.modPtb f).pending = s.pending := rfl
@[simp] theorem State.modPtb_draws (f : Ptb → Ptb) (s : State) : (s.modPtb f).draws = s.draws := rfl

@[simp] theorem State.modShr_cyc (f : Shr → Shr) (s : State) : (s.modShr f).cyc = s.cyc := rfl
@[simp] theorem State.modShr_prf (f : Shr → Shr) (s : State) : (s.modShr f).prf = s.prf := rfl
@[simp] theorem State.modShr_ramp (f : Shr → Shr) (s : State) : (s.modShr f).ramp = s.ramp := rfl
@[simp] theorem State.modShr_lck (f : Shr → Shr) (s : State) : (s.modShr f).lck = s.lck := rfl
@[simp] theorem State.modShr_tms (f : Shr → Shr) (s : State) : (s.modShr f).tms = s.tms := rfl
@[simp] theorem State.modShr_reg (f : Shr → Shr) (s : State) : (s.modShr f).reg = s.reg := rfl
@[simp] theorem State.modShr_drv (f : Shr → Shr) (s : State) : (s.modShr f).drv = s.drv := rfl
@[simp] theorem State.modShr_bli (f : Shr → Shr) (s : State) : (s.modShr f).bli = s.bli := rfl
@[simp] theorem State.modShr_ptb (f : Shr → Shr) (s : State) : (s.modShr f).ptb = s.ptb := rfl
@[simp] theorem State.modShr_shr (f : Shr → Shr) (s : State) : (s.modShr f).shr = f s.shr := rfl
@[simp] theorem State.modShr_prt (f : Shr → Shr) (s : State) : (s.modShr f).prt = s.prt := rfl
@[simp] theorem State.modShr_alk (f : Shr → Shr) (s : State) : (s.modShr f).alk = s.alk := rfl
@[simp] theorem State.modShr_pending (f : Shr → Shr) (s : State) : (s.modShr f).pending = s.pending := rfl
@[simp] theorem State.modShr_draws (f : Shr → Shr) (s : State) : (s.modShr f).draws = s.draws := rfl

@[simp] theorem State.modPrt_cyc (f : Prt → Prt) (s : State) : (s.modPrt f).cyc = s.cyc := rfl
@[simp] theorem State.modPrt_prf (f : Prt → Prt) (s : State) : (s.modPrt f).prf = s.prf := rfl
@[simp] theorem State.modPrt_ramp (f : Prt → Prt) (s : State) : (s.modPrt f).ramp = s.ramp := rfl
@[simp] theorem State.modPrt_lck (f : Prt → Prt) (s : State) : (s.modPrt f).lck = s.lck := rfl
@[simp] theorem State.modPrt_tms (f : Prt → Prt) (s : State) : (s.modPrt f).tms = s.tms := rfl
@[simp] theorem State.modPrt_reg (f : Prt → Prt) (s : State) : (s.modPrt f).reg = s.reg := rfl
@[simp] theorem State.modPrt_drv (f : Prt → Prt) (s : State) : (s.modPrt f).drv = s.drv := rfl
@[simp] theorem State.modPrt_bli (f : Prt → Prt) (s : State) : (s.modPrt f).bli = s.bli := rfl
@[simp] theorem State.modPrt_ptb (f : Prt → Prt) (s : State) : (s.modPrt f).ptb = s.ptb := rfl
@[simp] theorem State.modPrt_shr (f : Prt → Prt) (s : State) : (s.modPrt f).shr = s.shr := rfl
@[simp] theorem State.modPrt_prt (f : Prt → Prt) (s : State) : (s.modPrt f).prt = f s.prt := rfl
@[simp] theorem State.modPrt_alk (f : Prt → Prt) (s : State) : (s.modPrt f).alk = s.alk := rfl
@[simp] theorem State.modPrt_pending (f : Prt → Prt) (s : State) : (s.modPrt f).pending = s.pending := rfl
@[simp] theorem State.modPrt_draws (f : Prt → Prt) (s : State) : (s.modPrt f).draws = s.draws := rfl

@[simp] theorem State.modAlk_cyc (f : Alk → Alk) (s : State) : (s.modAlk f).cyc = s.cyc := rfl
@[simp] theorem State.modAlk_prf (f : Alk → Alk) (s : State) : (s.modAlk f).prf = s.prf := rfl
@[simp] theorem State.modAlk_ramp (f : Alk → Alk) (s : State) : (s.modAlk f).ramp = s.ramp := rfl
@[simp] theorem State.modAlk_lck (f : Alk → Alk) (s : State) : (s.modAlk f).lck = s.lck := rfl
@[simp] theorem State.modAlk_tms (f : Alk → Alk) (s : State) : (s.modAlk f).tms = s.tms := rfl
@[simp] theorem State.modAlk_reg (f : Alk → Alk) (s : State) : (s.modAlk f).reg = s.reg := rfl
@[simp] theorem State.modAlk_drv (f : Alk → Alk) (s : State) : (s.modAlk f).drv = s.drv := rfl
@[simp] theorem State.modAlk_bli (f : Alk → Alk) (s : State) : (s.modAlk f).bli = s.bli := rfl
@[simp] theorem State.modAlk_ptb (f : Alk → Alk) (s : State) : (s.modAlk f).ptb = s.ptb := rfl
@[simp] theorem State.modAlk_shr (f : Alk → Alk) (s : State) : (s.modAlk f).shr = s.shr := rfl
@[simp] theorem State.modAlk_prt (f : Alk → Alk) (s : State) : (s.modAlk f).prt = s.prt := rfl
@[simp] theorem State.modAlk_alk (f : Alk → Alk) (s : State) : (s.modAlk f).alk = f s.alk := rfl
@[simp] theorem State.modAlk_pending (f : Alk → Alk) (s : State) : (s.modAlk f).pending = s.pending := rfl
@[simp] theorem State.modAlk_draws (f : Alk → Alk) (s : State) : (s.modAlk f).draws = s.draws := rfl

@[simp] theorem State.setPending_cyc (l : List Instr) (s : State) : (s.setPending l).cyc = s.cyc := rfl
@[simp] theorem State.setPending_prf (l : List Instr) (s : State) : (s.setPending l).prf = s.prf := rfl
@[simp] theorem State.setPending_ramp (l : List Instr) (s : State) : (s.setPending l).ramp = s.ramp := rfl
@[simp] theorem State.setPending_lck (l : List Instr) (s : State) : (s.setPending l).lck = s.lck := rfl
@[simp] theorem State.setPending_tms (l : List Instr) (s : State) : (s.setPending l).tms = s.tms := rfl
@[simp] theorem State.setPending_reg (l : List Instr) (s : State) : (s.setPending l).reg = s.reg := rfl
@[simp] theorem State.setPending_drv (l : List Instr) (s : State) : (s.setPending l).drv = s.drv := rfl
@[simp] theorem State.setPending_bli (l : List Instr) (s : State) : (s.setPending l).bli = s.bli := rfl
@[simp] theorem State.setPending_ptb (l : List Instr) (s : State) : (s.setPending l).ptb = s.ptb := rfl
@[simp] theorem State.setPending_shr (l : List Instr) (s : State) : (s.setPending l).shr = s.shr := rfl
@[simp] theorem State.setPending_prt (l : List Instr) (s : State) : (s.setPending l).prt = s.prt := rfl
@[simp] theorem State.setPending_alk (l : List Instr) (s : State) : (s.setPending l).alk = s.alk := rfl
@[simp] theorem State.setPending_pending (l : List Instr) (s : State) : (s.setPending l).pending = l := rfl
@[simp] theorem State.setPending_draws (l : List Instr) (s : State) : (s.setPending l).draws = s.draws := rfl

@[simp] theorem State.bumpDraws_cyc (s : State) : s.bumpDraws.cyc = s.cyc := rfl
@[simp] theorem State.bumpDraws_prf (s : State) : s.bumpDraws.prf = s.prf := rfl
@[simp] theorem State.bumpDraws_ramp (s : State) : s.bumpDraws.ramp = s.ramp := rfl
@[simp] theorem State.bumpDraws_lck (s : State) : s.bumpDraws.lck = s.lck := rfl
@[simp] theorem State.bumpDraws_tms (s : State) : s.bumpDraws.tms = s.tms := rfl
@[simp] theorem State.bumpDraws_reg (s : State) : s.bumpDraws.reg = s.reg := rfl
@[simp] theorem State.bumpDraws_drv (s : State) : s.bumpDraws.drv = s.drv := rfl
@[simp] theorem State.bumpDraws_bli (s : State) : s.bumpDraws.bli = s.bli := rfl
@[simp] theorem State.bumpDraws_ptb (s : State) : s.bumpDraws.ptb = s.ptb := rfl
@[simp] theorem State.bumpDraws_shr (s : State) : s.bumpDraws.shr = s.shr := rfl
@[simp] theorem State.bumpDraws_prt (s : State) : s.bumpDraws.prt = s.prt := rfl
@[simp] theorem State.bumpDraws_alk (s : State) : s.bumpDraws.alk = s.alk := rfl
@[simp] theorem State.bumpDraws_pending (s : State) : s.bumpDraws.pending = s.pending := rfl
@[simp] theorem State.bumpDraws_draws (s : State) : s.bumpDraws.draws = s.draws + 1 := rfl

@[simp] theorem State.afterReset_cyc (c : ResetCause) (d l b : Bool) (q : List Instr) (n : Nat) :
    (State.afterReset c d l b q n).cyc = Cyc.reset := rfl
@[simp] theorem State.afterReset_prf (c : ResetCause) (d l b : Bool) (q : List Instr) (n : Nat) :
    (State.afterReset c d l b q n).prf = Prf.reset := rfl
@[simp] theorem State.afterReset_ramp (c : ResetCause) (d l b : Bool) (q : List Instr) (n : Nat) :
    (State.afterReset c d l b q n).ramp = Ramp.reset := rfl
@[simp] theorem State.afterReset_lck (c : ResetCause) (d l b : Bool) (q : List Instr) (n : Nat) :
    (State.afterReset c d l b q n).lck = Lck.reset d l := rfl
@[simp] theorem State.afterReset_tms (c : ResetCause) (d l b : Bool) (q : List Instr) (n : Nat) :
    (State.afterReset c d l b q n).tms = Tms.reset := rfl
@[simp] theorem State.afterReset_reg (c : ResetCause) (d l b : Bool) (q : List Instr) (n : Nat) :
    (State.afterReset c d l b q n).reg = Reg.reset := rfl
@[simp] theorem State.afterReset_drv (c : ResetCause) (d l b : Bool) (q : List Instr) (n : Nat) :
    (State.afterReset c d l b q n).drv = Drv.reset := rfl
@[simp] theorem State.afterReset_bli (c : ResetCause) (d l b : Bool) (q : List Instr) (n : Nat) :
    (State.afterReset c d l b q n).bli = Bli.reset := rfl
@[simp] theorem State.afterReset_ptb (c : ResetCause) (d l b : Bool) (q : List Instr) (n : Nat) :
    (State.afterReset c d l b q n).ptb = Ptb.reset := rfl
@[simp] theorem State.afterReset_shr (c : ResetCause) (d l b : Bool) (q : List Instr) (n : Nat) :
    (State.afterReset c d l b q n).shr = Shr.reset := rfl
@[simp] theorem State.afterReset_prt (c : ResetCause) (d l b : Bool) (q : List Instr) (n : Nat) :
    (State.afterReset c d l b q n).prt = Prt.reset := rfl
@[simp] theorem State.afterReset_alk (c : ResetCause) (d l b : Bool) (q : List Instr) (n : Nat) :
    (State.afterReset c d l b q n).alk = Alk.reset c b := rfl
@[simp] theorem State.afterReset_pending (c : ResetCause) (d l b : Bool) (q : List Instr) (n : Nat) :
    (State.afterReset c d l b q n).pending = q := rfl
@[simp] theorem State.afterReset_draws (c : ResetCause) (d l b : Bool) (q : List Instr) (n : Nat) :
    (State.afterReset c d l b q n).draws = n := rfl

end Sys2Proof.Machine
end

