-- ==== Sys2Proof/Laws/FrameOps.lean ====
section
/-! SUPPORT. What the shared operations between blocks leave as they were. -/

namespace Sys2Proof.Machine

@[simp] theorem alkLines_frame (s : State) :
    (alkLines s).cyc = s.cyc ∧ (alkLines s).prf = s.prf ∧ (alkLines s).ramp = s.ramp ∧ (alkLines s).lck = s.lck ∧
    (alkLines s).tms = s.tms ∧ (alkLines s).reg = s.reg ∧ (alkLines s).drv = s.drv ∧ (alkLines s).bli = s.bli ∧
    (alkLines s).ptb = s.ptb ∧ (alkLines s).shr = s.shr ∧ (alkLines s).prt = s.prt ∧
    (alkLines s).pending = s.pending ∧ (alkLines s).draws = s.draws ∧ (alkLines s).alk.items = s.alk.items ∧
    (alkLines s).alk.committed = s.alk.committed ∧ (alkLines s).alk.seconds = s.alk.seconds ∧
    (alkLines s).alk.resetPending = s.alk.resetPending ∧ (alkLines s).alk.link = s.alk.link := by
  simp [alkLines]

@[simp] theorem alkRecord_frame (k : EventKind) (d : Half) (s : State) :
    (alkRecord k d s).cyc = s.cyc ∧ (alkRecord k d s).prf = s.prf ∧ (alkRecord k d s).ramp = s.ramp ∧
    (alkRecord k d s).lck = s.lck ∧ (alkRecord k d s).tms = s.tms ∧ (alkRecord k d s).reg = s.reg ∧
    (alkRecord k d s).drv = s.drv ∧ (alkRecord k d s).bli = s.bli ∧ (alkRecord k d s).ptb = s.ptb ∧
    (alkRecord k d s).shr = s.shr ∧ (alkRecord k d s).prt = s.prt ∧ (alkRecord k d s).pending = s.pending ∧
    (alkRecord k d s).draws = s.draws ∧ (alkRecord k d s).alk.items = s.alk.items ∧
    (alkRecord k d s).alk.committed = s.alk.committed ∧ (alkRecord k d s).alk.seconds = s.alk.seconds ∧
    (alkRecord k d s).alk.resetPending = s.alk.resetPending ∧ (alkRecord k d s).alk.link = s.alk.link := by
  simp only [alkRecord]
  repeat' split
  all_goals simp

@[simp] theorem bliSetReason_frame (k : FrameKind) (s : State) :
    (bliSetReason k s).cyc = s.cyc ∧ (bliSetReason k s).prf = s.prf ∧ (bliSetReason k s).ramp = s.ramp ∧
    (bliSetReason k s).lck = s.lck ∧ (bliSetReason k s).tms = s.tms ∧ (bliSetReason k s).reg = s.reg ∧
    (bliSetReason k s).drv = s.drv ∧ (bliSetReason k s).ptb = s.ptb ∧ (bliSetReason k s).shr = s.shr ∧
    (bliSetReason k s).prt = s.prt ∧ (bliSetReason k s).alk = s.alk ∧ (bliSetReason k s).pending = s.pending ∧
    (bliSetReason k s).draws = s.draws ∧ (bliSetReason k s).bli.attempt = s.bli.attempt ∧
    (bliSetReason k s).bli.output = s.bli.output ∧ (bliSetReason k s).bli.frame = s.bli.frame ∧
    (bliSetReason k s).bli.errors = s.bli.errors ∧ (bliSetReason k s).bli.unreliable = s.bli.unreliable ∧
    (bliSetReason k s).bli.lineHeld = s.bli.lineHeld ∧ (bliSetReason k s).bli.txStuck = s.bli.txStuck ∧
    (bliSetReason k s).bli.numberConflict = s.bli.numberConflict ∧ (bliSetReason k s).bli.silent = s.bli.silent ∧
    (bliSetReason k s).bli.periodTimer = s.bli.periodTimer ∧
    (bliSetReason k s).bli.departureTimer = s.bli.departureTimer := by
  simp only [bliSetReason]
  repeat' split
  all_goals simp

@[simp] theorem prtGone_frame (c : FaultCode) (s : State) :
    (prtGone c s).cyc = s.cyc ∧ (prtGone c s).prf = s.prf ∧ (prtGone c s).ramp = s.ramp ∧
    (prtGone c s).lck = s.lck ∧ (prtGone c s).tms = s.tms ∧ (prtGone c s).reg = s.reg ∧ (prtGone c s).drv = s.drv ∧
    (prtGone c s).bli = s.bli ∧ (prtGone c s).ptb = s.ptb ∧ (prtGone c s).shr = s.shr ∧
    (prtGone c s).pending = s.pending ∧ (prtGone c s).draws = s.draws ∧
    (prtGone c s).prt.blindRunning = s.prt.blindRunning ∧ (prtGone c s).prt.blindCount = s.prt.blindCount ∧
    (prtGone c s).prt.secondMs = s.prt.secondMs ∧ (prtGone c s).alk.items = s.alk.items ∧
    (prtGone c s).alk.committed = s.alk.committed ∧ (prtGone c s).alk.seconds = s.alk.seconds ∧
    (prtGone c s).alk.resetPending = s.alk.resetPending ∧ (prtGone c s).alk.link = s.alk.link := by
  simp only [prtGone]
  repeat' split
  all_goals simp

@[simp] theorem drvOutputs_frame (o : PerElement Bool) (s : State) :
    (drvOutputs o s).cyc = s.cyc ∧ (drvOutputs o s).prf = s.prf ∧ (drvOutputs o s).ramp = s.ramp ∧
    (drvOutputs o s).lck = s.lck ∧ (drvOutputs o s).tms = s.tms ∧ (drvOutputs o s).reg = s.reg ∧
    (drvOutputs o s).bli = s.bli ∧ (drvOutputs o s).ptb = s.ptb ∧ (drvOutputs o s).shr = s.shr ∧
    (drvOutputs o s).alk = s.alk ∧ (drvOutputs o s).pending = s.pending ∧ (drvOutputs o s).draws = s.draws ∧
    (drvOutputs o s).drv.state = s.drv.state ∧ (drvOutputs o s).drv.window = s.drv.window ∧
    (drvOutputs o s).drv.limited = s.drv.limited ∧ (drvOutputs o s).drv.last = s.drv.last ∧
    (drvOutputs o s).drv.overPresent = s.drv.overPresent ∧ (drvOutputs o s).drv.stuckPresent = s.drv.stuckPresent ∧
    (drvOutputs o s).drv.main = s.drv.main ∧ (drvOutputs o s).drv.permitted = s.drv.permitted ∧
    (drvOutputs o s).prt.faults = s.prt.faults ∧ (drvOutputs o s).prt.blindRunning = s.prt.blindRunning ∧
    (drvOutputs o s).prt.blindCount = s.prt.blindCount ∧ (drvOutputs o s).prt.secondMs = s.prt.secondMs := by
  simp [drvOutputs]

@[simp] theorem drvAbandon_frame (s : State) :
    (drvAbandon s).cyc = s.cyc ∧ (drvAbandon s).prf = s.prf ∧ (drvAbandon s).ramp = s.ramp ∧
    (drvAbandon s).lck = s.lck ∧ (drvAbandon s).tms = s.tms ∧ (drvAbandon s).reg = s.reg ∧
    (drvAbandon s).bli = s.bli ∧ (drvAbandon s).ptb = s.ptb ∧ (drvAbandon s).shr = s.shr ∧
    (drvAbandon s).alk = s.alk ∧ (drvAbandon s).pending = s.pending ∧ (drvAbandon s).draws = s.draws ∧
    (drvAbandon s).drv.state = s.drv.state ∧ (drvAbandon s).drv.window = s.drv.window ∧
    (drvAbandon s).drv.limited = s.drv.limited ∧ (drvAbandon s).drv.last = s.drv.last ∧
    (drvAbandon s).drv.overPresent = s.drv.overPresent ∧ (drvAbandon s).drv.stuckPresent = s.drv.stuckPresent ∧
    (drvAbandon s).drv.main = s.drv.main ∧ (drvAbandon s).drv.permitted = s.drv.permitted ∧
    (drvAbandon s).prt.faults = s.prt.faults ∧ (drvAbandon s).prt.blindRunning = s.prt.blindRunning ∧
    (drvAbandon s).prt.blindCount = s.prt.blindCount ∧ (drvAbandon s).prt.secondMs = s.prt.secondMs := by
  simp [drvAbandon]

@[simp] theorem drvLowGone_frame (s : State) :
    (drvLowGone s).cyc = s.cyc ∧ (drvLowGone s).prf = s.prf ∧ (drvLowGone s).ramp = s.ramp ∧
    (drvLowGone s).lck = s.lck ∧ (drvLowGone s).tms = s.tms ∧ (drvLowGone s).reg = s.reg ∧
    (drvLowGone s).bli = s.bli ∧ (drvLowGone s).ptb = s.ptb ∧ (drvLowGone s).shr = s.shr ∧
    (drvLowGone s).pending = s.pending ∧ (drvLowGone s).draws = s.draws ∧ (drvLowGone s).drv.state = s.drv.state ∧
    (drvLowGone s).drv.window = s.drv.window ∧ (drvLowGone s).drv.limited = s.drv.limited ∧
    (drvLowGone s).drv.last = s.drv.last ∧ (drvLowGone s).drv.overPresent = s.drv.overPresent ∧
    (drvLowGone s).drv.stuckPresent = s.drv.stuckPresent ∧ (drvLowGone s).drv.main = s.drv.main ∧
    (drvLowGone s).drv.permitted = s.drv.permitted ∧ (drvLowGone s).drv.outputs = s.drv.outputs ∧
    (drvLowGone s).prt.blindRunning = s.prt.blindRunning ∧ (drvLowGone s).prt.blindCount = s.prt.blindCount ∧
    (drvLowGone s).prt.secondMs = s.prt.secondMs ∧ (drvLowGone s).alk.items = s.alk.items ∧
    (drvLowGone s).alk.committed = s.alk.committed ∧ (drvLowGone s).alk.seconds = s.alk.seconds ∧
    (drvLowGone s).alk.resetPending = s.alk.resetPending ∧ (drvLowGone s).alk.link = s.alk.link := by
  simp only [drvLowGone]
  repeat' split
  all_goals simp

@[simp] theorem drvMain_frame (s : State) :
    (drvMain s).cyc = s.cyc ∧ (drvMain s).prf = s.prf ∧ (drvMain s).ramp = s.ramp ∧ (drvMain s).lck = s.lck ∧
    (drvMain s).tms = s.tms ∧ (drvMain s).reg = s.reg ∧ (drvMain s).bli = s.bli ∧ (drvMain s).ptb = s.ptb ∧
    (drvMain s).shr = s.shr ∧ (drvMain s).pending = s.pending ∧ (drvMain s).draws = s.draws ∧
    (drvMain s).drv.state = s.drv.state ∧ (drvMain s).drv.window = s.drv.window ∧
    (drvMain s).drv.limited = s.drv.limited ∧ (drvMain s).drv.last = s.drv.last ∧
    (drvMain s).drv.overPresent = s.drv.overPresent ∧ (drvMain s).drv.stuckPresent = s.drv.stuckPresent ∧
    (drvMain s).drv.permitted = s.drv.permitted ∧ (drvMain s).prt.blindRunning = s.prt.blindRunning ∧
    (drvMain s).prt.blindCount = s.prt.blindCount ∧ (drvMain s).prt.secondMs = s.prt.secondMs ∧
    (drvMain s).alk.items = s.alk.items ∧ (drvMain s).alk.committed = s.alk.committed ∧
    (drvMain s).alk.seconds = s.alk.seconds ∧ (drvMain s).alk.resetPending = s.alk.resetPending ∧
    (drvMain s).alk.link = s.alk.link := by
  simp only [drvMain]
  repeat' split
  all_goals simp

@[simp] theorem regFan_frame (s : State) :
    (regFan s).cyc = s.cyc ∧ (regFan s).prf = s.prf ∧ (regFan s).ramp = s.ramp ∧ (regFan s).lck = s.lck ∧
    (regFan s).tms = s.tms ∧ (regFan s).drv = s.drv ∧ (regFan s).bli = s.bli ∧ (regFan s).ptb = s.ptb ∧
    (regFan s).shr = s.shr ∧ (regFan s).prt = s.prt ∧ (regFan s).alk = s.alk ∧ (regFan s).pending = s.pending ∧
    (regFan s).draws = s.draws ∧ (regFan s).reg.demand = s.reg.demand ∧ (regFan s).reg.integral = s.reg.integral ∧
    (regFan s).reg.limited = s.reg.limited ∧ (regFan s).reg.ruleLevel = s.reg.ruleLevel ∧
    (regFan s).reg.coolTimer = s.reg.coolTimer := by
  simp [regFan]

@[simp] theorem regCoolStart_frame (s : State) :
    (regCoolStart s).cyc = s.cyc ∧ (regCoolStart s).prf = s.prf ∧ (regCoolStart s).ramp = s.ramp ∧
    (regCoolStart s).lck = s.lck ∧ (regCoolStart s).tms = s.tms ∧ (regCoolStart s).drv = s.drv ∧
    (regCoolStart s).bli = s.bli ∧ (regCoolStart s).ptb = s.ptb ∧ (regCoolStart s).shr = s.shr ∧
    (regCoolStart s).prt = s.prt ∧ (regCoolStart s).alk = s.alk ∧ (regCoolStart s).pending = s.pending ∧
    (regCoolStart s).draws = s.draws ∧ (regCoolStart s).reg.demand = s.reg.demand ∧
    (regCoolStart s).reg.integral = s.reg.integral ∧ (regCoolStart s).reg.limited = s.reg.limited ∧
    (regCoolStart s).reg.fan = s.reg.fan := by
  simp [regCoolStart]

@[simp] theorem regCoolStop_frame (s : State) :
    (regCoolStop s).cyc = s.cyc ∧ (regCoolStop s).prf = s.prf ∧ (regCoolStop s).ramp = s.ramp ∧
    (regCoolStop s).lck = s.lck ∧ (regCoolStop s).tms = s.tms ∧ (regCoolStop s).drv = s.drv ∧
    (regCoolStop s).bli = s.bli ∧ (regCoolStop s).ptb = s.ptb ∧ (regCoolStop s).shr = s.shr ∧
    (regCoolStop s).prt = s.prt ∧ (regCoolStop s).alk = s.alk ∧ (regCoolStop s).pending = s.pending ∧
    (regCoolStop s).draws = s.draws ∧ (regCoolStop s).reg.demand = s.reg.demand ∧
    (regCoolStop s).reg.integral = s.reg.integral ∧ (regCoolStop s).reg.limited = s.reg.limited ∧
    (regCoolStop s).reg.fan = s.reg.fan ∧ (regCoolStop s).reg.ruleLevel = s.reg.ruleLevel := by
  simp [regCoolStop]

@[simp] theorem regPhase_frame (old new : Phase) (s : State) :
    (regPhase old new s).cyc = s.cyc ∧ (regPhase old new s).prf = s.prf ∧ (regPhase old new s).ramp = s.ramp ∧
    (regPhase old new s).lck = s.lck ∧ (regPhase old new s).tms = s.tms ∧ (regPhase old new s).drv = s.drv ∧
    (regPhase old new s).bli = s.bli ∧ (regPhase old new s).ptb = s.ptb ∧ (regPhase old new s).shr = s.shr ∧
    (regPhase old new s).prt = s.prt ∧ (regPhase old new s).alk = s.alk ∧
    (regPhase old new s).pending = s.pending ∧ (regPhase old new s).draws = s.draws ∧
    (regPhase old new s).reg.demand = s.reg.demand ∧ (regPhase old new s).reg.integral = s.reg.integral ∧
    (regPhase old new s).reg.limited = s.reg.limited ∧ (regPhase old new s).reg.fan = s.reg.fan := by
  simp only [regPhase]
  repeat' split
  all_goals simp

@[simp] theorem lckRecord_frame (s : State) :
    (lckRecord s).cyc = s.cyc ∧ (lckRecord s).prf = s.prf ∧ (lckRecord s).ramp = s.ramp ∧
    (lckRecord s).lck = s.lck ∧ (lckRecord s).tms = s.tms ∧ (lckRecord s).reg = s.reg ∧ (lckRecord s).drv = s.drv ∧
    (lckRecord s).bli = s.bli ∧ (lckRecord s).ptb = s.ptb ∧ (lckRecord s).shr = s.shr ∧ (lckRecord s).prt = s.prt ∧
    (lckRecord s).pending = s.pending ∧ (lckRecord s).draws = s.draws ∧ (lckRecord s).alk.items = s.alk.items ∧
    (lckRecord s).alk.committed = s.alk.committed ∧ (lckRecord s).alk.seconds = s.alk.seconds ∧
    (lckRecord s).alk.resetPending = s.alk.resetPending ∧ (lckRecord s).alk.link = s.alk.link := by
  simp only [lckRecord]
  repeat' split
  all_goals simp

@[simp] theorem lckSetState_frame (st : LockState) (s : State) :
    (lckSetState st s).cyc = s.cyc ∧ (lckSetState st s).prf = s.prf ∧ (lckSetState st s).ramp = s.ramp ∧
    (lckSetState st s).tms = s.tms ∧ (lckSetState st s).reg = s.reg ∧ (lckSetState st s).bli = s.bli ∧
    (lckSetState st s).ptb = s.ptb ∧ (lckSetState st s).shr = s.shr ∧ (lckSetState st s).pending = s.pending ∧
    (lckSetState st s).draws = s.draws ∧ (lckSetState st s).lck.attempts = s.lck.attempts ∧
    (lckSetState st s).lck.motor = s.lck.motor ∧ (lckSetState st s).lck.startUp = s.lck.startUp ∧
    (lckSetState st s).lck.door = s.lck.door ∧ (lckSetState st s).lck.latch = s.lck.latch ∧
    (lckSetState st s).lck.stage = s.lck.stage ∧ (lckSetState st s).lck.testPass = s.lck.testPass ∧
    (lckSetState st s).drv.state = s.drv.state ∧ (lckSetState st s).drv.window = s.drv.window ∧
    (lckSetState st s).drv.limited = s.drv.limited ∧ (lckSetState st s).drv.last = s.drv.last ∧
    (lckSetState st s).drv.overPresent = s.drv.overPresent ∧
    (lckSetState st s).drv.stuckPresent = s.drv.stuckPresent ∧ (lckSetState st s).drv.permitted = s.drv.permitted ∧
    (lckSetState st s).prt.blindRunning = s.prt.blindRunning ∧
    (lckSetState st s).prt.blindCount = s.prt.blindCount ∧ (lckSetState st s).prt.secondMs = s.prt.secondMs ∧
    (lckSetState st s).alk.items = s.alk.items ∧ (lckSetState st s).alk.committed = s.alk.committed ∧
    (lckSetState st s).alk.seconds = s.alk.seconds ∧ (lckSetState st s).alk.resetPending = s.alk.resetPending ∧
    (lckSetState st s).alk.link = s.alk.link := by
  simp only [lckSetState]
  repeat' split
  all_goals simp

@[simp] theorem lckSetJammed_frame (v : Bool) (s : State) :
    (lckSetJammed v s).cyc = s.cyc ∧ (lckSetJammed v s).prf = s.prf ∧ (lckSetJammed v s).ramp = s.ramp ∧
    (lckSetJammed v s).tms = s.tms ∧ (lckSetJammed v s).reg = s.reg ∧ (lckSetJammed v s).bli = s.bli ∧
    (lckSetJammed v s).ptb = s.ptb ∧ (lckSetJammed v s).shr = s.shr ∧ (lckSetJammed v s).pending = s.pending ∧
    (lckSetJammed v s).draws = s.draws ∧ (lckSetJammed v s).lck.attempts = s.lck.attempts ∧
    (lckSetJammed v s).lck.motor = s.lck.motor ∧ (lckSetJammed v s).lck.startUp = s.lck.startUp ∧
    (lckSetJammed v s).lck.door = s.lck.door ∧ (lckSetJammed v s).lck.latch = s.lck.latch ∧
    (lckSetJammed v s).lck.stage = s.lck.stage ∧ (lckSetJammed v s).lck.testPass = s.lck.testPass ∧
    (lckSetJammed v s).drv.state = s.drv.state ∧ (lckSetJammed v s).drv.window = s.drv.window ∧
    (lckSetJammed v s).drv.limited = s.drv.limited ∧ (lckSetJammed v s).drv.last = s.drv.last ∧
    (lckSetJammed v s).drv.overPresent = s.drv.overPresent ∧
    (lckSetJammed v s).drv.stuckPresent = s.drv.stuckPresent ∧ (lckSetJammed v s).drv.permitted = s.drv.permitted ∧
    (lckSetJammed v s).prt.blindRunning = s.prt.blindRunning ∧
    (lckSetJammed v s).prt.blindCount = s.prt.blindCount ∧ (lckSetJammed v s).prt.secondMs = s.prt.secondMs ∧
    (lckSetJammed v s).alk.items = s.alk.items ∧ (lckSetJammed v s).alk.committed = s.alk.committed ∧
    (lckSetJammed v s).alk.seconds = s.alk.seconds ∧ (lckSetJammed v s).alk.resetPending = s.alk.resetPending ∧
    (lckSetJammed v s).alk.link = s.alk.link := by
  simp only [lckSetJammed]
  repeat' split
  all_goals simp

@[simp] theorem lckTripped_frame (s : State) :
    (lckTripped s).cyc = s.cyc ∧ (lckTripped s).prf = s.prf ∧ (lckTripped s).ramp = s.ramp ∧
    (lckTripped s).tms = s.tms ∧ (lckTripped s).reg = s.reg ∧ (lckTripped s).bli = s.bli ∧
    (lckTripped s).ptb = s.ptb ∧ (lckTripped s).shr = s.shr ∧ (lckTripped s).pending = s.pending ∧
    (lckTripped s).draws = s.draws ∧ (lckTripped s).lck.attempts = s.lck.attempts ∧
    (lckTripped s).lck.motor = s.lck.motor ∧ (lckTripped s).lck.startUp = s.lck.startUp ∧
    (lckTripped s).lck.door = s.lck.door ∧ (lckTripped s).lck.latch = s.lck.latch ∧
    (lckTripped s).lck.stage = s.lck.stage ∧ (lckTripped s).lck.testPass = s.lck.testPass ∧
    (lckTripped s).drv.state = s.drv.state ∧ (lckTripped s).drv.window = s.drv.window ∧
    (lckTripped s).drv.limited = s.drv.limited ∧ (lckTripped s).drv.last = s.drv.last ∧
    (lckTripped s).drv.overPresent = s.drv.overPresent ∧ (lckTripped s).drv.stuckPresent = s.drv.stuckPresent ∧
    (lckTripped s).drv.permitted = s.drv.permitted ∧ (lckTripped s).prt.blindRunning = s.prt.blindRunning ∧
    (lckTripped s).prt.blindCount = s.prt.blindCount ∧ (lckTripped s).prt.secondMs = s.prt.secondMs ∧
    (lckTripped s).alk.items = s.alk.items ∧ (lckTripped s).alk.committed = s.alk.committed ∧
    (lckTripped s).alk.seconds = s.alk.seconds ∧ (lckTripped s).alk.resetPending = s.alk.resetPending ∧
    (lckTripped s).alk.link = s.alk.link := by
  simp only [lckTripped]
  repeat' split
  all_goals simp

@[simp] theorem drvPhase_frame (s : State) :
    (drvPhase s).cyc = s.cyc ∧ (drvPhase s).prf = s.prf ∧ (drvPhase s).ramp = s.ramp ∧ (drvPhase s).lck = s.lck ∧
    (drvPhase s).tms = s.tms ∧ (drvPhase s).reg = s.reg ∧ (drvPhase s).bli = s.bli ∧ (drvPhase s).ptb = s.ptb ∧
    (drvPhase s).shr = s.shr ∧ (drvPhase s).prt = s.prt ∧ (drvPhase s).alk = s.alk ∧
    (drvPhase s).pending = s.pending ∧ (drvPhase s).draws = s.draws ∧ (drvPhase s).drv.state = s.drv.state ∧
    (drvPhase s).drv.window = s.drv.window ∧ (drvPhase s).drv.limited = s.drv.limited ∧
    (drvPhase s).drv.last = s.drv.last ∧ (drvPhase s).drv.overPresent = s.drv.overPresent ∧
    (drvPhase s).drv.stuckPresent = s.drv.stuckPresent ∧ (drvPhase s).drv.main = s.drv.main ∧
    (drvPhase s).drv.permitted = s.drv.permitted ∧ (drvPhase s).drv.outputs = s.drv.outputs := by
  simp [drvPhase]

@[simp] theorem cycSetPhase_frame (p : Phase) (s : State) :
    (cycSetPhase p s).prf = s.prf ∧ (cycSetPhase p s).ramp = s.ramp ∧ (cycSetPhase p s).tms = s.tms ∧
    (cycSetPhase p s).bli = s.bli ∧ (cycSetPhase p s).ptb = s.ptb ∧ (cycSetPhase p s).shr = s.shr ∧
    (cycSetPhase p s).pending = s.pending ∧ (cycSetPhase p s).draws = s.draws ∧
    (cycSetPhase p s).cyc.record = s.cyc.record ∧ (cycSetPhase p s).lck.attempts = s.lck.attempts ∧
    (cycSetPhase p s).lck.motor = s.lck.motor ∧ (cycSetPhase p s).lck.startUp = s.lck.startUp ∧
    (cycSetPhase p s).lck.door = s.lck.door ∧ (cycSetPhase p s).lck.latch = s.lck.latch ∧
    (cycSetPhase p s).lck.stage = s.lck.stage ∧ (cycSetPhase p s).lck.testPass = s.lck.testPass ∧
    (cycSetPhase p s).reg.demand = s.reg.demand ∧ (cycSetPhase p s).reg.integral = s.reg.integral ∧
    (cycSetPhase p s).reg.limited = s.reg.limited ∧ (cycSetPhase p s).drv.state = s.drv.state ∧
    (cycSetPhase p s).drv.window = s.drv.window ∧ (cycSetPhase p s).drv.limited = s.drv.limited ∧
    (cycSetPhase p s).drv.last = s.drv.last ∧ (cycSetPhase p s).drv.overPresent = s.drv.overPresent ∧
    (cycSetPhase p s).drv.stuckPresent = s.drv.stuckPresent ∧ (cycSetPhase p s).drv.permitted = s.drv.permitted ∧
    (cycSetPhase p s).prt.blindRunning = s.prt.blindRunning ∧ (cycSetPhase p s).prt.blindCount = s.prt.blindCount ∧
    (cycSetPhase p s).prt.secondMs = s.prt.secondMs ∧ (cycSetPhase p s).alk.items = s.alk.items ∧
    (cycSetPhase p s).alk.committed = s.alk.committed ∧ (cycSetPhase p s).alk.seconds = s.alk.seconds ∧
    (cycSetPhase p s).alk.resetPending = s.alk.resetPending ∧ (cycSetPhase p s).alk.link = s.alk.link := by
  simp only [cycSetPhase]
  repeat' split
  all_goals simp

@[simp] theorem cycOutcome_frame (o : CycleOutcome) (s : State) :
    (cycOutcome o s).prf = s.prf ∧ (cycOutcome o s).ramp = s.ramp ∧ (cycOutcome o s).lck = s.lck ∧
    (cycOutcome o s).tms = s.tms ∧ (cycOutcome o s).reg = s.reg ∧ (cycOutcome o s).drv = s.drv ∧
    (cycOutcome o s).bli = s.bli ∧ (cycOutcome o s).ptb = s.ptb ∧ (cycOutcome o s).shr = s.shr ∧
    (cycOutcome o s).prt = s.prt ∧ (cycOutcome o s).alk = s.alk ∧ (cycOutcome o s).pending = s.pending ∧
    (cycOutcome o s).draws = s.draws ∧ (cycOutcome o s).cyc.phase = s.cyc.phase ∧
    (cycOutcome o s).cyc.abortPending = s.cyc.abortPending := by
  simp [cycOutcome]

@[simp] theorem cycFirstFault_frame (c : FaultCode) (s : State) :
    (cycFirstFault c s).prf = s.prf ∧ (cycFirstFault c s).ramp = s.ramp ∧ (cycFirstFault c s).lck = s.lck ∧
    (cycFirstFault c s).tms = s.tms ∧ (cycFirstFault c s).reg = s.reg ∧ (cycFirstFault c s).drv = s.drv ∧
    (cycFirstFault c s).bli = s.bli ∧ (cycFirstFault c s).ptb = s.ptb ∧ (cycFirstFault c s).shr = s.shr ∧
    (cycFirstFault c s).prt = s.prt ∧ (cycFirstFault c s).alk = s.alk ∧ (cycFirstFault c s).pending = s.pending ∧
    (cycFirstFault c s).draws = s.draws ∧ (cycFirstFault c s).cyc.phase = s.cyc.phase ∧
    (cycFirstFault c s).cyc.abortPending = s.cyc.abortPending := by
  simp [cycFirstFault]

@[simp] theorem cycClearRecord_frame (o : CycleOutcome) (s : State) :
    (cycClearRecord o s).prf = s.prf ∧ (cycClearRecord o s).ramp = s.ramp ∧ (cycClearRecord o s).lck = s.lck ∧
    (cycClearRecord o s).tms = s.tms ∧ (cycClearRecord o s).reg = s.reg ∧ (cycClearRecord o s).drv = s.drv ∧
    (cycClearRecord o s).bli = s.bli ∧ (cycClearRecord o s).ptb = s.ptb ∧ (cycClearRecord o s).shr = s.shr ∧
    (cycClearRecord o s).prt = s.prt ∧ (cycClearRecord o s).alk = s.alk ∧
    (cycClearRecord o s).pending = s.pending ∧ (cycClearRecord o s).draws = s.draws ∧
    (cycClearRecord o s).cyc.phase = s.cyc.phase := by
  simp [cycClearRecord]

@[simp] theorem cycCountShed_frame (s : State) :
    (cycCountShed s).prf = s.prf ∧ (cycCountShed s).ramp = s.ramp ∧ (cycCountShed s).lck = s.lck ∧
    (cycCountShed s).tms = s.tms ∧ (cycCountShed s).reg = s.reg ∧ (cycCountShed s).drv = s.drv ∧
    (cycCountShed s).bli = s.bli ∧ (cycCountShed s).ptb = s.ptb ∧ (cycCountShed s).shr = s.shr ∧
    (cycCountShed s).prt = s.prt ∧ (cycCountShed s).alk = s.alk ∧ (cycCountShed s).pending = s.pending ∧
    (cycCountShed s).draws = s.draws ∧ (cycCountShed s).cyc.phase = s.cyc.phase ∧
    (cycCountShed s).cyc.abortPending = s.cyc.abortPending := by
  simp only [cycCountShed]
  repeat' split
  all_goals simp

@[simp] theorem shrDropClaim_frame (s : State) :
    (shrDropClaim s).cyc = s.cyc ∧ (shrDropClaim s).prf = s.prf ∧ (shrDropClaim s).ramp = s.ramp ∧
    (shrDropClaim s).lck = s.lck ∧ (shrDropClaim s).tms = s.tms ∧ (shrDropClaim s).reg = s.reg ∧
    (shrDropClaim s).drv = s.drv ∧ (shrDropClaim s).bli = s.bli ∧ (shrDropClaim s).ptb = s.ptb ∧
    (shrDropClaim s).prt = s.prt ∧ (shrDropClaim s).alk = s.alk ∧ (shrDropClaim s).pending = s.pending ∧
    (shrDropClaim s).draws = s.draws ∧ (shrDropClaim s).shr.state = s.shr.state ∧
    (shrDropClaim s).shr.listenTimer = s.shr.listenTimer ∧ (shrDropClaim s).shr.causes = s.shr.causes ∧
    (shrDropClaim s).shr.solo = s.shr.solo ∧ (shrDropClaim s).shr.ho = s.shr.ho ∧
    (shrDropClaim s).shr.wo = s.shr.wo ∧ (shrDropClaim s).shr.sums = s.shr.sums ∧
    (shrDropClaim s).shr.slot = s.shr.slot ∧ (shrDropClaim s).shr.request = s.shr.request ∧
    (shrDropClaim s).shr.valve = s.shr.valve := by
  simp [shrDropClaim]

@[simp] theorem shrShed_frame (h : Nat) (s : State) :
    (shrShed h s).prf = s.prf ∧ (shrShed h s).ramp = s.ramp ∧ (shrShed h s).lck = s.lck ∧
    (shrShed h s).tms = s.tms ∧ (shrShed h s).reg = s.reg ∧ (shrShed h s).drv = s.drv ∧ (shrShed h s).ptb = s.ptb ∧
    (shrShed h s).prt = s.prt ∧ (shrShed h s).alk = s.alk ∧ (shrShed h s).pending = s.pending ∧
    (shrShed h s).draws = s.draws ∧ (shrShed h s).cyc.phase = s.cyc.phase ∧
    (shrShed h s).cyc.abortPending = s.cyc.abortPending ∧ (shrShed h s).bli.attempt = s.bli.attempt ∧
    (shrShed h s).bli.output = s.bli.output ∧ (shrShed h s).bli.frame = s.bli.frame ∧
    (shrShed h s).bli.errors = s.bli.errors ∧ (shrShed h s).bli.unreliable = s.bli.unreliable ∧
    (shrShed h s).bli.lineHeld = s.bli.lineHeld ∧ (shrShed h s).bli.txStuck = s.bli.txStuck ∧
    (shrShed h s).bli.numberConflict = s.bli.numberConflict ∧ (shrShed h s).bli.silent = s.bli.silent ∧
    (shrShed h s).bli.periodTimer = s.bli.periodTimer ∧ (shrShed h s).bli.departureTimer = s.bli.departureTimer ∧
    (shrShed h s).shr.state = s.shr.state ∧ (shrShed h s).shr.listenTimer = s.shr.listenTimer ∧
    (shrShed h s).shr.causes = s.shr.causes ∧ (shrShed h s).shr.solo = s.shr.solo ∧
    (shrShed h s).shr.wo = s.shr.wo ∧ (shrShed h s).shr.co = s.shr.co ∧ (shrShed h s).shr.claim = s.shr.claim ∧
    (shrShed h s).shr.claimTimer = s.shr.claimTimer ∧ (shrShed h s).shr.sums = s.shr.sums ∧
    (shrShed h s).shr.slot = s.shr.slot ∧ (shrShed h s).shr.request = s.shr.request ∧
    (shrShed h s).shr.valve = s.shr.valve := by
  simp [shrShed]

@[simp] theorem shrClaim_frame (s : State) :
    (shrClaim s).cyc = s.cyc ∧ (shrClaim s).prf = s.prf ∧ (shrClaim s).ramp = s.ramp ∧ (shrClaim s).lck = s.lck ∧
    (shrClaim s).tms = s.tms ∧ (shrClaim s).reg = s.reg ∧ (shrClaim s).drv = s.drv ∧ (shrClaim s).ptb = s.ptb ∧
    (shrClaim s).prt = s.prt ∧ (shrClaim s).alk = s.alk ∧ (shrClaim s).pending = s.pending ∧
    (shrClaim s).draws = s.draws ∧ (shrClaim s).bli.attempt = s.bli.attempt ∧
    (shrClaim s).bli.output = s.bli.output ∧ (shrClaim s).bli.frame = s.bli.frame ∧
    (shrClaim s).bli.errors = s.bli.errors ∧ (shrClaim s).bli.unreliable = s.bli.unreliable ∧
    (shrClaim s).bli.lineHeld = s.bli.lineHeld ∧ (shrClaim s).bli.txStuck = s.bli.txStuck ∧
    (shrClaim s).bli.numberConflict = s.bli.numberConflict ∧ (shrClaim s).bli.silent = s.bli.silent ∧
    (shrClaim s).bli.periodTimer = s.bli.periodTimer ∧ (shrClaim s).bli.departureTimer = s.bli.departureTimer ∧
    (shrClaim s).shr.state = s.shr.state ∧ (shrClaim s).shr.listenTimer = s.shr.listenTimer ∧
    (shrClaim s).shr.causes = s.shr.causes ∧ (shrClaim s).shr.solo = s.shr.solo ∧ (shrClaim s).shr.ho = s.shr.ho ∧
    (shrClaim s).shr.wo = s.shr.wo ∧ (shrClaim s).shr.claimTimer = s.shr.claimTimer ∧
    (shrClaim s).shr.sums = s.shr.sums ∧ (shrClaim s).shr.slot = s.shr.slot ∧
    (shrClaim s).shr.request = s.shr.request ∧ (shrClaim s).shr.valve = s.shr.valve := by
  simp only [shrClaim]
  repeat' split
  all_goals simp

@[simp] theorem shrCompare_frame (s : State) :
    (shrCompare s).prf = s.prf ∧ (shrCompare s).ramp = s.ramp ∧ (shrCompare s).lck = s.lck ∧
    (shrCompare s).tms = s.tms ∧ (shrCompare s).reg = s.reg ∧ (shrCompare s).drv = s.drv ∧
    (shrCompare s).ptb = s.ptb ∧ (shrCompare s).prt = s.prt ∧ (shrCompare s).alk = s.alk ∧
    (shrCompare s).pending = s.pending ∧ (shrCompare s).draws = s.draws ∧ (shrCompare s).cyc.phase = s.cyc.phase ∧
    (shrCompare s).cyc.abortPending = s.cyc.abortPending ∧ (shrCompare s).bli.attempt = s.bli.attempt ∧
    (shrCompare s).bli.output = s.bli.output ∧ (shrCompare s).bli.frame = s.bli.frame ∧
    (shrCompare s).bli.errors = s.bli.errors ∧ (shrCompare s).bli.unreliable = s.bli.unreliable ∧
    (shrCompare s).bli.lineHeld = s.bli.lineHeld ∧ (shrCompare s).bli.txStuck = s.bli.txStuck ∧
    (shrCompare s).bli.numberConflict = s.bli.numberConflict ∧ (shrCompare s).bli.silent = s.bli.silent ∧
    (shrCompare s).bli.periodTimer = s.bli.periodTimer ∧ (shrCompare s).bli.departureTimer = s.bli.departureTimer ∧
    (shrCompare s).shr.state = s.shr.state ∧ (shrCompare s).shr.listenTimer = s.shr.listenTimer ∧
    (shrCompare s).shr.causes = s.shr.causes ∧ (shrCompare s).shr.solo = s.shr.solo ∧
    (shrCompare s).shr.wo = s.shr.wo ∧ (shrCompare s).shr.sums = s.shr.sums ∧ (shrCompare s).shr.slot = s.shr.slot ∧
    (shrCompare s).shr.request = s.shr.request ∧ (shrCompare s).shr.valve = s.shr.valve := by
  simp only [shrCompare]
  repeat' split
  all_goals simp

@[simp] theorem shrEvaluate_frame (s : State) :
    (shrEvaluate s).prf = s.prf ∧ (shrEvaluate s).ramp = s.ramp ∧ (shrEvaluate s).lck = s.lck ∧
    (shrEvaluate s).tms = s.tms ∧ (shrEvaluate s).reg = s.reg ∧ (shrEvaluate s).drv = s.drv ∧
    (shrEvaluate s).ptb = s.ptb ∧ (shrEvaluate s).prt = s.prt ∧ (shrEvaluate s).alk = s.alk ∧
    (shrEvaluate s).pending = s.pending ∧ (shrEvaluate s).draws = s.draws ∧
    (shrEvaluate s).cyc.phase = s.cyc.phase ∧ (shrEvaluate s).cyc.abortPending = s.cyc.abortPending ∧
    (shrEvaluate s).bli.attempt = s.bli.attempt ∧ (shrEvaluate s).bli.output = s.bli.output ∧
    (shrEvaluate s).bli.frame = s.bli.frame ∧ (shrEvaluate s).bli.errors = s.bli.errors ∧
    (shrEvaluate s).bli.unreliable = s.bli.unreliable ∧ (shrEvaluate s).bli.lineHeld = s.bli.lineHeld ∧
    (shrEvaluate s).bli.txStuck = s.bli.txStuck ∧ (shrEvaluate s).bli.numberConflict = s.bli.numberConflict ∧
    (shrEvaluate s).bli.silent = s.bli.silent ∧ (shrEvaluate s).bli.periodTimer = s.bli.periodTimer ∧
    (shrEvaluate s).bli.departureTimer = s.bli.departureTimer ∧ (shrEvaluate s).shr.state = s.shr.state ∧
    (shrEvaluate s).shr.listenTimer = s.shr.listenTimer ∧ (shrEvaluate s).shr.causes = s.shr.causes ∧
    (shrEvaluate s).shr.solo = s.shr.solo ∧ (shrEvaluate s).shr.wo = s.shr.wo ∧
    (shrEvaluate s).shr.sums = s.shr.sums ∧ (shrEvaluate s).shr.slot = s.shr.slot ∧
    (shrEvaluate s).shr.request = s.shr.request ∧ (shrEvaluate s).shr.valve = s.shr.valve := by
  simp [shrEvaluate]

@[simp] theorem shrFollow_frame (s : State) :
    (shrFollow s).prf = s.prf ∧ (shrFollow s).ramp = s.ramp ∧ (shrFollow s).lck = s.lck ∧
    (shrFollow s).tms = s.tms ∧ (shrFollow s).reg = s.reg ∧ (shrFollow s).drv = s.drv ∧ (shrFollow s).ptb = s.ptb ∧
    (shrFollow s).prt = s.prt ∧ (shrFollow s).alk = s.alk ∧ (shrFollow s).pending = s.pending ∧
    (shrFollow s).draws = s.draws ∧ (shrFollow s).cyc.phase = s.cyc.phase ∧
    (shrFollow s).cyc.abortPending = s.cyc.abortPending ∧ (shrFollow s).bli.attempt = s.bli.attempt ∧
    (shrFollow s).bli.output = s.bli.output ∧ (shrFollow s).bli.frame = s.bli.frame ∧
    (shrFollow s).bli.errors = s.bli.errors ∧ (shrFollow s).bli.unreliable = s.bli.unreliable ∧
    (shrFollow s).bli.lineHeld = s.bli.lineHeld ∧ (shrFollow s).bli.txStuck = s.bli.txStuck ∧
    (shrFollow s).bli.numberConflict = s.bli.numberConflict ∧ (shrFollow s).bli.silent = s.bli.silent ∧
    (shrFollow s).bli.periodTimer = s.bli.periodTimer ∧ (shrFollow s).bli.departureTimer = s.bli.departureTimer ∧
    (shrFollow s).shr.state = s.shr.state ∧ (shrFollow s).shr.listenTimer = s.shr.listenTimer ∧
    (shrFollow s).shr.causes = s.shr.causes ∧ (shrFollow s).shr.solo = s.shr.solo ∧
    (shrFollow s).shr.wo = s.shr.wo ∧ (shrFollow s).shr.co = s.shr.co ∧ (shrFollow s).shr.claim = s.shr.claim ∧
    (shrFollow s).shr.claimTimer = s.shr.claimTimer ∧ (shrFollow s).shr.sums = s.shr.sums ∧
    (shrFollow s).shr.slot = s.shr.slot ∧ (shrFollow s).shr.request = s.shr.request ∧
    (shrFollow s).shr.valve = s.shr.valve := by
  simp only [shrFollow]
  repeat' split
  all_goals simp

@[simp] theorem shrLower_frame (s : State) :
    (shrLower s).prf = s.prf ∧ (shrLower s).ramp = s.ramp ∧ (shrLower s).lck = s.lck ∧ (shrLower s).tms = s.tms ∧
    (shrLower s).reg = s.reg ∧ (shrLower s).drv = s.drv ∧ (shrLower s).ptb = s.ptb ∧ (shrLower s).prt = s.prt ∧
    (shrLower s).alk = s.alk ∧ (shrLower s).pending = s.pending ∧ (shrLower s).draws = s.draws ∧
    (shrLower s).cyc.phase = s.cyc.phase ∧ (shrLower s).cyc.abortPending = s.cyc.abortPending ∧
    (shrLower s).bli.attempt = s.bli.attempt ∧ (shrLower s).bli.output = s.bli.output ∧
    (shrLower s).bli.frame = s.bli.frame ∧ (shrLower s).bli.errors = s.bli.errors ∧
    (shrLower s).bli.unreliable = s.bli.unreliable ∧ (shrLower s).bli.lineHeld = s.bli.lineHeld ∧
    (shrLower s).bli.txStuck = s.bli.txStuck ∧ (shrLower s).bli.numberConflict = s.bli.numberConflict ∧
    (shrLower s).bli.silent = s.bli.silent ∧ (shrLower s).bli.periodTimer = s.bli.periodTimer ∧
    (shrLower s).bli.departureTimer = s.bli.departureTimer ∧ (shrLower s).shr.state = s.shr.state ∧
    (shrLower s).shr.listenTimer = s.shr.listenTimer ∧ (shrLower s).shr.causes = s.shr.causes ∧
    (shrLower s).shr.solo = s.shr.solo ∧ (shrLower s).shr.wo = s.shr.wo ∧ (shrLower s).shr.co = s.shr.co ∧
    (shrLower s).shr.claim = s.shr.claim ∧ (shrLower s).shr.claimTimer = s.shr.claimTimer ∧
    (shrLower s).shr.sums = s.shr.sums ∧ (shrLower s).shr.slot = s.shr.slot ∧
    (shrLower s).shr.request = s.shr.request ∧ (shrLower s).shr.valve = s.shr.valve := by
  simp only [shrLower]
  repeat' split
  all_goals simp

@[simp] theorem shrWant_frame (w : Nat) (s : State) :
    (shrWant w s).prf = s.prf ∧ (shrWant w s).ramp = s.ramp ∧ (shrWant w s).lck = s.lck ∧
    (shrWant w s).tms = s.tms ∧ (shrWant w s).reg = s.reg ∧ (shrWant w s).drv = s.drv ∧ (shrWant w s).ptb = s.ptb ∧
    (shrWant w s).prt = s.prt ∧ (shrWant w s).alk = s.alk ∧ (shrWant w s).pending = s.pending ∧
    (shrWant w s).draws = s.draws ∧ (shrWant w s).cyc.phase = s.cyc.phase ∧
    (shrWant w s).cyc.abortPending = s.cyc.abortPending ∧ (shrWant w s).bli.attempt = s.bli.attempt ∧
    (shrWant w s).bli.output = s.bli.output ∧ (shrWant w s).bli.frame = s.bli.frame ∧
    (shrWant w s).bli.errors = s.bli.errors ∧ (shrWant w s).bli.unreliable = s.bli.unreliable ∧
    (shrWant w s).bli.lineHeld = s.bli.lineHeld ∧ (shrWant w s).bli.txStuck = s.bli.txStuck ∧
    (shrWant w s).bli.numberConflict = s.bli.numberConflict ∧ (shrWant w s).bli.silent = s.bli.silent ∧
    (shrWant w s).bli.periodTimer = s.bli.periodTimer ∧ (shrWant w s).bli.departureTimer = s.bli.departureTimer ∧
    (shrWant w s).shr.state = s.shr.state ∧ (shrWant w s).shr.listenTimer = s.shr.listenTimer ∧
    (shrWant w s).shr.causes = s.shr.causes ∧ (shrWant w s).shr.solo = s.shr.solo ∧
    (shrWant w s).shr.sums = s.shr.sums ∧ (shrWant w s).shr.slot = s.shr.slot ∧
    (shrWant w s).shr.request = s.shr.request ∧ (shrWant w s).shr.valve = s.shr.valve := by
  simp only [shrWant]
  repeat' split
  all_goals simp

@[simp] theorem shrSetSlot_frame (st : SlotState) (s : State) :
    (shrSetSlot st s).cyc = s.cyc ∧ (shrSetSlot st s).prf = s.prf ∧ (shrSetSlot st s).ramp = s.ramp ∧
    (shrSetSlot st s).lck = s.lck ∧ (shrSetSlot st s).tms = s.tms ∧ (shrSetSlot st s).reg = s.reg ∧
    (shrSetSlot st s).drv = s.drv ∧ (shrSetSlot st s).ptb = s.ptb ∧ (shrSetSlot st s).prt = s.prt ∧
    (shrSetSlot st s).pending = s.pending ∧ (shrSetSlot st s).draws = s.draws ∧
    (shrSetSlot st s).bli.attempt = s.bli.attempt ∧ (shrSetSlot st s).bli.output = s.bli.output ∧
    (shrSetSlot st s).bli.frame = s.bli.frame ∧ (shrSetSlot st s).bli.errors = s.bli.errors ∧
    (shrSetSlot st s).bli.unreliable = s.bli.unreliable ∧ (shrSetSlot st s).bli.lineHeld = s.bli.lineHeld ∧
    (shrSetSlot st s).bli.txStuck = s.bli.txStuck ∧ (shrSetSlot st s).bli.numberConflict = s.bli.numberConflict ∧
    (shrSetSlot st s).bli.silent = s.bli.silent ∧ (shrSetSlot st s).bli.periodTimer = s.bli.periodTimer ∧
    (shrSetSlot st s).bli.departureTimer = s.bli.departureTimer ∧ (shrSetSlot st s).shr.state = s.shr.state ∧
    (shrSetSlot st s).shr.listenTimer = s.shr.listenTimer ∧ (shrSetSlot st s).shr.causes = s.shr.causes ∧
    (shrSetSlot st s).shr.solo = s.shr.solo ∧ (shrSetSlot st s).shr.ho = s.shr.ho ∧
    (shrSetSlot st s).shr.wo = s.shr.wo ∧ (shrSetSlot st s).shr.co = s.shr.co ∧
    (shrSetSlot st s).shr.claim = s.shr.claim ∧ (shrSetSlot st s).shr.claimTimer = s.shr.claimTimer ∧
    (shrSetSlot st s).shr.sums = s.shr.sums ∧ (shrSetSlot st s).shr.request = s.shr.request ∧
    (shrSetSlot st s).alk.items = s.alk.items ∧ (shrSetSlot st s).alk.committed = s.alk.committed ∧
    (shrSetSlot st s).alk.seconds = s.alk.seconds ∧ (shrSetSlot st s).alk.resetPending = s.alk.resetPending ∧
    (shrSetSlot st s).alk.link = s.alk.link := by
  simp only [shrSetSlot]
  repeat' split
  all_goals simp

@[simp] theorem shrRelease_frame (s : State) :
    (shrRelease s).cyc = s.cyc ∧ (shrRelease s).prf = s.prf ∧ (shrRelease s).ramp = s.ramp ∧
    (shrRelease s).lck = s.lck ∧ (shrRelease s).tms = s.tms ∧ (shrRelease s).reg = s.reg ∧
    (shrRelease s).drv = s.drv ∧ (shrRelease s).ptb = s.ptb ∧ (shrRelease s).prt = s.prt ∧
    (shrRelease s).pending = s.pending ∧ (shrRelease s).draws = s.draws ∧
    (shrRelease s).bli.attempt = s.bli.attempt ∧ (shrRelease s).bli.output = s.bli.output ∧
    (shrRelease s).bli.frame = s.bli.frame ∧ (shrRelease s).bli.errors = s.bli.errors ∧
    (shrRelease s).bli.unreliable = s.bli.unreliable ∧ (shrRelease s).bli.lineHeld = s.bli.lineHeld ∧
    (shrRelease s).bli.txStuck = s.bli.txStuck ∧ (shrRelease s).bli.numberConflict = s.bli.numberConflict ∧
    (shrRelease s).bli.silent = s.bli.silent ∧ (shrRelease s).bli.periodTimer = s.bli.periodTimer ∧
    (shrRelease s).bli.departureTimer = s.bli.departureTimer ∧ (shrRelease s).shr.state = s.shr.state ∧
    (shrRelease s).shr.listenTimer = s.shr.listenTimer ∧ (shrRelease s).shr.causes = s.shr.causes ∧
    (shrRelease s).shr.solo = s.shr.solo ∧ (shrRelease s).shr.ho = s.shr.ho ∧ (shrRelease s).shr.wo = s.shr.wo ∧
    (shrRelease s).shr.co = s.shr.co ∧ (shrRelease s).shr.claim = s.shr.claim ∧
    (shrRelease s).shr.claimTimer = s.shr.claimTimer ∧ (shrRelease s).shr.sums = s.shr.sums ∧
    (shrRelease s).alk.items = s.alk.items ∧ (shrRelease s).alk.committed = s.alk.committed ∧
    (shrRelease s).alk.seconds = s.alk.seconds ∧ (shrRelease s).alk.resetPending = s.alk.resetPending ∧
    (shrRelease s).alk.link = s.alk.link := by
  simp [shrRelease]

@[simp] theorem prfIdle_frame (s : State) :
    (prfIdle s).cyc = s.cyc ∧ (prfIdle s).prf = s.prf ∧ (prfIdle s).lck = s.lck ∧ (prfIdle s).tms = s.tms ∧
    (prfIdle s).reg = s.reg ∧ (prfIdle s).drv = s.drv ∧ (prfIdle s).bli = s.bli ∧ (prfIdle s).ptb = s.ptb ∧
    (prfIdle s).shr = s.shr ∧ (prfIdle s).pending = s.pending ∧ (prfIdle s).draws = s.draws ∧
    (prfIdle s).ramp.segIndex = s.ramp.segIndex ∧ (prfIdle s).ramp.sp = s.ramp.sp ∧
    (prfIdle s).ramp.holdTimer = s.ramp.holdTimer ∧ (prfIdle s).ramp.segTimer = s.ramp.segTimer ∧
    (prfIdle s).ramp.slotWait = s.ramp.slotWait ∧ (prfIdle s).prt.blindRunning = s.prt.blindRunning ∧
    (prfIdle s).prt.blindCount = s.prt.blindCount ∧ (prfIdle s).prt.secondMs = s.prt.secondMs ∧
    (prfIdle s).alk.items = s.alk.items ∧ (prfIdle s).alk.committed = s.alk.committed ∧
    (prfIdle s).alk.seconds = s.alk.seconds ∧ (prfIdle s).alk.resetPending = s.alk.resetPending ∧
    (prfIdle s).alk.link = s.alk.link := by
  simp [prfIdle]

@[simp] theorem regLeave_frame (s : State) :
    (regLeave s).prf = s.prf ∧ (regLeave s).ramp = s.ramp ∧ (regLeave s).lck = s.lck ∧ (regLeave s).tms = s.tms ∧
    (regLeave s).drv = s.drv ∧ (regLeave s).ptb = s.ptb ∧ (regLeave s).prt = s.prt ∧ (regLeave s).alk = s.alk ∧
    (regLeave s).pending = s.pending ∧ (regLeave s).draws = s.draws ∧ (regLeave s).cyc.phase = s.cyc.phase ∧
    (regLeave s).cyc.abortPending = s.cyc.abortPending ∧ (regLeave s).reg.limited = s.reg.limited ∧
    (regLeave s).reg.fan = s.reg.fan ∧ (regLeave s).reg.ruleLevel = s.reg.ruleLevel ∧
    (regLeave s).reg.coolTimer = s.reg.coolTimer ∧ (regLeave s).bli.attempt = s.bli.attempt ∧
    (regLeave s).bli.output = s.bli.output ∧ (regLeave s).bli.frame = s.bli.frame ∧
    (regLeave s).bli.errors = s.bli.errors ∧ (regLeave s).bli.unreliable = s.bli.unreliable ∧
    (regLeave s).bli.lineHeld = s.bli.lineHeld ∧ (regLeave s).bli.txStuck = s.bli.txStuck ∧
    (regLeave s).bli.numberConflict = s.bli.numberConflict ∧ (regLeave s).bli.silent = s.bli.silent ∧
    (regLeave s).bli.periodTimer = s.bli.periodTimer ∧ (regLeave s).bli.departureTimer = s.bli.departureTimer ∧
    (regLeave s).shr.state = s.shr.state ∧ (regLeave s).shr.listenTimer = s.shr.listenTimer ∧
    (regLeave s).shr.causes = s.shr.causes ∧ (regLeave s).shr.solo = s.shr.solo ∧
    (regLeave s).shr.sums = s.shr.sums ∧ (regLeave s).shr.slot = s.shr.slot ∧
    (regLeave s).shr.request = s.shr.request ∧ (regLeave s).shr.valve = s.shr.valve := by
  simp [regLeave]

@[simp] theorem cycLeaveHeating_frame (p : Phase) (s : State) :
    (cycLeaveHeating p s).prf = s.prf ∧ (cycLeaveHeating p s).tms = s.tms ∧ (cycLeaveHeating p s).ptb = s.ptb ∧
    (cycLeaveHeating p s).pending = s.pending ∧ (cycLeaveHeating p s).draws = s.draws ∧
    (cycLeaveHeating p s).ramp.segIndex = s.ramp.segIndex ∧ (cycLeaveHeating p s).ramp.sp = s.ramp.sp ∧
    (cycLeaveHeating p s).ramp.holdTimer = s.ramp.holdTimer ∧
    (cycLeaveHeating p s).ramp.segTimer = s.ramp.segTimer ∧ (cycLeaveHeating p s).ramp.slotWait = s.ramp.slotWait ∧
    (cycLeaveHeating p s).lck.attempts = s.lck.attempts ∧ (cycLeaveHeating p s).lck.motor = s.lck.motor ∧
    (cycLeaveHeating p s).lck.startUp = s.lck.startUp ∧ (cycLeaveHeating p s).lck.door = s.lck.door ∧
    (cycLeaveHeating p s).lck.latch = s.lck.latch ∧ (cycLeaveHeating p s).lck.stage = s.lck.stage ∧
    (cycLeaveHeating p s).lck.testPass = s.lck.testPass ∧ (cycLeaveHeating p s).reg.limited = s.reg.limited ∧
    (cycLeaveHeating p s).drv.state = s.drv.state ∧ (cycLeaveHeating p s).drv.window = s.drv.window ∧
    (cycLeaveHeating p s).drv.limited = s.drv.limited ∧ (cycLeaveHeating p s).drv.last = s.drv.last ∧
    (cycLeaveHeating p s).drv.overPresent = s.drv.overPresent ∧
    (cycLeaveHeating p s).drv.stuckPresent = s.drv.stuckPresent ∧
    (cycLeaveHeating p s).bli.attempt = s.bli.attempt ∧ (cycLeaveHeating p s).bli.output = s.bli.output ∧
    (cycLeaveHeating p s).bli.frame = s.bli.frame ∧ (cycLeaveHeating p s).bli.errors = s.bli.errors ∧
    (cycLeaveHeating p s).bli.unreliable = s.bli.unreliable ∧ (cycLeaveHeating p s).bli.lineHeld = s.bli.lineHeld ∧
    (cycLeaveHeating p s).bli.txStuck = s.bli.txStuck ∧
    (cycLeaveHeating p s).bli.numberConflict = s.bli.numberConflict ∧
    (cycLeaveHeating p s).bli.silent = s.bli.silent ∧ (cycLeaveHeating p s).bli.periodTimer = s.bli.periodTimer ∧
    (cycLeaveHeating p s).bli.departureTimer = s.bli.departureTimer ∧
    (cycLeaveHeating p s).shr.state = s.shr.state ∧ (cycLeaveHeating p s).shr.listenTimer = s.shr.listenTimer ∧
    (cycLeaveHeating p s).shr.causes = s.shr.causes ∧ (cycLeaveHeating p s).shr.solo = s.shr.solo ∧
    (cycLeaveHeating p s).shr.sums = s.shr.sums ∧ (cycLeaveHeating p s).prt.blindRunning = s.prt.blindRunning ∧
    (cycLeaveHeating p s).prt.blindCount = s.prt.blindCount ∧ (cycLeaveHeating p s).prt.secondMs = s.prt.secondMs ∧
    (cycLeaveHeating p s).alk.items = s.alk.items ∧ (cycLeaveHeating p s).alk.committed = s.alk.committed ∧
    (cycLeaveHeating p s).alk.seconds = s.alk.seconds ∧
    (cycLeaveHeating p s).alk.resetPending = s.alk.resetPending ∧ (cycLeaveHeating p s).alk.link = s.alk.link := by
  simp [cycLeaveHeating]

@[simp] theorem cycTrip_frame (c : FaultCode) (s : State) :
    (cycTrip c s).prf = s.prf ∧ (cycTrip c s).tms = s.tms ∧ (cycTrip c s).ptb = s.ptb ∧
    (cycTrip c s).pending = s.pending ∧ (cycTrip c s).draws = s.draws ∧
    (cycTrip c s).ramp.segIndex = s.ramp.segIndex ∧ (cycTrip c s).ramp.sp = s.ramp.sp ∧
    (cycTrip c s).ramp.holdTimer = s.ramp.holdTimer ∧ (cycTrip c s).ramp.segTimer = s.ramp.segTimer ∧
    (cycTrip c s).ramp.slotWait = s.ramp.slotWait ∧ (cycTrip c s).lck.attempts = s.lck.attempts ∧
    (cycTrip c s).lck.motor = s.lck.motor ∧ (cycTrip c s).lck.startUp = s.lck.startUp ∧
    (cycTrip c s).lck.door = s.lck.door ∧ (cycTrip c s).lck.latch = s.lck.latch ∧
    (cycTrip c s).lck.stage = s.lck.stage ∧ (cycTrip c s).lck.testPass = s.lck.testPass ∧
    (cycTrip c s).reg.limited = s.reg.limited ∧ (cycTrip c s).drv.state = s.drv.state ∧
    (cycTrip c s).drv.window = s.drv.window ∧ (cycTrip c s).drv.limited = s.drv.limited ∧
    (cycTrip c s).drv.last = s.drv.last ∧ (cycTrip c s).drv.overPresent = s.drv.overPresent ∧
    (cycTrip c s).drv.stuckPresent = s.drv.stuckPresent ∧ (cycTrip c s).bli.attempt = s.bli.attempt ∧
    (cycTrip c s).bli.output = s.bli.output ∧ (cycTrip c s).bli.frame = s.bli.frame ∧
    (cycTrip c s).bli.errors = s.bli.errors ∧ (cycTrip c s).bli.unreliable = s.bli.unreliable ∧
    (cycTrip c s).bli.lineHeld = s.bli.lineHeld ∧ (cycTrip c s).bli.txStuck = s.bli.txStuck ∧
    (cycTrip c s).bli.numberConflict = s.bli.numberConflict ∧ (cycTrip c s).bli.silent = s.bli.silent ∧
    (cycTrip c s).bli.periodTimer = s.bli.periodTimer ∧ (cycTrip c s).bli.departureTimer = s.bli.departureTimer ∧
    (cycTrip c s).shr.state = s.shr.state ∧ (cycTrip c s).shr.listenTimer = s.shr.listenTimer ∧
    (cycTrip c s).shr.causes = s.shr.causes ∧ (cycTrip c s).shr.solo = s.shr.solo ∧
    (cycTrip c s).shr.sums = s.shr.sums ∧ (cycTrip c s).prt.blindRunning = s.prt.blindRunning ∧
    (cycTrip c s).prt.blindCount = s.prt.blindCount ∧ (cycTrip c s).prt.secondMs = s.prt.secondMs ∧
    (cycTrip c s).alk.items = s.alk.items ∧ (cycTrip c s).alk.committed = s.alk.committed ∧
    (cycTrip c s).alk.seconds = s.alk.seconds ∧ (cycTrip c s).alk.resetPending = s.alk.resetPending ∧
    (cycTrip c s).alk.link = s.alk.link := by
  simp only [cycTrip]
  repeat' split
  all_goals simp

@[simp] theorem cycAbort_frame (c : FaultCode) (s : State) :
    (cycAbort c s).prf = s.prf ∧ (cycAbort c s).tms = s.tms ∧ (cycAbort c s).ptb = s.ptb ∧
    (cycAbort c s).pending = s.pending ∧ (cycAbort c s).draws = s.draws ∧
    (cycAbort c s).ramp.segIndex = s.ramp.segIndex ∧ (cycAbort c s).ramp.sp = s.ramp.sp ∧
    (cycAbort c s).ramp.holdTimer = s.ramp.holdTimer ∧ (cycAbort c s).ramp.segTimer = s.ramp.segTimer ∧
    (cycAbort c s).ramp.slotWait = s.ramp.slotWait ∧ (cycAbort c s).lck.attempts = s.lck.attempts ∧
    (cycAbort c s).lck.motor = s.lck.motor ∧ (cycAbort c s).lck.startUp = s.lck.startUp ∧
    (cycAbort c s).lck.door = s.lck.door ∧ (cycAbort c s).lck.latch = s.lck.latch ∧
    (cycAbort c s).lck.stage = s.lck.stage ∧ (cycAbort c s).lck.testPass = s.lck.testPass ∧
    (cycAbort c s).reg.limited = s.reg.limited ∧ (cycAbort c s).drv.state = s.drv.state ∧
    (cycAbort c s).drv.window = s.drv.window ∧ (cycAbort c s).drv.limited = s.drv.limited ∧
    (cycAbort c s).drv.last = s.drv.last ∧ (cycAbort c s).drv.overPresent = s.drv.overPresent ∧
    (cycAbort c s).drv.stuckPresent = s.drv.stuckPresent ∧ (cycAbort c s).bli.attempt = s.bli.attempt ∧
    (cycAbort c s).bli.output = s.bli.output ∧ (cycAbort c s).bli.frame = s.bli.frame ∧
    (cycAbort c s).bli.errors = s.bli.errors ∧ (cycAbort c s).bli.unreliable = s.bli.unreliable ∧
    (cycAbort c s).bli.lineHeld = s.bli.lineHeld ∧ (cycAbort c s).bli.txStuck = s.bli.txStuck ∧
    (cycAbort c s).bli.numberConflict = s.bli.numberConflict ∧ (cycAbort c s).bli.silent = s.bli.silent ∧
    (cycAbort c s).bli.periodTimer = s.bli.periodTimer ∧ (cycAbort c s).bli.departureTimer = s.bli.departureTimer ∧
    (cycAbort c s).shr.state = s.shr.state ∧ (cycAbort c s).shr.listenTimer = s.shr.listenTimer ∧
    (cycAbort c s).shr.causes = s.shr.causes ∧ (cycAbort c s).shr.solo = s.shr.solo ∧
    (cycAbort c s).shr.sums = s.shr.sums ∧ (cycAbort c s).prt.blindRunning = s.prt.blindRunning ∧
    (cycAbort c s).prt.blindCount = s.prt.blindCount ∧ (cycAbort c s).prt.secondMs = s.prt.secondMs ∧
    (cycAbort c s).alk.items = s.alk.items ∧ (cycAbort c s).alk.committed = s.alk.committed ∧
    (cycAbort c s).alk.seconds = s.alk.seconds ∧ (cycAbort c s).alk.resetPending = s.alk.resetPending ∧
    (cycAbort c s).alk.link = s.alk.link := by
  simp only [cycAbort]
  repeat' split
  all_goals simp

@[simp] theorem cycComplete_frame (s : State) :
    (cycComplete s).prf = s.prf ∧ (cycComplete s).tms = s.tms ∧ (cycComplete s).ptb = s.ptb ∧
    (cycComplete s).pending = s.pending ∧ (cycComplete s).draws = s.draws ∧
    (cycComplete s).ramp.segIndex = s.ramp.segIndex ∧ (cycComplete s).ramp.sp = s.ramp.sp ∧
    (cycComplete s).ramp.holdTimer = s.ramp.holdTimer ∧ (cycComplete s).ramp.segTimer = s.ramp.segTimer ∧
    (cycComplete s).ramp.slotWait = s.ramp.slotWait ∧ (cycComplete s).lck.attempts = s.lck.attempts ∧
    (cycComplete s).lck.motor = s.lck.motor ∧ (cycComplete s).lck.startUp = s.lck.startUp ∧
    (cycComplete s).lck.door = s.lck.door ∧ (cycComplete s).lck.latch = s.lck.latch ∧
    (cycComplete s).lck.stage = s.lck.stage ∧ (cycComplete s).lck.testPass = s.lck.testPass ∧
    (cycComplete s).reg.limited = s.reg.limited ∧ (cycComplete s).drv.state = s.drv.state ∧
    (cycComplete s).drv.window = s.drv.window ∧ (cycComplete s).drv.limited = s.drv.limited ∧
    (cycComplete s).drv.last = s.drv.last ∧ (cycComplete s).drv.overPresent = s.drv.overPresent ∧
    (cycComplete s).drv.stuckPresent = s.drv.stuckPresent ∧ (cycComplete s).bli.attempt = s.bli.attempt ∧
    (cycComplete s).bli.output = s.bli.output ∧ (cycComplete s).bli.frame = s.bli.frame ∧
    (cycComplete s).bli.errors = s.bli.errors ∧ (cycComplete s).bli.unreliable = s.bli.unreliable ∧
    (cycComplete s).bli.lineHeld = s.bli.lineHeld ∧ (cycComplete s).bli.txStuck = s.bli.txStuck ∧
    (cycComplete s).bli.numberConflict = s.bli.numberConflict ∧ (cycComplete s).bli.silent = s.bli.silent ∧
    (cycComplete s).bli.periodTimer = s.bli.periodTimer ∧
    (cycComplete s).bli.departureTimer = s.bli.departureTimer ∧ (cycComplete s).shr.state = s.shr.state ∧
    (cycComplete s).shr.listenTimer = s.shr.listenTimer ∧ (cycComplete s).shr.causes = s.shr.causes ∧
    (cycComplete s).shr.solo = s.shr.solo ∧ (cycComplete s).shr.sums = s.shr.sums ∧
    (cycComplete s).prt.blindRunning = s.prt.blindRunning ∧ (cycComplete s).prt.blindCount = s.prt.blindCount ∧
    (cycComplete s).prt.secondMs = s.prt.secondMs ∧ (cycComplete s).alk.items = s.alk.items ∧
    (cycComplete s).alk.committed = s.alk.committed ∧ (cycComplete s).alk.seconds = s.alk.seconds ∧
    (cycComplete s).alk.resetPending = s.alk.resetPending ∧ (cycComplete s).alk.link = s.alk.link := by
  simp only [cycComplete]
  repeat' split
  all_goals simp

@[simp] theorem prtAction_frame (c : FaultCode) (s : State) :
    (prtAction c s).prf = s.prf ∧ (prtAction c s).tms = s.tms ∧ (prtAction c s).ptb = s.ptb ∧
    (prtAction c s).pending = s.pending ∧ (prtAction c s).draws = s.draws ∧
    (prtAction c s).ramp.segIndex = s.ramp.segIndex ∧ (prtAction c s).ramp.sp = s.ramp.sp ∧
    (prtAction c s).ramp.holdTimer = s.ramp.holdTimer ∧ (prtAction c s).ramp.segTimer = s.ramp.segTimer ∧
    (prtAction c s).ramp.slotWait = s.ramp.slotWait ∧ (prtAction c s).lck.attempts = s.lck.attempts ∧
    (prtAction c s).lck.motor = s.lck.motor ∧ (prtAction c s).lck.startUp = s.lck.startUp ∧
    (prtAction c s).lck.door = s.lck.door ∧ (prtAction c s).lck.latch = s.lck.latch ∧
    (prtAction c s).lck.stage = s.lck.stage ∧ (prtAction c s).lck.testPass = s.lck.testPass ∧
    (prtAction c s).reg.limited = s.reg.limited ∧ (prtAction c s).drv.state = s.drv.state ∧
    (prtAction c s).drv.window = s.drv.window ∧ (prtAction c s).drv.limited = s.drv.limited ∧
    (prtAction c s).drv.last = s.drv.last ∧ (prtAction c s).drv.overPresent = s.drv.overPresent ∧
    (prtAction c s).drv.stuckPresent = s.drv.stuckPresent ∧ (prtAction c s).bli.attempt = s.bli.attempt ∧
    (prtAction c s).bli.output = s.bli.output ∧ (prtAction c s).bli.frame = s.bli.frame ∧
    (prtAction c s).bli.errors = s.bli.errors ∧ (prtAction c s).bli.unreliable = s.bli.unreliable ∧
    (prtAction c s).bli.lineHeld = s.bli.lineHeld ∧ (prtAction c s).bli.txStuck = s.bli.txStuck ∧
    (prtAction c s).bli.numberConflict = s.bli.numberConflict ∧ (prtAction c s).bli.silent = s.bli.silent ∧
    (prtAction c s).bli.periodTimer = s.bli.periodTimer ∧
    (prtAction c s).bli.departureTimer = s.bli.departureTimer ∧ (prtAction c s).shr.state = s.shr.state ∧
    (prtAction c s).shr.listenTimer = s.shr.listenTimer ∧ (prtAction c s).shr.causes = s.shr.causes ∧
    (prtAction c s).shr.solo = s.shr.solo ∧ (prtAction c s).shr.sums = s.shr.sums ∧
    (prtAction c s).prt.blindRunning = s.prt.blindRunning ∧ (prtAction c s).prt.blindCount = s.prt.blindCount ∧
    (prtAction c s).prt.secondMs = s.prt.secondMs ∧ (prtAction c s).alk.items = s.alk.items ∧
    (prtAction c s).alk.committed = s.alk.committed ∧ (prtAction c s).alk.seconds = s.alk.seconds ∧
    (prtAction c s).alk.resetPending = s.alk.resetPending ∧ (prtAction c s).alk.link = s.alk.link := by
  simp only [prtAction]
  repeat' split
  all_goals simp

@[simp] theorem prtRaise_frame (c : FaultCode) (s : State) :
    (prtRaise c s).prf = s.prf ∧ (prtRaise c s).tms = s.tms ∧ (prtRaise c s).ptb = s.ptb ∧
    (prtRaise c s).pending = s.pending ∧ (prtRaise c s).draws = s.draws ∧
    (prtRaise c s).ramp.segIndex = s.ramp.segIndex ∧ (prtRaise c s).ramp.sp = s.ramp.sp ∧
    (prtRaise c s).ramp.holdTimer = s.ramp.holdTimer ∧ (prtRaise c s).ramp.segTimer = s.ramp.segTimer ∧
    (prtRaise c s).ramp.slotWait = s.ramp.slotWait ∧ (prtRaise c s).lck.attempts = s.lck.attempts ∧
    (prtRaise c s).lck.motor = s.lck.motor ∧ (prtRaise c s).lck.startUp = s.lck.startUp ∧
    (prtRaise c s).lck.door = s.lck.door ∧ (prtRaise c s).lck.latch = s.lck.latch ∧
    (prtRaise c s).lck.stage = s.lck.stage ∧ (prtRaise c s).lck.testPass = s.lck.testPass ∧
    (prtRaise c s).reg.limited = s.reg.limited ∧ (prtRaise c s).drv.state = s.drv.state ∧
    (prtRaise c s).drv.window = s.drv.window ∧ (prtRaise c s).drv.limited = s.drv.limited ∧
    (prtRaise c s).drv.last = s.drv.last ∧ (prtRaise c s).drv.overPresent = s.drv.overPresent ∧
    (prtRaise c s).drv.stuckPresent = s.drv.stuckPresent ∧ (prtRaise c s).bli.attempt = s.bli.attempt ∧
    (prtRaise c s).bli.output = s.bli.output ∧ (prtRaise c s).bli.frame = s.bli.frame ∧
    (prtRaise c s).bli.errors = s.bli.errors ∧ (prtRaise c s).bli.unreliable = s.bli.unreliable ∧
    (prtRaise c s).bli.lineHeld = s.bli.lineHeld ∧ (prtRaise c s).bli.txStuck = s.bli.txStuck ∧
    (prtRaise c s).bli.numberConflict = s.bli.numberConflict ∧ (prtRaise c s).bli.silent = s.bli.silent ∧
    (prtRaise c s).bli.periodTimer = s.bli.periodTimer ∧ (prtRaise c s).bli.departureTimer = s.bli.departureTimer ∧
    (prtRaise c s).shr.state = s.shr.state ∧ (prtRaise c s).shr.listenTimer = s.shr.listenTimer ∧
    (prtRaise c s).shr.causes = s.shr.causes ∧ (prtRaise c s).shr.solo = s.shr.solo ∧
    (prtRaise c s).shr.sums = s.shr.sums ∧ (prtRaise c s).prt.blindRunning = s.prt.blindRunning ∧
    (prtRaise c s).prt.blindCount = s.prt.blindCount ∧ (prtRaise c s).prt.secondMs = s.prt.secondMs ∧
    (prtRaise c s).alk.items = s.alk.items ∧ (prtRaise c s).alk.committed = s.alk.committed ∧
    (prtRaise c s).alk.seconds = s.alk.seconds ∧ (prtRaise c s).alk.resetPending = s.alk.resetPending ∧
    (prtRaise c s).alk.link = s.alk.link := by
  simp only [prtRaise]
  repeat' split
  all_goals simp

@[simp] theorem rampEnter_frame (s : State) :
    (rampEnter s).prf = s.prf ∧ (rampEnter s).tms = s.tms ∧ (rampEnter s).ptb = s.ptb ∧
    (rampEnter s).pending = s.pending ∧ (rampEnter s).draws = s.draws ∧
    (rampEnter s).ramp.segIndex = s.ramp.segIndex ∧ (rampEnter s).ramp.sp = s.ramp.sp ∧
    (rampEnter s).ramp.slotWait = s.ramp.slotWait ∧ (rampEnter s).lck.attempts = s.lck.attempts ∧
    (rampEnter s).lck.motor = s.lck.motor ∧ (rampEnter s).lck.startUp = s.lck.startUp ∧
    (rampEnter s).lck.door = s.lck.door ∧ (rampEnter s).lck.latch = s.lck.latch ∧
    (rampEnter s).lck.stage = s.lck.stage ∧ (rampEnter s).lck.testPass = s.lck.testPass ∧
    (rampEnter s).reg.limited = s.reg.limited ∧ (rampEnter s).drv.state = s.drv.state ∧
    (rampEnter s).drv.window = s.drv.window ∧ (rampEnter s).drv.limited = s.drv.limited ∧
    (rampEnter s).drv.last = s.drv.last ∧ (rampEnter s).drv.overPresent = s.drv.overPresent ∧
    (rampEnter s).drv.stuckPresent = s.drv.stuckPresent ∧ (rampEnter s).bli.attempt = s.bli.attempt ∧
    (rampEnter s).bli.output = s.bli.output ∧ (rampEnter s).bli.frame = s.bli.frame ∧
    (rampEnter s).bli.errors = s.bli.errors ∧ (rampEnter s).bli.unreliable = s.bli.unreliable ∧
    (rampEnter s).bli.lineHeld = s.bli.lineHeld ∧ (rampEnter s).bli.txStuck = s.bli.txStuck ∧
    (rampEnter s).bli.numberConflict = s.bli.numberConflict ∧ (rampEnter s).bli.silent = s.bli.silent ∧
    (rampEnter s).bli.periodTimer = s.bli.periodTimer ∧ (rampEnter s).bli.departureTimer = s.bli.departureTimer ∧
    (rampEnter s).shr.state = s.shr.state ∧ (rampEnter s).shr.listenTimer = s.shr.listenTimer ∧
    (rampEnter s).shr.causes = s.shr.causes ∧ (rampEnter s).shr.solo = s.shr.solo ∧
    (rampEnter s).shr.sums = s.shr.sums ∧ (rampEnter s).prt.blindRunning = s.prt.blindRunning ∧
    (rampEnter s).prt.blindCount = s.prt.blindCount ∧ (rampEnter s).prt.secondMs = s.prt.secondMs ∧
    (rampEnter s).alk.items = s.alk.items ∧ (rampEnter s).alk.committed = s.alk.committed ∧
    (rampEnter s).alk.seconds = s.alk.seconds ∧ (rampEnter s).alk.resetPending = s.alk.resetPending ∧
    (rampEnter s).alk.link = s.alk.link := by
  simp only [rampEnter]
  repeat' split
  all_goals simp

@[simp] theorem prfGrant_frame (s : State) :
    (prfGrant s).prf = s.prf ∧ (prfGrant s).tms = s.tms ∧ (prfGrant s).ptb = s.ptb ∧
    (prfGrant s).pending = s.pending ∧ (prfGrant s).draws = s.draws ∧ (prfGrant s).ramp.segIndex = s.ramp.segIndex ∧
    (prfGrant s).ramp.sp = s.ramp.sp ∧ (prfGrant s).ramp.slotWait = s.ramp.slotWait ∧
    (prfGrant s).lck.attempts = s.lck.attempts ∧ (prfGrant s).lck.motor = s.lck.motor ∧
    (prfGrant s).lck.startUp = s.lck.startUp ∧ (prfGrant s).lck.door = s.lck.door ∧
    (prfGrant s).lck.latch = s.lck.latch ∧ (prfGrant s).lck.stage = s.lck.stage ∧
    (prfGrant s).lck.testPass = s.lck.testPass ∧ (prfGrant s).reg.limited = s.reg.limited ∧
    (prfGrant s).drv.state = s.drv.state ∧ (prfGrant s).drv.window = s.drv.window ∧
    (prfGrant s).drv.limited = s.drv.limited ∧ (prfGrant s).drv.last = s.drv.last ∧
    (prfGrant s).drv.overPresent = s.drv.overPresent ∧ (prfGrant s).drv.stuckPresent = s.drv.stuckPresent ∧
    (prfGrant s).bli.attempt = s.bli.attempt ∧ (prfGrant s).bli.output = s.bli.output ∧
    (prfGrant s).bli.frame = s.bli.frame ∧ (prfGrant s).bli.errors = s.bli.errors ∧
    (prfGrant s).bli.unreliable = s.bli.unreliable ∧ (prfGrant s).bli.lineHeld = s.bli.lineHeld ∧
    (prfGrant s).bli.txStuck = s.bli.txStuck ∧ (prfGrant s).bli.numberConflict = s.bli.numberConflict ∧
    (prfGrant s).bli.silent = s.bli.silent ∧ (prfGrant s).bli.periodTimer = s.bli.periodTimer ∧
    (prfGrant s).bli.departureTimer = s.bli.departureTimer ∧ (prfGrant s).shr.state = s.shr.state ∧
    (prfGrant s).shr.listenTimer = s.shr.listenTimer ∧ (prfGrant s).shr.causes = s.shr.causes ∧
    (prfGrant s).shr.solo = s.shr.solo ∧ (prfGrant s).shr.sums = s.shr.sums ∧
    (prfGrant s).prt.blindRunning = s.prt.blindRunning ∧ (prfGrant s).prt.blindCount = s.prt.blindCount ∧
    (prfGrant s).prt.secondMs = s.prt.secondMs ∧ (prfGrant s).alk.items = s.alk.items ∧
    (prfGrant s).alk.committed = s.alk.committed ∧ (prfGrant s).alk.seconds = s.alk.seconds ∧
    (prfGrant s).alk.resetPending = s.alk.resetPending ∧ (prfGrant s).alk.link = s.alk.link := by
  simp only [prfGrant]
  repeat' split
  all_goals simp

@[simp] theorem shrHold_frame (s : State) :
    (shrHold s).prf = s.prf ∧ (shrHold s).tms = s.tms ∧ (shrHold s).ptb = s.ptb ∧ (shrHold s).pending = s.pending ∧
    (shrHold s).draws = s.draws ∧ (shrHold s).ramp.segIndex = s.ramp.segIndex ∧ (shrHold s).ramp.sp = s.ramp.sp ∧
    (shrHold s).ramp.slotWait = s.ramp.slotWait ∧ (shrHold s).lck.attempts = s.lck.attempts ∧
    (shrHold s).lck.motor = s.lck.motor ∧ (shrHold s).lck.startUp = s.lck.startUp ∧
    (shrHold s).lck.door = s.lck.door ∧ (shrHold s).lck.latch = s.lck.latch ∧ (shrHold s).lck.stage = s.lck.stage ∧
    (shrHold s).lck.testPass = s.lck.testPass ∧ (shrHold s).reg.limited = s.reg.limited ∧
    (shrHold s).drv.state = s.drv.state ∧ (shrHold s).drv.window = s.drv.window ∧
    (shrHold s).drv.limited = s.drv.limited ∧ (shrHold s).drv.last = s.drv.last ∧
    (shrHold s).drv.overPresent = s.drv.overPresent ∧ (shrHold s).drv.stuckPresent = s.drv.stuckPresent ∧
    (shrHold s).bli.attempt = s.bli.attempt ∧ (shrHold s).bli.output = s.bli.output ∧
    (shrHold s).bli.frame = s.bli.frame ∧ (shrHold s).bli.errors = s.bli.errors ∧
    (shrHold s).bli.unreliable = s.bli.unreliable ∧ (shrHold s).bli.lineHeld = s.bli.lineHeld ∧
    (shrHold s).bli.txStuck = s.bli.txStuck ∧ (shrHold s).bli.numberConflict = s.bli.numberConflict ∧
    (shrHold s).bli.silent = s.bli.silent ∧ (shrHold s).bli.periodTimer = s.bli.periodTimer ∧
    (shrHold s).bli.departureTimer = s.bli.departureTimer ∧ (shrHold s).shr.state = s.shr.state ∧
    (shrHold s).shr.listenTimer = s.shr.listenTimer ∧ (shrHold s).shr.causes = s.shr.causes ∧
    (shrHold s).shr.solo = s.shr.solo ∧ (shrHold s).shr.sums = s.shr.sums ∧
    (shrHold s).prt.blindRunning = s.prt.blindRunning ∧ (shrHold s).prt.blindCount = s.prt.blindCount ∧
    (shrHold s).prt.secondMs = s.prt.secondMs ∧ (shrHold s).alk.items = s.alk.items ∧
    (shrHold s).alk.committed = s.alk.committed ∧ (shrHold s).alk.seconds = s.alk.seconds ∧
    (shrHold s).alk.resetPending = s.alk.resetPending ∧ (shrHold s).alk.link = s.alk.link := by
  simp [shrHold]

@[simp] theorem shrBackOff_frame (s : State) :
    (shrBackOff s).cyc = s.cyc ∧ (shrBackOff s).prf = s.prf ∧ (shrBackOff s).ramp = s.ramp ∧
    (shrBackOff s).lck = s.lck ∧ (shrBackOff s).tms = s.tms ∧ (shrBackOff s).reg = s.reg ∧
    (shrBackOff s).drv = s.drv ∧ (shrBackOff s).bli = s.bli ∧ (shrBackOff s).ptb = s.ptb ∧
    (shrBackOff s).prt = s.prt ∧ (shrBackOff s).alk = s.alk ∧ (shrBackOff s).pending = s.pending ∧
    (shrBackOff s).shr.state = s.shr.state ∧ (shrBackOff s).shr.listenTimer = s.shr.listenTimer ∧
    (shrBackOff s).shr.causes = s.shr.causes ∧ (shrBackOff s).shr.solo = s.shr.solo ∧
    (shrBackOff s).shr.ho = s.shr.ho ∧ (shrBackOff s).shr.wo = s.shr.wo ∧ (shrBackOff s).shr.co = s.shr.co ∧
    (shrBackOff s).shr.claim = s.shr.claim ∧ (shrBackOff s).shr.claimTimer = s.shr.claimTimer ∧
    (shrBackOff s).shr.sums = s.shr.sums ∧ (shrBackOff s).shr.slot = s.shr.slot ∧
    (shrBackOff s).shr.valve = s.shr.valve := by
  simp [shrBackOff]

@[simp] theorem shrStatic_frame (s : State) :
    (shrStatic s).prf = s.prf ∧ (shrStatic s).tms = s.tms ∧ (shrStatic s).ptb = s.ptb ∧
    (shrStatic s).pending = s.pending ∧ (shrStatic s).draws = s.draws ∧
    (shrStatic s).ramp.segIndex = s.ramp.segIndex ∧ (shrStatic s).ramp.sp = s.ramp.sp ∧
    (shrStatic s).ramp.slotWait = s.ramp.slotWait ∧ (shrStatic s).lck.attempts = s.lck.attempts ∧
    (shrStatic s).lck.motor = s.lck.motor ∧ (shrStatic s).lck.startUp = s.lck.startUp ∧
    (shrStatic s).lck.door = s.lck.door ∧ (shrStatic s).lck.latch = s.lck.latch ∧
    (shrStatic s).lck.stage = s.lck.stage ∧ (shrStatic s).lck.testPass = s.lck.testPass ∧
    (shrStatic s).reg.limited = s.reg.limited ∧ (shrStatic s).drv.state = s.drv.state ∧
    (shrStatic s).drv.window = s.drv.window ∧ (shrStatic s).drv.limited = s.drv.limited ∧
    (shrStatic s).drv.last = s.drv.last ∧ (shrStatic s).drv.overPresent = s.drv.overPresent ∧
    (shrStatic s).drv.stuckPresent = s.drv.stuckPresent ∧ (shrStatic s).bli.attempt = s.bli.attempt ∧
    (shrStatic s).bli.output = s.bli.output ∧ (shrStatic s).bli.frame = s.bli.frame ∧
    (shrStatic s).bli.errors = s.bli.errors ∧ (shrStatic s).bli.unreliable = s.bli.unreliable ∧
    (shrStatic s).bli.lineHeld = s.bli.lineHeld ∧ (shrStatic s).bli.txStuck = s.bli.txStuck ∧
    (shrStatic s).bli.numberConflict = s.bli.numberConflict ∧ (shrStatic s).bli.silent = s.bli.silent ∧
    (shrStatic s).bli.periodTimer = s.bli.periodTimer ∧ (shrStatic s).bli.departureTimer = s.bli.departureTimer ∧
    (shrStatic s).shr.state = s.shr.state ∧ (shrStatic s).shr.listenTimer = s.shr.listenTimer ∧
    (shrStatic s).shr.causes = s.shr.causes ∧ (shrStatic s).shr.solo = s.shr.solo ∧
    (shrStatic s).shr.sums = s.shr.sums ∧ (shrStatic s).prt.blindRunning = s.prt.blindRunning ∧
    (shrStatic s).prt.blindCount = s.prt.blindCount ∧ (shrStatic s).prt.secondMs = s.prt.secondMs ∧
    (shrStatic s).alk.items = s.alk.items ∧ (shrStatic s).alk.committed = s.alk.committed ∧
    (shrStatic s).alk.seconds = s.alk.seconds ∧ (shrStatic s).alk.resetPending = s.alk.resetPending ∧
    (shrStatic s).alk.link = s.alk.link := by
  simp only [shrStatic]
  repeat' split
  all_goals simp

@[simp] theorem shrTakeRequest_frame (s : State) :
    (shrTakeRequest s).prf = s.prf ∧ (shrTakeRequest s).tms = s.tms ∧ (shrTakeRequest s).ptb = s.ptb ∧
    (shrTakeRequest s).pending = s.pending ∧ (shrTakeRequest s).ramp.segIndex = s.ramp.segIndex ∧
    (shrTakeRequest s).ramp.sp = s.ramp.sp ∧ (shrTakeRequest s).ramp.slotWait = s.ramp.slotWait ∧
    (shrTakeRequest s).lck.attempts = s.lck.attempts ∧ (shrTakeRequest s).lck.motor = s.lck.motor ∧
    (shrTakeRequest s).lck.startUp = s.lck.startUp ∧ (shrTakeRequest s).lck.door = s.lck.door ∧
    (shrTakeRequest s).lck.latch = s.lck.latch ∧ (shrTakeRequest s).lck.stage = s.lck.stage ∧
    (shrTakeRequest s).lck.testPass = s.lck.testPass ∧ (shrTakeRequest s).reg.limited = s.reg.limited ∧
    (shrTakeRequest s).drv.state = s.drv.state ∧ (shrTakeRequest s).drv.window = s.drv.window ∧
    (shrTakeRequest s).drv.limited = s.drv.limited ∧ (shrTakeRequest s).drv.last = s.drv.last ∧
    (shrTakeRequest s).drv.overPresent = s.drv.overPresent ∧
    (shrTakeRequest s).drv.stuckPresent = s.drv.stuckPresent ∧ (shrTakeRequest s).bli.attempt = s.bli.attempt ∧
    (shrTakeRequest s).bli.output = s.bli.output ∧ (shrTakeRequest s).bli.frame = s.bli.frame ∧
    (shrTakeRequest s).bli.errors = s.bli.errors ∧ (shrTakeRequest s).bli.unreliable = s.bli.unreliable ∧
    (shrTakeRequest s).bli.lineHeld = s.bli.lineHeld ∧ (shrTakeRequest s).bli.txStuck = s.bli.txStuck ∧
    (shrTakeRequest s).bli.numberConflict = s.bli.numberConflict ∧ (shrTakeRequest s).bli.silent = s.bli.silent ∧
    (shrTakeRequest s).bli.periodTimer = s.bli.periodTimer ∧
    (shrTakeRequest s).bli.departureTimer = s.bli.departureTimer ∧ (shrTakeRequest s).shr.state = s.shr.state ∧
    (shrTakeRequest s).shr.listenTimer = s.shr.listenTimer ∧ (shrTakeRequest s).shr.causes = s.shr.causes ∧
    (shrTakeRequest s).shr.solo = s.shr.solo ∧ (shrTakeRequest s).shr.sums = s.shr.sums ∧
    (shrTakeRequest s).prt.blindRunning = s.prt.blindRunning ∧
    (shrTakeRequest s).prt.blindCount = s.prt.blindCount ∧ (shrTakeRequest s).prt.secondMs = s.prt.secondMs ∧
    (shrTakeRequest s).alk.items = s.alk.items ∧ (shrTakeRequest s).alk.committed = s.alk.committed ∧
    (shrTakeRequest s).alk.seconds = s.alk.seconds ∧ (shrTakeRequest s).alk.resetPending = s.alk.resetPending ∧
    (shrTakeRequest s).alk.link = s.alk.link := by
  simp only [shrTakeRequest]
  repeat' split
  all_goals simp

@[simp] theorem shrRequest_frame (s : State) :
    (shrRequest s).prf = s.prf ∧ (shrRequest s).tms = s.tms ∧ (shrRequest s).ptb = s.ptb ∧
    (shrRequest s).pending = s.pending ∧ (shrRequest s).ramp.segIndex = s.ramp.segIndex ∧
    (shrRequest s).ramp.sp = s.ramp.sp ∧ (shrRequest s).ramp.slotWait = s.ramp.slotWait ∧
    (shrRequest s).lck.attempts = s.lck.attempts ∧ (shrRequest s).lck.motor = s.lck.motor ∧
    (shrRequest s).lck.startUp = s.lck.startUp ∧ (shrRequest s).lck.door = s.lck.door ∧
    (shrRequest s).lck.latch = s.lck.latch ∧ (shrRequest s).lck.stage = s.lck.stage ∧
    (shrRequest s).lck.testPass = s.lck.testPass ∧ (shrRequest s).reg.limited = s.reg.limited ∧
    (shrRequest s).drv.state = s.drv.state ∧ (shrRequest s).drv.window = s.drv.window ∧
    (shrRequest s).drv.limited = s.drv.limited ∧ (shrRequest s).drv.last = s.drv.last ∧
    (shrRequest s).drv.overPresent = s.drv.overPresent ∧ (shrRequest s).drv.stuckPresent = s.drv.stuckPresent ∧
    (shrRequest s).bli.attempt = s.bli.attempt ∧ (shrRequest s).bli.output = s.bli.output ∧
    (shrRequest s).bli.frame = s.bli.frame ∧ (shrRequest s).bli.errors = s.bli.errors ∧
    (shrRequest s).bli.unreliable = s.bli.unreliable ∧ (shrRequest s).bli.lineHeld = s.bli.lineHeld ∧
    (shrRequest s).bli.txStuck = s.bli.txStuck ∧ (shrRequest s).bli.numberConflict = s.bli.numberConflict ∧
    (shrRequest s).bli.silent = s.bli.silent ∧ (shrRequest s).bli.periodTimer = s.bli.periodTimer ∧
    (shrRequest s).bli.departureTimer = s.bli.departureTimer ∧ (shrRequest s).shr.state = s.shr.state ∧
    (shrRequest s).shr.listenTimer = s.shr.listenTimer ∧ (shrRequest s).shr.causes = s.shr.causes ∧
    (shrRequest s).shr.solo = s.shr.solo ∧ (shrRequest s).shr.sums = s.shr.sums ∧
    (shrRequest s).prt.blindRunning = s.prt.blindRunning ∧ (shrRequest s).prt.blindCount = s.prt.blindCount ∧
    (shrRequest s).prt.secondMs = s.prt.secondMs ∧ (shrRequest s).alk.items = s.alk.items ∧
    (shrRequest s).alk.committed = s.alk.committed ∧ (shrRequest s).alk.seconds = s.alk.seconds ∧
    (shrRequest s).alk.resetPending = s.alk.resetPending ∧ (shrRequest s).alk.link = s.alk.link := by
  simp only [shrRequest]
  repeat' split
  all_goals simp

@[simp] theorem rampWait_frame (s : State) :
    (rampWait s).prf = s.prf ∧ (rampWait s).tms = s.tms ∧ (rampWait s).ptb = s.ptb ∧
    (rampWait s).pending = s.pending ∧ (rampWait s).ramp.segIndex = s.ramp.segIndex ∧
    (rampWait s).ramp.sp = s.ramp.sp ∧ (rampWait s).lck.attempts = s.lck.attempts ∧
    (rampWait s).lck.motor = s.lck.motor ∧ (rampWait s).lck.startUp = s.lck.startUp ∧
    (rampWait s).lck.door = s.lck.door ∧ (rampWait s).lck.latch = s.lck.latch ∧
    (rampWait s).lck.stage = s.lck.stage ∧ (rampWait s).lck.testPass = s.lck.testPass ∧
    (rampWait s).reg.limited = s.reg.limited ∧ (rampWait s).drv.state = s.drv.state ∧
    (rampWait s).drv.window = s.drv.window ∧ (rampWait s).drv.limited = s.drv.limited ∧
    (rampWait s).drv.last = s.drv.last ∧ (rampWait s).drv.overPresent = s.drv.overPresent ∧
    (rampWait s).drv.stuckPresent = s.drv.stuckPresent ∧ (rampWait s).bli.attempt = s.bli.attempt ∧
    (rampWait s).bli.output = s.bli.output ∧ (rampWait s).bli.frame = s.bli.frame ∧
    (rampWait s).bli.errors = s.bli.errors ∧ (rampWait s).bli.unreliable = s.bli.unreliable ∧
    (rampWait s).bli.lineHeld = s.bli.lineHeld ∧ (rampWait s).bli.txStuck = s.bli.txStuck ∧
    (rampWait s).bli.numberConflict = s.bli.numberConflict ∧ (rampWait s).bli.silent = s.bli.silent ∧
    (rampWait s).bli.periodTimer = s.bli.periodTimer ∧ (rampWait s).bli.departureTimer = s.bli.departureTimer ∧
    (rampWait s).shr.state = s.shr.state ∧ (rampWait s).shr.listenTimer = s.shr.listenTimer ∧
    (rampWait s).shr.causes = s.shr.causes ∧ (rampWait s).shr.solo = s.shr.solo ∧
    (rampWait s).shr.sums = s.shr.sums ∧ (rampWait s).prt.blindRunning = s.prt.blindRunning ∧
    (rampWait s).prt.blindCount = s.prt.blindCount ∧ (rampWait s).prt.secondMs = s.prt.secondMs ∧
    (rampWait s).alk.items = s.alk.items ∧ (rampWait s).alk.committed = s.alk.committed ∧
    (rampWait s).alk.seconds = s.alk.seconds ∧ (rampWait s).alk.resetPending = s.alk.resetPending ∧
    (rampWait s).alk.link = s.alk.link := by
  simp [rampWait]

@[simp] theorem rampRelease_frame (s : State) :
    (rampRelease s).cyc = s.cyc ∧ (rampRelease s).prf = s.prf ∧ (rampRelease s).lck = s.lck ∧
    (rampRelease s).tms = s.tms ∧ (rampRelease s).reg = s.reg ∧ (rampRelease s).drv = s.drv ∧
    (rampRelease s).ptb = s.ptb ∧ (rampRelease s).prt = s.prt ∧ (rampRelease s).pending = s.pending ∧
    (rampRelease s).draws = s.draws ∧ (rampRelease s).ramp.state = s.ramp.state ∧
    (rampRelease s).ramp.segIndex = s.ramp.segIndex ∧ (rampRelease s).ramp.sp = s.ramp.sp ∧
    (rampRelease s).ramp.holdTimer = s.ramp.holdTimer ∧ (rampRelease s).ramp.segTimer = s.ramp.segTimer ∧
    (rampRelease s).ramp.slotWait = s.ramp.slotWait ∧ (rampRelease s).bli.attempt = s.bli.attempt ∧
    (rampRelease s).bli.output = s.bli.output ∧ (rampRelease s).bli.frame = s.bli.frame ∧
    (rampRelease s).bli.errors = s.bli.errors ∧ (rampRelease s).bli.unreliable = s.bli.unreliable ∧
    (rampRelease s).bli.lineHeld = s.bli.lineHeld ∧ (rampRelease s).bli.txStuck = s.bli.txStuck ∧
    (rampRelease s).bli.numberConflict = s.bli.numberConflict ∧ (rampRelease s).bli.silent = s.bli.silent ∧
    (rampRelease s).bli.periodTimer = s.bli.periodTimer ∧
    (rampRelease s).bli.departureTimer = s.bli.departureTimer ∧ (rampRelease s).shr.state = s.shr.state ∧
    (rampRelease s).shr.listenTimer = s.shr.listenTimer ∧ (rampRelease s).shr.causes = s.shr.causes ∧
    (rampRelease s).shr.solo = s.shr.solo ∧ (rampRelease s).shr.ho = s.shr.ho ∧ (rampRelease s).shr.wo = s.shr.wo ∧
    (rampRelease s).shr.co = s.shr.co ∧ (rampRelease s).shr.claim = s.shr.claim ∧
    (rampRelease s).shr.claimTimer = s.shr.claimTimer ∧ (rampRelease s).shr.sums = s.shr.sums ∧
    (rampRelease s).alk.items = s.alk.items ∧ (rampRelease s).alk.committed = s.alk.committed ∧
    (rampRelease s).alk.seconds = s.alk.seconds ∧ (rampRelease s).alk.resetPending = s.alk.resetPending ∧
    (rampRelease s).alk.link = s.alk.link := by
  simp [rampRelease]

@[simp] theorem rampBegin_frame (i : Nat) (s : State) :
    (rampBegin i s).prf = s.prf ∧ (rampBegin i s).tms = s.tms ∧ (rampBegin i s).ptb = s.ptb ∧
    (rampBegin i s).pending = s.pending ∧ (rampBegin i s).ramp.sp = s.ramp.sp ∧
    (rampBegin i s).lck.attempts = s.lck.attempts ∧ (rampBegin i s).lck.motor = s.lck.motor ∧
    (rampBegin i s).lck.startUp = s.lck.startUp ∧ (rampBegin i s).lck.door = s.lck.door ∧
    (rampBegin i s).lck.latch = s.lck.latch ∧ (rampBegin i s).lck.stage = s.lck.stage ∧
    (rampBegin i s).lck.testPass = s.lck.testPass ∧ (rampBegin i s).reg.limited = s.reg.limited ∧
    (rampBegin i s).drv.state = s.drv.state ∧ (rampBegin i s).drv.window = s.drv.window ∧
    (rampBegin i s).drv.limited = s.drv.limited ∧ (rampBegin i s).drv.last = s.drv.last ∧
    (rampBegin i s).drv.overPresent = s.drv.overPresent ∧ (rampBegin i s).drv.stuckPresent = s.drv.stuckPresent ∧
    (rampBegin i s).bli.attempt = s.bli.attempt ∧ (rampBegin i s).bli.output = s.bli.output ∧
    (rampBegin i s).bli.frame = s.bli.frame ∧ (rampBegin i s).bli.errors = s.bli.errors ∧
    (rampBegin i s).bli.unreliable = s.bli.unreliable ∧ (rampBegin i s).bli.lineHeld = s.bli.lineHeld ∧
    (rampBegin i s).bli.txStuck = s.bli.txStuck ∧ (rampBegin i s).bli.numberConflict = s.bli.numberConflict ∧
    (rampBegin i s).bli.silent = s.bli.silent ∧ (rampBegin i s).bli.periodTimer = s.bli.periodTimer ∧
    (rampBegin i s).bli.departureTimer = s.bli.departureTimer ∧ (rampBegin i s).shr.state = s.shr.state ∧
    (rampBegin i s).shr.listenTimer = s.shr.listenTimer ∧ (rampBegin i s).shr.causes = s.shr.causes ∧
    (rampBegin i s).shr.solo = s.shr.solo ∧ (rampBegin i s).shr.sums = s.shr.sums ∧
    (rampBegin i s).prt.blindRunning = s.prt.blindRunning ∧ (rampBegin i s).prt.blindCount = s.prt.blindCount ∧
    (rampBegin i s).prt.secondMs = s.prt.secondMs ∧ (rampBegin i s).alk.items = s.alk.items ∧
    (rampBegin i s).alk.committed = s.alk.committed ∧ (rampBegin i s).alk.seconds = s.alk.seconds ∧
    (rampBegin i s).alk.resetPending = s.alk.resetPending ∧ (rampBegin i s).alk.link = s.alk.link := by
  simp only [rampBegin]
  repeat' split
  all_goals simp

@[simp] theorem rampStart_frame (s : State) :
    (rampStart s).prf = s.prf ∧ (rampStart s).tms = s.tms ∧ (rampStart s).ptb = s.ptb ∧
    (rampStart s).pending = s.pending ∧ (rampStart s).lck.attempts = s.lck.attempts ∧
    (rampStart s).lck.motor = s.lck.motor ∧ (rampStart s).lck.startUp = s.lck.startUp ∧
    (rampStart s).lck.door = s.lck.door ∧ (rampStart s).lck.latch = s.lck.latch ∧
    (rampStart s).lck.stage = s.lck.stage ∧ (rampStart s).lck.testPass = s.lck.testPass ∧
    (rampStart s).reg.limited = s.reg.limited ∧ (rampStart s).drv.state = s.drv.state ∧
    (rampStart s).drv.window = s.drv.window ∧ (rampStart s).drv.limited = s.drv.limited ∧
    (rampStart s).drv.last = s.drv.last ∧ (rampStart s).drv.overPresent = s.drv.overPresent ∧
    (rampStart s).drv.stuckPresent = s.drv.stuckPresent ∧ (rampStart s).bli.attempt = s.bli.attempt ∧
    (rampStart s).bli.output = s.bli.output ∧ (rampStart s).bli.frame = s.bli.frame ∧
    (rampStart s).bli.errors = s.bli.errors ∧ (rampStart s).bli.unreliable = s.bli.unreliable ∧
    (rampStart s).bli.lineHeld = s.bli.lineHeld ∧ (rampStart s).bli.txStuck = s.bli.txStuck ∧
    (rampStart s).bli.numberConflict = s.bli.numberConflict ∧ (rampStart s).bli.silent = s.bli.silent ∧
    (rampStart s).bli.periodTimer = s.bli.periodTimer ∧ (rampStart s).bli.departureTimer = s.bli.departureTimer ∧
    (rampStart s).shr.state = s.shr.state ∧ (rampStart s).shr.listenTimer = s.shr.listenTimer ∧
    (rampStart s).shr.causes = s.shr.causes ∧ (rampStart s).shr.solo = s.shr.solo ∧
    (rampStart s).shr.sums = s.shr.sums ∧ (rampStart s).prt.blindRunning = s.prt.blindRunning ∧
    (rampStart s).prt.blindCount = s.prt.blindCount ∧ (rampStart s).prt.secondMs = s.prt.secondMs ∧
    (rampStart s).alk.items = s.alk.items ∧ (rampStart s).alk.committed = s.alk.committed ∧
    (rampStart s).alk.seconds = s.alk.seconds ∧ (rampStart s).alk.resetPending = s.alk.resetPending ∧
    (rampStart s).alk.link = s.alk.link := by
  simp [rampStart]

@[simp] theorem shrRecord_frame (s : State) :
    (shrRecord s).cyc = s.cyc ∧ (shrRecord s).prf = s.prf ∧ (shrRecord s).ramp = s.ramp ∧
    (shrRecord s).lck = s.lck ∧ (shrRecord s).tms = s.tms ∧ (shrRecord s).reg = s.reg ∧ (shrRecord s).drv = s.drv ∧
    (shrRecord s).bli = s.bli ∧ (shrRecord s).ptb = s.ptb ∧ (shrRecord s).shr = s.shr ∧ (shrRecord s).prt = s.prt ∧
    (shrRecord s).pending = s.pending ∧ (shrRecord s).draws = s.draws ∧ (shrRecord s).alk.items = s.alk.items ∧
    (shrRecord s).alk.committed = s.alk.committed ∧ (shrRecord s).alk.seconds = s.alk.seconds ∧
    (shrRecord s).alk.resetPending = s.alk.resetPending ∧ (shrRecord s).alk.link = s.alk.link := by
  simp [shrRecord]

@[simp] theorem shrSlotFallback_frame (s : State) :
    (shrSlotFallback s).prf = s.prf ∧ (shrSlotFallback s).tms = s.tms ∧ (shrSlotFallback s).ptb = s.ptb ∧
    (shrSlotFallback s).pending = s.pending ∧ (shrSlotFallback s).draws = s.draws ∧
    (shrSlotFallback s).ramp.segIndex = s.ramp.segIndex ∧ (shrSlotFallback s).ramp.sp = s.ramp.sp ∧
    (shrSlotFallback s).ramp.slotWait = s.ramp.slotWait ∧ (shrSlotFallback s).lck.attempts = s.lck.attempts ∧
    (shrSlotFallback s).lck.motor = s.lck.motor ∧ (shrSlotFallback s).lck.startUp = s.lck.startUp ∧
    (shrSlotFallback s).lck.door = s.lck.door ∧ (shrSlotFallback s).lck.latch = s.lck.latch ∧
    (shrSlotFallback s).lck.stage = s.lck.stage ∧ (shrSlotFallback s).lck.testPass = s.lck.testPass ∧
    (shrSlotFallback s).reg.limited = s.reg.limited ∧ (shrSlotFallback s).drv.state = s.drv.state ∧
    (shrSlotFallback s).drv.window = s.drv.window ∧ (shrSlotFallback s).drv.limited = s.drv.limited ∧
    (shrSlotFallback s).drv.last = s.drv.last ∧ (shrSlotFallback s).drv.overPresent = s.drv.overPresent ∧
    (shrSlotFallback s).drv.stuckPresent = s.drv.stuckPresent ∧ (shrSlotFallback s).bli.attempt = s.bli.attempt ∧
    (shrSlotFallback s).bli.output = s.bli.output ∧ (shrSlotFallback s).bli.frame = s.bli.frame ∧
    (shrSlotFallback s).bli.errors = s.bli.errors ∧ (shrSlotFallback s).bli.unreliable = s.bli.unreliable ∧
    (shrSlotFallback s).bli.lineHeld = s.bli.lineHeld ∧ (shrSlotFallback s).bli.txStuck = s.bli.txStuck ∧
    (shrSlotFallback s).bli.numberConflict = s.bli.numberConflict ∧ (shrSlotFallback s).bli.silent = s.bli.silent ∧
    (shrSlotFallback s).bli.periodTimer = s.bli.periodTimer ∧
    (shrSlotFallback s).bli.departureTimer = s.bli.departureTimer ∧ (shrSlotFallback s).shr.state = s.shr.state ∧
    (shrSlotFallback s).shr.listenTimer = s.shr.listenTimer ∧ (shrSlotFallback s).shr.causes = s.shr.causes ∧
    (shrSlotFallback s).shr.solo = s.shr.solo ∧ (shrSlotFallback s).shr.sums = s.shr.sums ∧
    (shrSlotFallback s).prt.blindRunning = s.prt.blindRunning ∧
    (shrSlotFallback s).prt.blindCount = s.prt.blindCount ∧ (shrSlotFallback s).prt.secondMs = s.prt.secondMs ∧
    (shrSlotFallback s).alk.items = s.alk.items ∧ (shrSlotFallback s).alk.committed = s.alk.committed ∧
    (shrSlotFallback s).alk.seconds = s.alk.seconds ∧ (shrSlotFallback s).alk.resetPending = s.alk.resetPending ∧
    (shrSlotFallback s).alk.link = s.alk.link := by
  simp only [shrSlotFallback]
  repeat' split
  all_goals simp

@[simp] theorem shrWithdraw_frame (s : State) :
    (shrWithdraw s).cyc = s.cyc ∧ (shrWithdraw s).prf = s.prf ∧ (shrWithdraw s).ramp = s.ramp ∧
    (shrWithdraw s).lck = s.lck ∧ (shrWithdraw s).tms = s.tms ∧ (shrWithdraw s).reg = s.reg ∧
    (shrWithdraw s).drv = s.drv ∧ (shrWithdraw s).ptb = s.ptb ∧ (shrWithdraw s).prt = s.prt ∧
    (shrWithdraw s).alk = s.alk ∧ (shrWithdraw s).pending = s.pending ∧ (shrWithdraw s).draws = s.draws ∧
    (shrWithdraw s).bli.attempt = s.bli.attempt ∧ (shrWithdraw s).bli.output = s.bli.output ∧
    (shrWithdraw s).bli.frame = s.bli.frame ∧ (shrWithdraw s).bli.errors = s.bli.errors ∧
    (shrWithdraw s).bli.unreliable = s.bli.unreliable ∧ (shrWithdraw s).bli.lineHeld = s.bli.lineHeld ∧
    (shrWithdraw s).bli.txStuck = s.bli.txStuck ∧ (shrWithdraw s).bli.numberConflict = s.bli.numberConflict ∧
    (shrWithdraw s).bli.silent = s.bli.silent ∧ (shrWithdraw s).bli.periodTimer = s.bli.periodTimer ∧
    (shrWithdraw s).bli.departureTimer = s.bli.departureTimer ∧ (shrWithdraw s).shr.state = s.shr.state ∧
    (shrWithdraw s).shr.listenTimer = s.shr.listenTimer ∧ (shrWithdraw s).shr.causes = s.shr.causes ∧
    (shrWithdraw s).shr.solo = s.shr.solo ∧ (shrWithdraw s).shr.ho = s.shr.ho ∧ (shrWithdraw s).shr.wo = s.shr.wo ∧
    (shrWithdraw s).shr.sums = s.shr.sums ∧ (shrWithdraw s).shr.slot = s.shr.slot ∧
    (shrWithdraw s).shr.request = s.shr.request ∧ (shrWithdraw s).shr.valve = s.shr.valve := by
  simp only [shrWithdraw]
  repeat' split
  all_goals simp

@[simp] theorem shrSolo_frame (s : State) :
    (shrSolo s).prf = s.prf ∧ (shrSolo s).ramp = s.ramp ∧ (shrSolo s).lck = s.lck ∧ (shrSolo s).tms = s.tms ∧
    (shrSolo s).reg = s.reg ∧ (shrSolo s).drv = s.drv ∧ (shrSolo s).ptb = s.ptb ∧ (shrSolo s).prt = s.prt ∧
    (shrSolo s).alk = s.alk ∧ (shrSolo s).pending = s.pending ∧ (shrSolo s).draws = s.draws ∧
    (shrSolo s).cyc.phase = s.cyc.phase ∧ (shrSolo s).cyc.abortPending = s.cyc.abortPending ∧
    (shrSolo s).bli.attempt = s.bli.attempt ∧ (shrSolo s).bli.output = s.bli.output ∧
    (shrSolo s).bli.frame = s.bli.frame ∧ (shrSolo s).bli.errors = s.bli.errors ∧
    (shrSolo s).bli.unreliable = s.bli.unreliable ∧ (shrSolo s).bli.lineHeld = s.bli.lineHeld ∧
    (shrSolo s).bli.txStuck = s.bli.txStuck ∧ (shrSolo s).bli.numberConflict = s.bli.numberConflict ∧
    (shrSolo s).bli.silent = s.bli.silent ∧ (shrSolo s).bli.periodTimer = s.bli.periodTimer ∧
    (shrSolo s).bli.departureTimer = s.bli.departureTimer ∧ (shrSolo s).shr.state = s.shr.state ∧
    (shrSolo s).shr.listenTimer = s.shr.listenTimer ∧ (shrSolo s).shr.causes = s.shr.causes ∧
    (shrSolo s).shr.solo = s.shr.solo ∧ (shrSolo s).shr.wo = s.shr.wo ∧ (shrSolo s).shr.co = s.shr.co ∧
    (shrSolo s).shr.claim = s.shr.claim ∧ (shrSolo s).shr.claimTimer = s.shr.claimTimer ∧
    (shrSolo s).shr.sums = s.shr.sums ∧ (shrSolo s).shr.slot = s.shr.slot ∧
    (shrSolo s).shr.request = s.shr.request ∧ (shrSolo s).shr.valve = s.shr.valve := by
  simp only [shrSolo]
  repeat' split
  all_goals simp

@[simp] theorem shrEnterFallback_frame (s : State) :
    (shrEnterFallback s).prf = s.prf ∧ (shrEnterFallback s).tms = s.tms ∧ (shrEnterFallback s).ptb = s.ptb ∧
    (shrEnterFallback s).pending = s.pending ∧ (shrEnterFallback s).draws = s.draws ∧
    (shrEnterFallback s).ramp.segIndex = s.ramp.segIndex ∧ (shrEnterFallback s).ramp.sp = s.ramp.sp ∧
    (shrEnterFallback s).ramp.slotWait = s.ramp.slotWait ∧ (shrEnterFallback s).lck.attempts = s.lck.attempts ∧
    (shrEnterFallback s).lck.motor = s.lck.motor ∧ (shrEnterFallback s).lck.startUp = s.lck.startUp ∧
    (shrEnterFallback s).lck.door = s.lck.door ∧ (shrEnterFallback s).lck.latch = s.lck.latch ∧
    (shrEnterFallback s).lck.stage = s.lck.stage ∧ (shrEnterFallback s).lck.testPass = s.lck.testPass ∧
    (shrEnterFallback s).reg.limited = s.reg.limited ∧ (shrEnterFallback s).drv.state = s.drv.state ∧
    (shrEnterFallback s).drv.window = s.drv.window ∧ (shrEnterFallback s).drv.limited = s.drv.limited ∧
    (shrEnterFallback s).drv.last = s.drv.last ∧ (shrEnterFallback s).drv.overPresent = s.drv.overPresent ∧
    (shrEnterFallback s).drv.stuckPresent = s.drv.stuckPresent ∧ (shrEnterFallback s).bli.attempt = s.bli.attempt ∧
    (shrEnterFallback s).bli.output = s.bli.output ∧ (shrEnterFallback s).bli.frame = s.bli.frame ∧
    (shrEnterFallback s).bli.errors = s.bli.errors ∧ (shrEnterFallback s).bli.unreliable = s.bli.unreliable ∧
    (shrEnterFallback s).bli.lineHeld = s.bli.lineHeld ∧ (shrEnterFallback s).bli.txStuck = s.bli.txStuck ∧
    (shrEnterFallback s).bli.numberConflict = s.bli.numberConflict ∧
    (shrEnterFallback s).bli.silent = s.bli.silent ∧ (shrEnterFallback s).bli.periodTimer = s.bli.periodTimer ∧
    (shrEnterFallback s).bli.departureTimer = s.bli.departureTimer ∧
    (shrEnterFallback s).shr.causes = s.shr.causes ∧ (shrEnterFallback s).shr.solo = s.shr.solo ∧
    (shrEnterFallback s).shr.sums = s.shr.sums ∧ (shrEnterFallback s).prt.blindRunning = s.prt.blindRunning ∧
    (shrEnterFallback s).prt.blindCount = s.prt.blindCount ∧ (shrEnterFallback s).prt.secondMs = s.prt.secondMs ∧
    (shrEnterFallback s).alk.items = s.alk.items ∧ (shrEnterFallback s).alk.committed = s.alk.committed ∧
    (shrEnterFallback s).alk.seconds = s.alk.seconds ∧ (shrEnterFallback s).alk.resetPending = s.alk.resetPending ∧
    (shrEnterFallback s).alk.link = s.alk.link := by
  simp [shrEnterFallback]

@[simp] theorem shrAddCause_frame (c : Cause) (s : State) :
    (shrAddCause c s).prf = s.prf ∧ (shrAddCause c s).tms = s.tms ∧ (shrAddCause c s).ptb = s.ptb ∧
    (shrAddCause c s).pending = s.pending ∧ (shrAddCause c s).draws = s.draws ∧
    (shrAddCause c s).ramp.segIndex = s.ramp.segIndex ∧ (shrAddCause c s).ramp.sp = s.ramp.sp ∧
    (shrAddCause c s).ramp.slotWait = s.ramp.slotWait ∧ (shrAddCause c s).lck.attempts = s.lck.attempts ∧
    (shrAddCause c s).lck.motor = s.lck.motor ∧ (shrAddCause c s).lck.startUp = s.lck.startUp ∧
    (shrAddCause c s).lck.door = s.lck.door ∧ (shrAddCause c s).lck.latch = s.lck.latch ∧
    (shrAddCause c s).lck.stage = s.lck.stage ∧ (shrAddCause c s).lck.testPass = s.lck.testPass ∧
    (shrAddCause c s).reg.limited = s.reg.limited ∧ (shrAddCause c s).drv.state = s.drv.state ∧
    (shrAddCause c s).drv.window = s.drv.window ∧ (shrAddCause c s).drv.limited = s.drv.limited ∧
    (shrAddCause c s).drv.last = s.drv.last ∧ (shrAddCause c s).drv.overPresent = s.drv.overPresent ∧
    (shrAddCause c s).drv.stuckPresent = s.drv.stuckPresent ∧ (shrAddCause c s).bli.attempt = s.bli.attempt ∧
    (shrAddCause c s).bli.output = s.bli.output ∧ (shrAddCause c s).bli.frame = s.bli.frame ∧
    (shrAddCause c s).bli.errors = s.bli.errors ∧ (shrAddCause c s).bli.unreliable = s.bli.unreliable ∧
    (shrAddCause c s).bli.lineHeld = s.bli.lineHeld ∧ (shrAddCause c s).bli.txStuck = s.bli.txStuck ∧
    (shrAddCause c s).bli.numberConflict = s.bli.numberConflict ∧ (shrAddCause c s).bli.silent = s.bli.silent ∧
    (shrAddCause c s).bli.periodTimer = s.bli.periodTimer ∧
    (shrAddCause c s).bli.departureTimer = s.bli.departureTimer ∧ (shrAddCause c s).shr.solo = s.shr.solo ∧
    (shrAddCause c s).shr.sums = s.shr.sums ∧ (shrAddCause c s).prt.blindRunning = s.prt.blindRunning ∧
    (shrAddCause c s).prt.blindCount = s.prt.blindCount ∧ (shrAddCause c s).prt.secondMs = s.prt.secondMs ∧
    (shrAddCause c s).alk.items = s.alk.items ∧ (shrAddCause c s).alk.committed = s.alk.committed ∧
    (shrAddCause c s).alk.seconds = s.alk.seconds ∧ (shrAddCause c s).alk.resetPending = s.alk.resetPending ∧
    (shrAddCause c s).alk.link = s.alk.link := by
  simp only [shrAddCause]
  repeat' split
  all_goals simp

@[simp] theorem shrRelisten_frame (s : State) :
    (shrRelisten s).cyc = s.cyc ∧ (shrRelisten s).prf = s.prf ∧ (shrRelisten s).ramp = s.ramp ∧
    (shrRelisten s).lck = s.lck ∧ (shrRelisten s).tms = s.tms ∧ (shrRelisten s).reg = s.reg ∧
    (shrRelisten s).drv = s.drv ∧ (shrRelisten s).ptb = s.ptb ∧ (shrRelisten s).prt = s.prt ∧
    (shrRelisten s).pending = s.pending ∧ (shrRelisten s).draws = s.draws ∧
    (shrRelisten s).bli.attempt = s.bli.attempt ∧ (shrRelisten s).bli.output = s.bli.output ∧
    (shrRelisten s).bli.frame = s.bli.frame ∧ (shrRelisten s).bli.errors = s.bli.errors ∧
    (shrRelisten s).bli.unreliable = s.bli.unreliable ∧ (shrRelisten s).bli.lineHeld = s.bli.lineHeld ∧
    (shrRelisten s).bli.txStuck = s.bli.txStuck ∧ (shrRelisten s).bli.numberConflict = s.bli.numberConflict ∧
    (shrRelisten s).bli.silent = s.bli.silent ∧ (shrRelisten s).bli.periodTimer = s.bli.periodTimer ∧
    (shrRelisten s).bli.departureTimer = s.bli.departureTimer ∧ (shrRelisten s).shr.causes = s.shr.causes ∧
    (shrRelisten s).shr.solo = s.shr.solo ∧ (shrRelisten s).shr.ho = s.shr.ho ∧ (shrRelisten s).shr.wo = s.shr.wo ∧
    (shrRelisten s).shr.co = s.shr.co ∧ (shrRelisten s).shr.claim = s.shr.claim ∧
    (shrRelisten s).shr.claimTimer = s.shr.claimTimer ∧ (shrRelisten s).shr.sums = s.shr.sums ∧
    (shrRelisten s).shr.slot = s.shr.slot ∧ (shrRelisten s).shr.request = s.shr.request ∧
    (shrRelisten s).shr.valve = s.shr.valve ∧ (shrRelisten s).alk.items = s.alk.items ∧
    (shrRelisten s).alk.committed = s.alk.committed ∧ (shrRelisten s).alk.seconds = s.alk.seconds ∧
    (shrRelisten s).alk.resetPending = s.alk.resetPending ∧ (shrRelisten s).alk.link = s.alk.link := by
  simp [shrRelisten]

@[simp] theorem shrRemoveCause_frame (c : Cause) (s : State) :
    (shrRemoveCause c s).cyc = s.cyc ∧ (shrRemoveCause c s).prf = s.prf ∧ (shrRemoveCause c s).ramp = s.ramp ∧
    (shrRemoveCause c s).lck = s.lck ∧ (shrRemoveCause c s).tms = s.tms ∧ (shrRemoveCause c s).reg = s.reg ∧
    (shrRemoveCause c s).drv = s.drv ∧ (shrRemoveCause c s).ptb = s.ptb ∧ (shrRemoveCause c s).prt = s.prt ∧
    (shrRemoveCause c s).pending = s.pending ∧ (shrRemoveCause c s).draws = s.draws ∧
    (shrRemoveCause c s).bli.attempt = s.bli.attempt ∧ (shrRemoveCause c s).bli.output = s.bli.output ∧
    (shrRemoveCause c s).bli.frame = s.bli.frame ∧ (shrRemoveCause c s).bli.errors = s.bli.errors ∧
    (shrRemoveCause c s).bli.unreliable = s.bli.unreliable ∧ (shrRemoveCause c s).bli.lineHeld = s.bli.lineHeld ∧
    (shrRemoveCause c s).bli.txStuck = s.bli.txStuck ∧
    (shrRemoveCause c s).bli.numberConflict = s.bli.numberConflict ∧
    (shrRemoveCause c s).bli.silent = s.bli.silent ∧ (shrRemoveCause c s).bli.periodTimer = s.bli.periodTimer ∧
    (shrRemoveCause c s).bli.departureTimer = s.bli.departureTimer ∧ (shrRemoveCause c s).shr.solo = s.shr.solo ∧
    (shrRemoveCause c s).shr.ho = s.shr.ho ∧ (shrRemoveCause c s).shr.wo = s.shr.wo ∧
    (shrRemoveCause c s).shr.co = s.shr.co ∧ (shrRemoveCause c s).shr.claim = s.shr.claim ∧
    (shrRemoveCause c s).shr.claimTimer = s.shr.claimTimer ∧ (shrRemoveCause c s).shr.sums = s.shr.sums ∧
    (shrRemoveCause c s).shr.slot = s.shr.slot ∧ (shrRemoveCause c s).shr.request = s.shr.request ∧
    (shrRemoveCause c s).shr.valve = s.shr.valve ∧ (shrRemoveCause c s).alk.items = s.alk.items ∧
    (shrRemoveCause c s).alk.committed = s.alk.committed ∧ (shrRemoveCause c s).alk.seconds = s.alk.seconds ∧
    (shrRemoveCause c s).alk.resetPending = s.alk.resetPending ∧ (shrRemoveCause c s).alk.link = s.alk.link := by
  simp only [shrRemoveCause]
  repeat' split
  all_goals simp

@[simp] theorem shrSums_frame (x : Sums) (s : State) :
    (shrSums x s).prf = s.prf ∧ (shrSums x s).ramp = s.ramp ∧ (shrSums x s).lck = s.lck ∧
    (shrSums x s).tms = s.tms ∧ (shrSums x s).reg = s.reg ∧ (shrSums x s).drv = s.drv ∧ (shrSums x s).ptb = s.ptb ∧
    (shrSums x s).prt = s.prt ∧ (shrSums x s).alk = s.alk ∧ (shrSums x s).pending = s.pending ∧
    (shrSums x s).draws = s.draws ∧ (shrSums x s).cyc.phase = s.cyc.phase ∧
    (shrSums x s).cyc.abortPending = s.cyc.abortPending ∧ (shrSums x s).bli.attempt = s.bli.attempt ∧
    (shrSums x s).bli.output = s.bli.output ∧ (shrSums x s).bli.frame = s.bli.frame ∧
    (shrSums x s).bli.errors = s.bli.errors ∧ (shrSums x s).bli.unreliable = s.bli.unreliable ∧
    (shrSums x s).bli.lineHeld = s.bli.lineHeld ∧ (shrSums x s).bli.txStuck = s.bli.txStuck ∧
    (shrSums x s).bli.numberConflict = s.bli.numberConflict ∧ (shrSums x s).bli.silent = s.bli.silent ∧
    (shrSums x s).bli.periodTimer = s.bli.periodTimer ∧ (shrSums x s).bli.departureTimer = s.bli.departureTimer ∧
    (shrSums x s).shr.state = s.shr.state ∧ (shrSums x s).shr.listenTimer = s.shr.listenTimer ∧
    (shrSums x s).shr.causes = s.shr.causes ∧ (shrSums x s).shr.solo = s.shr.solo ∧
    (shrSums x s).shr.wo = s.shr.wo ∧ (shrSums x s).shr.slot = s.shr.slot ∧
    (shrSums x s).shr.request = s.shr.request ∧ (shrSums x s).shr.valve = s.shr.valve := by
  simp only [shrSums]
  repeat' split
  all_goals simp

end Sys2Proof.Machine
end

