-- ==== Sys2Proof/Laws/FrameLock.lean ====
section
/-! SUPPORT. What the lock controller operations leave as they were. -/

namespace Sys2Proof.Machine

@[simp] theorem lckLostGone_frame (s : State) :
    (lckLostGone s).cyc = s.cyc ∧ (lckLostGone s).prf = s.prf ∧ (lckLostGone s).ramp = s.ramp ∧
    (lckLostGone s).tms = s.tms ∧ (lckLostGone s).reg = s.reg ∧ (lckLostGone s).drv = s.drv ∧
    (lckLostGone s).bli = s.bli ∧ (lckLostGone s).ptb = s.ptb ∧ (lckLostGone s).shr = s.shr ∧
    (lckLostGone s).pending = s.pending ∧ (lckLostGone s).draws = s.draws ∧
    (lckLostGone s).lck.state = s.lck.state ∧ (lckLostGone s).lck.attempts = s.lck.attempts ∧
    (lckLostGone s).lck.motor = s.lck.motor ∧ (lckLostGone s).lck.startUp = s.lck.startUp ∧
    (lckLostGone s).lck.door = s.lck.door ∧ (lckLostGone s).lck.latch = s.lck.latch ∧
    (lckLostGone s).lck.stage = s.lck.stage ∧ (lckLostGone s).lck.testPass = s.lck.testPass ∧
    (lckLostGone s).prt.blindRunning = s.prt.blindRunning ∧ (lckLostGone s).prt.blindCount = s.prt.blindCount ∧
    (lckLostGone s).prt.secondMs = s.prt.secondMs ∧ (lckLostGone s).alk.items = s.alk.items ∧
    (lckLostGone s).alk.committed = s.alk.committed ∧ (lckLostGone s).alk.seconds = s.alk.seconds ∧
    (lckLostGone s).alk.resetPending = s.alk.resetPending ∧ (lckLostGone s).alk.link = s.alk.link := by
  simp only [lckLostGone]
  repeat' split
  all_goals simp

@[simp] theorem lckForcedGone_frame (s : State) :
    (lckForcedGone s).cyc = s.cyc ∧ (lckForcedGone s).prf = s.prf ∧ (lckForcedGone s).ramp = s.ramp ∧
    (lckForcedGone s).tms = s.tms ∧ (lckForcedGone s).reg = s.reg ∧ (lckForcedGone s).drv = s.drv ∧
    (lckForcedGone s).bli = s.bli ∧ (lckForcedGone s).ptb = s.ptb ∧ (lckForcedGone s).shr = s.shr ∧
    (lckForcedGone s).pending = s.pending ∧ (lckForcedGone s).draws = s.draws ∧
    (lckForcedGone s).lck.state = s.lck.state ∧ (lckForcedGone s).lck.attempts = s.lck.attempts ∧
    (lckForcedGone s).lck.motor = s.lck.motor ∧ (lckForcedGone s).lck.startUp = s.lck.startUp ∧
    (lckForcedGone s).lck.door = s.lck.door ∧ (lckForcedGone s).lck.latch = s.lck.latch ∧
    (lckForcedGone s).lck.stage = s.lck.stage ∧ (lckForcedGone s).lck.testPass = s.lck.testPass ∧
    (lckForcedGone s).prt.blindRunning = s.prt.blindRunning ∧ (lckForcedGone s).prt.blindCount = s.prt.blindCount ∧
    (lckForcedGone s).prt.secondMs = s.prt.secondMs ∧ (lckForcedGone s).alk.items = s.alk.items ∧
    (lckForcedGone s).alk.committed = s.alk.committed ∧ (lckForcedGone s).alk.seconds = s.alk.seconds ∧
    (lckForcedGone s).alk.resetPending = s.alk.resetPending ∧ (lckForcedGone s).alk.link = s.alk.link := by
  simp only [lckForcedGone]
  repeat' split
  all_goals simp

@[simp] theorem lckReevaluate_frame (s : State) :
    (lckReevaluate s).cyc = s.cyc ∧ (lckReevaluate s).prf = s.prf ∧ (lckReevaluate s).ramp = s.ramp ∧
    (lckReevaluate s).tms = s.tms ∧ (lckReevaluate s).reg = s.reg ∧ (lckReevaluate s).drv = s.drv ∧
    (lckReevaluate s).bli = s.bli ∧ (lckReevaluate s).ptb = s.ptb ∧ (lckReevaluate s).shr = s.shr ∧
    (lckReevaluate s).pending = s.pending ∧ (lckReevaluate s).draws = s.draws ∧
    (lckReevaluate s).lck.state = s.lck.state ∧ (lckReevaluate s).lck.attempts = s.lck.attempts ∧
    (lckReevaluate s).lck.motor = s.lck.motor ∧ (lckReevaluate s).lck.startUp = s.lck.startUp ∧
    (lckReevaluate s).lck.door = s.lck.door ∧ (lckReevaluate s).lck.latch = s.lck.latch ∧
    (lckReevaluate s).lck.stage = s.lck.stage ∧ (lckReevaluate s).prt.blindRunning = s.prt.blindRunning ∧
    (lckReevaluate s).prt.blindCount = s.prt.blindCount ∧ (lckReevaluate s).prt.secondMs = s.prt.secondMs ∧
    (lckReevaluate s).alk.items = s.alk.items ∧ (lckReevaluate s).alk.committed = s.alk.committed ∧
    (lckReevaluate s).alk.seconds = s.alk.seconds ∧ (lckReevaluate s).alk.resetPending = s.alk.resetPending ∧
    (lckReevaluate s).alk.link = s.alk.link := by
  simp only [lckReevaluate]
  repeat' split
  all_goals simp

@[simp] theorem lckClearance_frame (s : State) :
    (lckClearance s).cyc = s.cyc ∧ (lckClearance s).prf = s.prf ∧ (lckClearance s).ramp = s.ramp ∧
    (lckClearance s).tms = s.tms ∧ (lckClearance s).reg = s.reg ∧ (lckClearance s).drv = s.drv ∧
    (lckClearance s).bli = s.bli ∧ (lckClearance s).ptb = s.ptb ∧ (lckClearance s).shr = s.shr ∧
    (lckClearance s).prt = s.prt ∧ (lckClearance s).alk = s.alk ∧ (lckClearance s).pending = s.pending ∧
    (lckClearance s).draws = s.draws ∧ (lckClearance s).lck.state = s.lck.state ∧
    (lckClearance s).lck.attempts = s.lck.attempts ∧ (lckClearance s).lck.startUp = s.lck.startUp ∧
    (lckClearance s).lck.door = s.lck.door ∧ (lckClearance s).lck.latch = s.lck.latch ∧
    (lckClearance s).lck.testPass = s.lck.testPass := by
  simp [lckClearance]

@[simp] theorem lckUnlockDrive_frame (s : State) :
    (lckUnlockDrive s).cyc = s.cyc ∧ (lckUnlockDrive s).prf = s.prf ∧ (lckUnlockDrive s).ramp = s.ramp ∧
    (lckUnlockDrive s).tms = s.tms ∧ (lckUnlockDrive s).reg = s.reg ∧ (lckUnlockDrive s).drv = s.drv ∧
    (lckUnlockDrive s).bli = s.bli ∧ (lckUnlockDrive s).ptb = s.ptb ∧ (lckUnlockDrive s).shr = s.shr ∧
    (lckUnlockDrive s).prt = s.prt ∧ (lckUnlockDrive s).alk = s.alk ∧ (lckUnlockDrive s).pending = s.pending ∧
    (lckUnlockDrive s).draws = s.draws ∧ (lckUnlockDrive s).lck.state = s.lck.state ∧
    (lckUnlockDrive s).lck.attempts = s.lck.attempts ∧ (lckUnlockDrive s).lck.startUp = s.lck.startUp ∧
    (lckUnlockDrive s).lck.door = s.lck.door ∧ (lckUnlockDrive s).lck.latch = s.lck.latch ∧
    (lckUnlockDrive s).lck.testPass = s.lck.testPass := by
  simp only [lckUnlockDrive]
  repeat' split
  all_goals simp

@[simp] theorem lckUnlock_frame (s : State) :
    (lckUnlock s).cyc = s.cyc ∧ (lckUnlock s).prf = s.prf ∧ (lckUnlock s).ramp = s.ramp ∧
    (lckUnlock s).tms = s.tms ∧ (lckUnlock s).reg = s.reg ∧ (lckUnlock s).bli = s.bli ∧ (lckUnlock s).ptb = s.ptb ∧
    (lckUnlock s).shr = s.shr ∧ (lckUnlock s).pending = s.pending ∧ (lckUnlock s).draws = s.draws ∧
    (lckUnlock s).lck.startUp = s.lck.startUp ∧ (lckUnlock s).lck.door = s.lck.door ∧
    (lckUnlock s).lck.latch = s.lck.latch ∧ (lckUnlock s).lck.testPass = s.lck.testPass ∧
    (lckUnlock s).drv.state = s.drv.state ∧ (lckUnlock s).drv.window = s.drv.window ∧
    (lckUnlock s).drv.limited = s.drv.limited ∧ (lckUnlock s).drv.last = s.drv.last ∧
    (lckUnlock s).drv.overPresent = s.drv.overPresent ∧ (lckUnlock s).drv.stuckPresent = s.drv.stuckPresent ∧
    (lckUnlock s).drv.permitted = s.drv.permitted ∧ (lckUnlock s).prt.blindRunning = s.prt.blindRunning ∧
    (lckUnlock s).prt.blindCount = s.prt.blindCount ∧ (lckUnlock s).prt.secondMs = s.prt.secondMs ∧
    (lckUnlock s).alk.items = s.alk.items ∧ (lckUnlock s).alk.committed = s.alk.committed ∧
    (lckUnlock s).alk.seconds = s.alk.seconds ∧ (lckUnlock s).alk.resetPending = s.alk.resetPending ∧
    (lckUnlock s).alk.link = s.alk.link := by
  simp [lckUnlock]

@[simp] theorem cycCoolExam_frame (s : State) :
    (cycCoolExam s).prf = s.prf ∧ (cycCoolExam s).ramp = s.ramp ∧ (cycCoolExam s).tms = s.tms ∧
    (cycCoolExam s).bli = s.bli ∧ (cycCoolExam s).ptb = s.ptb ∧ (cycCoolExam s).shr = s.shr ∧
    (cycCoolExam s).pending = s.pending ∧ (cycCoolExam s).draws = s.draws ∧
    (cycCoolExam s).cyc.record = s.cyc.record ∧ (cycCoolExam s).lck.startUp = s.lck.startUp ∧
    (cycCoolExam s).lck.door = s.lck.door ∧ (cycCoolExam s).lck.latch = s.lck.latch ∧
    (cycCoolExam s).lck.testPass = s.lck.testPass ∧ (cycCoolExam s).reg.demand = s.reg.demand ∧
    (cycCoolExam s).reg.integral = s.reg.integral ∧ (cycCoolExam s).reg.limited = s.reg.limited ∧
    (cycCoolExam s).drv.state = s.drv.state ∧ (cycCoolExam s).drv.window = s.drv.window ∧
    (cycCoolExam s).drv.limited = s.drv.limited ∧ (cycCoolExam s).drv.last = s.drv.last ∧
    (cycCoolExam s).drv.overPresent = s.drv.overPresent ∧ (cycCoolExam s).drv.stuckPresent = s.drv.stuckPresent ∧
    (cycCoolExam s).drv.permitted = s.drv.permitted ∧ (cycCoolExam s).prt.blindRunning = s.prt.blindRunning ∧
    (cycCoolExam s).prt.blindCount = s.prt.blindCount ∧ (cycCoolExam s).prt.secondMs = s.prt.secondMs ∧
    (cycCoolExam s).alk.items = s.alk.items ∧ (cycCoolExam s).alk.committed = s.alk.committed ∧
    (cycCoolExam s).alk.seconds = s.alk.seconds ∧ (cycCoolExam s).alk.resetPending = s.alk.resetPending ∧
    (cycCoolExam s).alk.link = s.alk.link := by
  simp only [cycCoolExam]
  repeat' split
  all_goals simp

@[simp] theorem cycTrippedExam_frame (s : State) :
    (cycTrippedExam s).cyc = s.cyc ∧ (cycTrippedExam s).prf = s.prf ∧ (cycTrippedExam s).ramp = s.ramp ∧
    (cycTrippedExam s).tms = s.tms ∧ (cycTrippedExam s).reg = s.reg ∧ (cycTrippedExam s).bli = s.bli ∧
    (cycTrippedExam s).ptb = s.ptb ∧ (cycTrippedExam s).shr = s.shr ∧ (cycTrippedExam s).pending = s.pending ∧
    (cycTrippedExam s).draws = s.draws ∧ (cycTrippedExam s).lck.startUp = s.lck.startUp ∧
    (cycTrippedExam s).lck.door = s.lck.door ∧ (cycTrippedExam s).lck.latch = s.lck.latch ∧
    (cycTrippedExam s).lck.testPass = s.lck.testPass ∧ (cycTrippedExam s).drv.state = s.drv.state ∧
    (cycTrippedExam s).drv.window = s.drv.window ∧ (cycTrippedExam s).drv.limited = s.drv.limited ∧
    (cycTrippedExam s).drv.last = s.drv.last ∧ (cycTrippedExam s).drv.overPresent = s.drv.overPresent ∧
    (cycTrippedExam s).drv.stuckPresent = s.drv.stuckPresent ∧ (cycTrippedExam s).drv.permitted = s.drv.permitted ∧
    (cycTrippedExam s).prt.blindRunning = s.prt.blindRunning ∧
    (cycTrippedExam s).prt.blindCount = s.prt.blindCount ∧ (cycTrippedExam s).prt.secondMs = s.prt.secondMs ∧
    (cycTrippedExam s).alk.items = s.alk.items ∧ (cycTrippedExam s).alk.committed = s.alk.committed ∧
    (cycTrippedExam s).alk.seconds = s.alk.seconds ∧ (cycTrippedExam s).alk.resetPending = s.alk.resetPending ∧
    (cycTrippedExam s).alk.link = s.alk.link := by
  simp only [cycTrippedExam]
  repeat' split
  all_goals simp

@[simp] theorem heatingStart_frame (s : State) :
    (heatingStart s).cyc = s.cyc ∧ (heatingStart s).prf = s.prf ∧ (heatingStart s).ramp = s.ramp ∧
    (heatingStart s).lck = s.lck ∧ (heatingStart s).tms = s.tms ∧ (heatingStart s).bli = s.bli ∧
    (heatingStart s).ptb = s.ptb ∧ (heatingStart s).shr = s.shr ∧ (heatingStart s).prt = s.prt ∧
    (heatingStart s).alk = s.alk ∧ (heatingStart s).pending = s.pending ∧ (heatingStart s).draws = s.draws ∧
    (heatingStart s).reg.fan = s.reg.fan ∧ (heatingStart s).reg.ruleLevel = s.reg.ruleLevel ∧
    (heatingStart s).reg.coolTimer = s.reg.coolTimer ∧ (heatingStart s).drv.state = s.drv.state ∧
    (heatingStart s).drv.window = s.drv.window ∧ (heatingStart s).drv.limited = s.drv.limited ∧
    (heatingStart s).drv.last = s.drv.last ∧ (heatingStart s).drv.overPresent = s.drv.overPresent ∧
    (heatingStart s).drv.stuckPresent = s.drv.stuckPresent ∧ (heatingStart s).drv.main = s.drv.main ∧
    (heatingStart s).drv.permitted = s.drv.permitted ∧ (heatingStart s).drv.outputs = s.drv.outputs := by
  simp [heatingStart]

@[simp] theorem cycEnterHeating_frame (s : State) :
    (cycEnterHeating s).prf = s.prf ∧ (cycEnterHeating s).tms = s.tms ∧ (cycEnterHeating s).ptb = s.ptb ∧
    (cycEnterHeating s).pending = s.pending ∧ (cycEnterHeating s).lck.attempts = s.lck.attempts ∧
    (cycEnterHeating s).lck.motor = s.lck.motor ∧ (cycEnterHeating s).lck.startUp = s.lck.startUp ∧
    (cycEnterHeating s).lck.door = s.lck.door ∧ (cycEnterHeating s).lck.latch = s.lck.latch ∧
    (cycEnterHeating s).lck.stage = s.lck.stage ∧ (cycEnterHeating s).lck.testPass = s.lck.testPass ∧
    (cycEnterHeating s).drv.state = s.drv.state ∧ (cycEnterHeating s).drv.window = s.drv.window ∧
    (cycEnterHeating s).drv.limited = s.drv.limited ∧ (cycEnterHeating s).drv.last = s.drv.last ∧
    (cycEnterHeating s).drv.overPresent = s.drv.overPresent ∧
    (cycEnterHeating s).drv.stuckPresent = s.drv.stuckPresent ∧ (cycEnterHeating s).bli.attempt = s.bli.attempt ∧
    (cycEnterHeating s).bli.output = s.bli.output ∧ (cycEnterHeating s).bli.frame = s.bli.frame ∧
    (cycEnterHeating s).bli.errors = s.bli.errors ∧ (cycEnterHeating s).bli.unreliable = s.bli.unreliable ∧
    (cycEnterHeating s).bli.lineHeld = s.bli.lineHeld ∧ (cycEnterHeating s).bli.txStuck = s.bli.txStuck ∧
    (cycEnterHeating s).bli.numberConflict = s.bli.numberConflict ∧ (cycEnterHeating s).bli.silent = s.bli.silent ∧
    (cycEnterHeating s).bli.periodTimer = s.bli.periodTimer ∧
    (cycEnterHeating s).bli.departureTimer = s.bli.departureTimer ∧ (cycEnterHeating s).shr.state = s.shr.state ∧
    (cycEnterHeating s).shr.listenTimer = s.shr.listenTimer ∧ (cycEnterHeating s).shr.causes = s.shr.causes ∧
    (cycEnterHeating s).shr.solo = s.shr.solo ∧ (cycEnterHeating s).shr.sums = s.shr.sums ∧
    (cycEnterHeating s).prt.blindRunning = s.prt.blindRunning ∧
    (cycEnterHeating s).prt.blindCount = s.prt.blindCount ∧ (cycEnterHeating s).prt.secondMs = s.prt.secondMs ∧
    (cycEnterHeating s).alk.items = s.alk.items ∧ (cycEnterHeating s).alk.committed = s.alk.committed ∧
    (cycEnterHeating s).alk.seconds = s.alk.seconds ∧ (cycEnterHeating s).alk.resetPending = s.alk.resetPending ∧
    (cycEnterHeating s).alk.link = s.alk.link := by
  simp [cycEnterHeating]

@[simp] theorem cycLocked_frame (s : State) :
    (cycLocked s).prf = s.prf ∧ (cycLocked s).tms = s.tms ∧ (cycLocked s).ptb = s.ptb ∧
    (cycLocked s).pending = s.pending ∧ (cycLocked s).lck.attempts = s.lck.attempts ∧
    (cycLocked s).lck.motor = s.lck.motor ∧ (cycLocked s).lck.startUp = s.lck.startUp ∧
    (cycLocked s).lck.door = s.lck.door ∧ (cycLocked s).lck.latch = s.lck.latch ∧
    (cycLocked s).lck.stage = s.lck.stage ∧ (cycLocked s).lck.testPass = s.lck.testPass ∧
    (cycLocked s).drv.state = s.drv.state ∧ (cycLocked s).drv.window = s.drv.window ∧
    (cycLocked s).drv.limited = s.drv.limited ∧ (cycLocked s).drv.last = s.drv.last ∧
    (cycLocked s).drv.overPresent = s.drv.overPresent ∧ (cycLocked s).drv.stuckPresent = s.drv.stuckPresent ∧
    (cycLocked s).bli.attempt = s.bli.attempt ∧ (cycLocked s).bli.output = s.bli.output ∧
    (cycLocked s).bli.frame = s.bli.frame ∧ (cycLocked s).bli.errors = s.bli.errors ∧
    (cycLocked s).bli.unreliable = s.bli.unreliable ∧ (cycLocked s).bli.lineHeld = s.bli.lineHeld ∧
    (cycLocked s).bli.txStuck = s.bli.txStuck ∧ (cycLocked s).bli.numberConflict = s.bli.numberConflict ∧
    (cycLocked s).bli.silent = s.bli.silent ∧ (cycLocked s).bli.periodTimer = s.bli.periodTimer ∧
    (cycLocked s).bli.departureTimer = s.bli.departureTimer ∧ (cycLocked s).shr.state = s.shr.state ∧
    (cycLocked s).shr.listenTimer = s.shr.listenTimer ∧ (cycLocked s).shr.causes = s.shr.causes ∧
    (cycLocked s).shr.solo = s.shr.solo ∧ (cycLocked s).shr.sums = s.shr.sums ∧
    (cycLocked s).prt.blindRunning = s.prt.blindRunning ∧ (cycLocked s).prt.blindCount = s.prt.blindCount ∧
    (cycLocked s).prt.secondMs = s.prt.secondMs ∧ (cycLocked s).alk.items = s.alk.items ∧
    (cycLocked s).alk.committed = s.alk.committed ∧ (cycLocked s).alk.seconds = s.alk.seconds ∧
    (cycLocked s).alk.resetPending = s.alk.resetPending ∧ (cycLocked s).alk.link = s.alk.link := by
  simp only [cycLocked]
  repeat' split
  all_goals simp

@[simp] theorem cycLockFailure_frame (engaged : Bool) (s : State) :
    (cycLockFailure engaged s).prf = s.prf ∧ (cycLockFailure engaged s).ramp = s.ramp ∧
    (cycLockFailure engaged s).tms = s.tms ∧ (cycLockFailure engaged s).bli = s.bli ∧
    (cycLockFailure engaged s).ptb = s.ptb ∧ (cycLockFailure engaged s).shr = s.shr ∧
    (cycLockFailure engaged s).pending = s.pending ∧ (cycLockFailure engaged s).draws = s.draws ∧
    (cycLockFailure engaged s).lck.attempts = s.lck.attempts ∧ (cycLockFailure engaged s).lck.motor = s.lck.motor ∧
    (cycLockFailure engaged s).lck.startUp = s.lck.startUp ∧ (cycLockFailure engaged s).lck.door = s.lck.door ∧
    (cycLockFailure engaged s).lck.latch = s.lck.latch ∧ (cycLockFailure engaged s).lck.stage = s.lck.stage ∧
    (cycLockFailure engaged s).lck.testPass = s.lck.testPass ∧
    (cycLockFailure engaged s).reg.demand = s.reg.demand ∧
    (cycLockFailure engaged s).reg.integral = s.reg.integral ∧
    (cycLockFailure engaged s).reg.limited = s.reg.limited ∧ (cycLockFailure engaged s).drv.state = s.drv.state ∧
    (cycLockFailure engaged s).drv.window = s.drv.window ∧ (cycLockFailure engaged s).drv.limited = s.drv.limited ∧
    (cycLockFailure engaged s).drv.last = s.drv.last ∧
    (cycLockFailure engaged s).drv.overPresent = s.drv.overPresent ∧
    (cycLockFailure engaged s).drv.stuckPresent = s.drv.stuckPresent ∧
    (cycLockFailure engaged s).drv.permitted = s.drv.permitted ∧
    (cycLockFailure engaged s).prt.blindRunning = s.prt.blindRunning ∧
    (cycLockFailure engaged s).prt.blindCount = s.prt.blindCount ∧
    (cycLockFailure engaged s).prt.secondMs = s.prt.secondMs ∧ (cycLockFailure engaged s).alk.items = s.alk.items ∧
    (cycLockFailure engaged s).alk.committed = s.alk.committed ∧
    (cycLockFailure engaged s).alk.seconds = s.alk.seconds ∧
    (cycLockFailure engaged s).alk.resetPending = s.alk.resetPending ∧
    (cycLockFailure engaged s).alk.link = s.alk.link := by
  simp only [cycLockFailure]
  repeat' split
  all_goals simp

@[simp] theorem cycUnlocked_frame (s : State) :
    (cycUnlocked s).prf = s.prf ∧ (cycUnlocked s).ramp = s.ramp ∧ (cycUnlocked s).tms = s.tms ∧
    (cycUnlocked s).bli = s.bli ∧ (cycUnlocked s).ptb = s.ptb ∧ (cycUnlocked s).shr = s.shr ∧
    (cycUnlocked s).pending = s.pending ∧ (cycUnlocked s).draws = s.draws ∧
    (cycUnlocked s).cyc.record = s.cyc.record ∧ (cycUnlocked s).lck.attempts = s.lck.attempts ∧
    (cycUnlocked s).lck.motor = s.lck.motor ∧ (cycUnlocked s).lck.startUp = s.lck.startUp ∧
    (cycUnlocked s).lck.door = s.lck.door ∧ (cycUnlocked s).lck.latch = s.lck.latch ∧
    (cycUnlocked s).lck.stage = s.lck.stage ∧ (cycUnlocked s).lck.testPass = s.lck.testPass ∧
    (cycUnlocked s).reg.demand = s.reg.demand ∧ (cycUnlocked s).reg.integral = s.reg.integral ∧
    (cycUnlocked s).reg.limited = s.reg.limited ∧ (cycUnlocked s).drv.state = s.drv.state ∧
    (cycUnlocked s).drv.window = s.drv.window ∧ (cycUnlocked s).drv.limited = s.drv.limited ∧
    (cycUnlocked s).drv.last = s.drv.last ∧ (cycUnlocked s).drv.overPresent = s.drv.overPresent ∧
    (cycUnlocked s).drv.stuckPresent = s.drv.stuckPresent ∧ (cycUnlocked s).drv.permitted = s.drv.permitted ∧
    (cycUnlocked s).prt.blindRunning = s.prt.blindRunning ∧ (cycUnlocked s).prt.blindCount = s.prt.blindCount ∧
    (cycUnlocked s).prt.secondMs = s.prt.secondMs ∧ (cycUnlocked s).alk.items = s.alk.items ∧
    (cycUnlocked s).alk.committed = s.alk.committed ∧ (cycUnlocked s).alk.seconds = s.alk.seconds ∧
    (cycUnlocked s).alk.resetPending = s.alk.resetPending ∧ (cycUnlocked s).alk.link = s.alk.link := by
  simp only [cycUnlocked]
  repeat' split
  all_goals simp

@[simp] theorem lckStop_frame (s : State) :
    (lckStop s).cyc = s.cyc ∧ (lckStop s).prf = s.prf ∧ (lckStop s).ramp = s.ramp ∧ (lckStop s).tms = s.tms ∧
    (lckStop s).reg = s.reg ∧ (lckStop s).drv = s.drv ∧ (lckStop s).bli = s.bli ∧ (lckStop s).ptb = s.ptb ∧
    (lckStop s).shr = s.shr ∧ (lckStop s).prt = s.prt ∧ (lckStop s).alk = s.alk ∧ (lckStop s).pending = s.pending ∧
    (lckStop s).draws = s.draws ∧ (lckStop s).lck.state = s.lck.state ∧ (lckStop s).lck.attempts = s.lck.attempts ∧
    (lckStop s).lck.startUp = s.lck.startUp ∧ (lckStop s).lck.door = s.lck.door ∧
    (lckStop s).lck.latch = s.lck.latch ∧ (lckStop s).lck.testPass = s.lck.testPass := by
  simp [lckStop]

@[simp] theorem lckSeat_frame (s : State) :
    (lckSeat s).cyc = s.cyc ∧ (lckSeat s).prf = s.prf ∧ (lckSeat s).ramp = s.ramp ∧ (lckSeat s).tms = s.tms ∧
    (lckSeat s).reg = s.reg ∧ (lckSeat s).drv = s.drv ∧ (lckSeat s).bli = s.bli ∧ (lckSeat s).ptb = s.ptb ∧
    (lckSeat s).shr = s.shr ∧ (lckSeat s).prt = s.prt ∧ (lckSeat s).alk = s.alk ∧ (lckSeat s).pending = s.pending ∧
    (lckSeat s).draws = s.draws ∧ (lckSeat s).lck.state = s.lck.state ∧ (lckSeat s).lck.attempts = s.lck.attempts ∧
    (lckSeat s).lck.startUp = s.lck.startUp ∧ (lckSeat s).lck.door = s.lck.door ∧
    (lckSeat s).lck.latch = s.lck.latch ∧ (lckSeat s).lck.testPass = s.lck.testPass := by
  simp [lckSeat]

@[simp] theorem lckLockDrive_frame (s : State) :
    (lckLockDrive s).cyc = s.cyc ∧ (lckLockDrive s).prf = s.prf ∧ (lckLockDrive s).ramp = s.ramp ∧
    (lckLockDrive s).tms = s.tms ∧ (lckLockDrive s).reg = s.reg ∧ (lckLockDrive s).drv = s.drv ∧
    (lckLockDrive s).bli = s.bli ∧ (lckLockDrive s).ptb = s.ptb ∧ (lckLockDrive s).shr = s.shr ∧
    (lckLockDrive s).prt = s.prt ∧ (lckLockDrive s).alk = s.alk ∧ (lckLockDrive s).pending = s.pending ∧
    (lckLockDrive s).draws = s.draws ∧ (lckLockDrive s).lck.state = s.lck.state ∧
    (lckLockDrive s).lck.attempts = s.lck.attempts ∧ (lckLockDrive s).lck.startUp = s.lck.startUp ∧
    (lckLockDrive s).lck.door = s.lck.door ∧ (lckLockDrive s).lck.latch = s.lck.latch ∧
    (lckLockDrive s).lck.testPass = s.lck.testPass := by
  simp only [lckLockDrive]
  repeat' split
  all_goals simp

@[simp] theorem lckFail_frame (s : State) :
    (lckFail s).prf = s.prf ∧ (lckFail s).tms = s.tms ∧ (lckFail s).ptb = s.ptb ∧ (lckFail s).pending = s.pending ∧
    (lckFail s).draws = s.draws ∧ (lckFail s).ramp.segIndex = s.ramp.segIndex ∧ (lckFail s).ramp.sp = s.ramp.sp ∧
    (lckFail s).ramp.holdTimer = s.ramp.holdTimer ∧ (lckFail s).ramp.segTimer = s.ramp.segTimer ∧
    (lckFail s).ramp.slotWait = s.ramp.slotWait ∧ (lckFail s).lck.motor = s.lck.motor ∧
    (lckFail s).lck.startUp = s.lck.startUp ∧ (lckFail s).lck.door = s.lck.door ∧
    (lckFail s).lck.latch = s.lck.latch ∧ (lckFail s).lck.stage = s.lck.stage ∧
    (lckFail s).lck.testPass = s.lck.testPass ∧ (lckFail s).reg.limited = s.reg.limited ∧
    (lckFail s).drv.state = s.drv.state ∧ (lckFail s).drv.window = s.drv.window ∧
    (lckFail s).drv.limited = s.drv.limited ∧ (lckFail s).drv.last = s.drv.last ∧
    (lckFail s).drv.overPresent = s.drv.overPresent ∧ (lckFail s).drv.stuckPresent = s.drv.stuckPresent ∧
    (lckFail s).bli.attempt = s.bli.attempt ∧ (lckFail s).bli.output = s.bli.output ∧
    (lckFail s).bli.frame = s.bli.frame ∧ (lckFail s).bli.errors = s.bli.errors ∧
    (lckFail s).bli.unreliable = s.bli.unreliable ∧ (lckFail s).bli.lineHeld = s.bli.lineHeld ∧
    (lckFail s).bli.txStuck = s.bli.txStuck ∧ (lckFail s).bli.numberConflict = s.bli.numberConflict ∧
    (lckFail s).bli.silent = s.bli.silent ∧ (lckFail s).bli.periodTimer = s.bli.periodTimer ∧
    (lckFail s).bli.departureTimer = s.bli.departureTimer ∧ (lckFail s).shr.state = s.shr.state ∧
    (lckFail s).shr.listenTimer = s.shr.listenTimer ∧ (lckFail s).shr.causes = s.shr.causes ∧
    (lckFail s).shr.solo = s.shr.solo ∧ (lckFail s).shr.sums = s.shr.sums ∧
    (lckFail s).prt.blindRunning = s.prt.blindRunning ∧ (lckFail s).prt.blindCount = s.prt.blindCount ∧
    (lckFail s).prt.secondMs = s.prt.secondMs ∧ (lckFail s).alk.items = s.alk.items ∧
    (lckFail s).alk.committed = s.alk.committed ∧ (lckFail s).alk.seconds = s.alk.seconds ∧
    (lckFail s).alk.resetPending = s.alk.resetPending ∧ (lckFail s).alk.link = s.alk.link := by
  simp [lckFail]

@[simp] theorem lckLock_frame (s : State) :
    (lckLock s).prf = s.prf ∧ (lckLock s).tms = s.tms ∧ (lckLock s).ptb = s.ptb ∧ (lckLock s).pending = s.pending ∧
    (lckLock s).draws = s.draws ∧ (lckLock s).ramp.segIndex = s.ramp.segIndex ∧ (lckLock s).ramp.sp = s.ramp.sp ∧
    (lckLock s).ramp.holdTimer = s.ramp.holdTimer ∧ (lckLock s).ramp.segTimer = s.ramp.segTimer ∧
    (lckLock s).ramp.slotWait = s.ramp.slotWait ∧ (lckLock s).lck.startUp = s.lck.startUp ∧
    (lckLock s).lck.door = s.lck.door ∧ (lckLock s).lck.latch = s.lck.latch ∧
    (lckLock s).lck.testPass = s.lck.testPass ∧ (lckLock s).reg.limited = s.reg.limited ∧
    (lckLock s).drv.state = s.drv.state ∧ (lckLock s).drv.window = s.drv.window ∧
    (lckLock s).drv.limited = s.drv.limited ∧ (lckLock s).drv.last = s.drv.last ∧
    (lckLock s).drv.overPresent = s.drv.overPresent ∧ (lckLock s).drv.stuckPresent = s.drv.stuckPresent ∧
    (lckLock s).bli.attempt = s.bli.attempt ∧ (lckLock s).bli.output = s.bli.output ∧
    (lckLock s).bli.frame = s.bli.frame ∧ (lckLock s).bli.errors = s.bli.errors ∧
    (lckLock s).bli.unreliable = s.bli.unreliable ∧ (lckLock s).bli.lineHeld = s.bli.lineHeld ∧
    (lckLock s).bli.txStuck = s.bli.txStuck ∧ (lckLock s).bli.numberConflict = s.bli.numberConflict ∧
    (lckLock s).bli.silent = s.bli.silent ∧ (lckLock s).bli.periodTimer = s.bli.periodTimer ∧
    (lckLock s).bli.departureTimer = s.bli.departureTimer ∧ (lckLock s).shr.state = s.shr.state ∧
    (lckLock s).shr.listenTimer = s.shr.listenTimer ∧ (lckLock s).shr.causes = s.shr.causes ∧
    (lckLock s).shr.solo = s.shr.solo ∧ (lckLock s).shr.sums = s.shr.sums ∧
    (lckLock s).prt.blindRunning = s.prt.blindRunning ∧ (lckLock s).prt.blindCount = s.prt.blindCount ∧
    (lckLock s).prt.secondMs = s.prt.secondMs ∧ (lckLock s).alk.items = s.alk.items ∧
    (lckLock s).alk.committed = s.alk.committed ∧ (lckLock s).alk.seconds = s.alk.seconds ∧
    (lckLock s).alk.resetPending = s.alk.resetPending ∧ (lckLock s).alk.link = s.alk.link := by
  simp only [lckLock]
  repeat' split
  all_goals simp

@[simp] theorem lckEnterUnlocked_frame (s : State) :
    (lckEnterUnlocked s).cyc = s.cyc ∧ (lckEnterUnlocked s).prf = s.prf ∧ (lckEnterUnlocked s).ramp = s.ramp ∧
    (lckEnterUnlocked s).tms = s.tms ∧ (lckEnterUnlocked s).reg = s.reg ∧ (lckEnterUnlocked s).bli = s.bli ∧
    (lckEnterUnlocked s).ptb = s.ptb ∧ (lckEnterUnlocked s).shr = s.shr ∧
    (lckEnterUnlocked s).pending = s.pending ∧ (lckEnterUnlocked s).draws = s.draws ∧
    (lckEnterUnlocked s).lck.attempts = s.lck.attempts ∧ (lckEnterUnlocked s).lck.motor = s.lck.motor ∧
    (lckEnterUnlocked s).lck.startUp = s.lck.startUp ∧ (lckEnterUnlocked s).lck.door = s.lck.door ∧
    (lckEnterUnlocked s).lck.latch = s.lck.latch ∧ (lckEnterUnlocked s).lck.stage = s.lck.stage ∧
    (lckEnterUnlocked s).lck.testPass = s.lck.testPass ∧ (lckEnterUnlocked s).drv.state = s.drv.state ∧
    (lckEnterUnlocked s).drv.window = s.drv.window ∧ (lckEnterUnlocked s).drv.limited = s.drv.limited ∧
    (lckEnterUnlocked s).drv.last = s.drv.last ∧ (lckEnterUnlocked s).drv.overPresent = s.drv.overPresent ∧
    (lckEnterUnlocked s).drv.stuckPresent = s.drv.stuckPresent ∧
    (lckEnterUnlocked s).drv.permitted = s.drv.permitted ∧
    (lckEnterUnlocked s).prt.blindRunning = s.prt.blindRunning ∧
    (lckEnterUnlocked s).prt.blindCount = s.prt.blindCount ∧ (lckEnterUnlocked s).prt.secondMs = s.prt.secondMs ∧
    (lckEnterUnlocked s).alk.items = s.alk.items ∧ (lckEnterUnlocked s).alk.committed = s.alk.committed ∧
    (lckEnterUnlocked s).alk.seconds = s.alk.seconds ∧ (lckEnterUnlocked s).alk.resetPending = s.alk.resetPending ∧
    (lckEnterUnlocked s).alk.link = s.alk.link := by
  simp [lckEnterUnlocked]

@[simp] theorem lckAttemptFailed_frame (s : State) :
    (lckAttemptFailed s).prf = s.prf ∧ (lckAttemptFailed s).tms = s.tms ∧ (lckAttemptFailed s).ptb = s.ptb ∧
    (lckAttemptFailed s).pending = s.pending ∧ (lckAttemptFailed s).draws = s.draws ∧
    (lckAttemptFailed s).ramp.segIndex = s.ramp.segIndex ∧ (lckAttemptFailed s).ramp.sp = s.ramp.sp ∧
    (lckAttemptFailed s).ramp.holdTimer = s.ramp.holdTimer ∧ (lckAttemptFailed s).ramp.segTimer = s.ramp.segTimer ∧
    (lckAttemptFailed s).ramp.slotWait = s.ramp.slotWait ∧ (lckAttemptFailed s).lck.startUp = s.lck.startUp ∧
    (lckAttemptFailed s).lck.door = s.lck.door ∧ (lckAttemptFailed s).lck.latch = s.lck.latch ∧
    (lckAttemptFailed s).lck.testPass = s.lck.testPass ∧ (lckAttemptFailed s).reg.limited = s.reg.limited ∧
    (lckAttemptFailed s).drv.state = s.drv.state ∧ (lckAttemptFailed s).drv.window = s.drv.window ∧
    (lckAttemptFailed s).drv.limited = s.drv.limited ∧ (lckAttemptFailed s).drv.last = s.drv.last ∧
    (lckAttemptFailed s).drv.overPresent = s.drv.overPresent ∧
    (lckAttemptFailed s).drv.stuckPresent = s.drv.stuckPresent ∧ (lckAttemptFailed s).bli.attempt = s.bli.attempt ∧
    (lckAttemptFailed s).bli.output = s.bli.output ∧ (lckAttemptFailed s).bli.frame = s.bli.frame ∧
    (lckAttemptFailed s).bli.errors = s.bli.errors ∧ (lckAttemptFailed s).bli.unreliable = s.bli.unreliable ∧
    (lckAttemptFailed s).bli.lineHeld = s.bli.lineHeld ∧ (lckAttemptFailed s).bli.txStuck = s.bli.txStuck ∧
    (lckAttemptFailed s).bli.numberConflict = s.bli.numberConflict ∧
    (lckAttemptFailed s).bli.silent = s.bli.silent ∧ (lckAttemptFailed s).bli.periodTimer = s.bli.periodTimer ∧
    (lckAttemptFailed s).bli.departureTimer = s.bli.departureTimer ∧ (lckAttemptFailed s).shr.state = s.shr.state ∧
    (lckAttemptFailed s).shr.listenTimer = s.shr.listenTimer ∧ (lckAttemptFailed s).shr.causes = s.shr.causes ∧
    (lckAttemptFailed s).shr.solo = s.shr.solo ∧ (lckAttemptFailed s).shr.sums = s.shr.sums ∧
    (lckAttemptFailed s).prt.blindRunning = s.prt.blindRunning ∧
    (lckAttemptFailed s).prt.blindCount = s.prt.blindCount ∧ (lckAttemptFailed s).prt.secondMs = s.prt.secondMs ∧
    (lckAttemptFailed s).alk.items = s.alk.items ∧ (lckAttemptFailed s).alk.committed = s.alk.committed ∧
    (lckAttemptFailed s).alk.seconds = s.alk.seconds ∧ (lckAttemptFailed s).alk.resetPending = s.alk.resetPending ∧
    (lckAttemptFailed s).alk.link = s.alk.link := by
  simp only [lckAttemptFailed]
  repeat' split
  all_goals simp

@[simp] theorem lckDoorReturn_frame (s : State) :
    (lckDoorReturn s).cyc = s.cyc ∧ (lckDoorReturn s).prf = s.prf ∧ (lckDoorReturn s).ramp = s.ramp ∧
    (lckDoorReturn s).tms = s.tms ∧ (lckDoorReturn s).reg = s.reg ∧ (lckDoorReturn s).drv = s.drv ∧
    (lckDoorReturn s).bli = s.bli ∧ (lckDoorReturn s).ptb = s.ptb ∧ (lckDoorReturn s).shr = s.shr ∧
    (lckDoorReturn s).prt = s.prt ∧ (lckDoorReturn s).alk = s.alk ∧ (lckDoorReturn s).pending = s.pending ∧
    (lckDoorReturn s).draws = s.draws ∧ (lckDoorReturn s).lck.state = s.lck.state ∧
    (lckDoorReturn s).lck.attempts = s.lck.attempts ∧ (lckDoorReturn s).lck.startUp = s.lck.startUp ∧
    (lckDoorReturn s).lck.door = s.lck.door ∧ (lckDoorReturn s).lck.latch = s.lck.latch ∧
    (lckDoorReturn s).lck.testPass = s.lck.testPass := by
  simp only [lckDoorReturn]
  repeat' split
  all_goals simp

@[simp] theorem lckDoorOpened_frame (s : State) :
    (lckDoorOpened s).prf = s.prf ∧ (lckDoorOpened s).tms = s.tms ∧ (lckDoorOpened s).ptb = s.ptb ∧
    (lckDoorOpened s).pending = s.pending ∧ (lckDoorOpened s).draws = s.draws ∧
    (lckDoorOpened s).ramp.segIndex = s.ramp.segIndex ∧ (lckDoorOpened s).ramp.sp = s.ramp.sp ∧
    (lckDoorOpened s).ramp.holdTimer = s.ramp.holdTimer ∧ (lckDoorOpened s).ramp.segTimer = s.ramp.segTimer ∧
    (lckDoorOpened s).ramp.slotWait = s.ramp.slotWait ∧ (lckDoorOpened s).lck.startUp = s.lck.startUp ∧
    (lckDoorOpened s).lck.door = s.lck.door ∧ (lckDoorOpened s).lck.latch = s.lck.latch ∧
    (lckDoorOpened s).lck.testPass = s.lck.testPass ∧ (lckDoorOpened s).reg.limited = s.reg.limited ∧
    (lckDoorOpened s).drv.state = s.drv.state ∧ (lckDoorOpened s).drv.window = s.drv.window ∧
    (lckDoorOpened s).drv.limited = s.drv.limited ∧ (lckDoorOpened s).drv.last = s.drv.last ∧
    (lckDoorOpened s).drv.overPresent = s.drv.overPresent ∧
    (lckDoorOpened s).drv.stuckPresent = s.drv.stuckPresent ∧ (lckDoorOpened s).bli.attempt = s.bli.attempt ∧
    (lckDoorOpened s).bli.output = s.bli.output ∧ (lckDoorOpened s).bli.frame = s.bli.frame ∧
    (lckDoorOpened s).bli.errors = s.bli.errors ∧ (lckDoorOpened s).bli.unreliable = s.bli.unreliable ∧
    (lckDoorOpened s).bli.lineHeld = s.bli.lineHeld ∧ (lckDoorOpened s).bli.txStuck = s.bli.txStuck ∧
    (lckDoorOpened s).bli.numberConflict = s.bli.numberConflict ∧ (lckDoorOpened s).bli.silent = s.bli.silent ∧
    (lckDoorOpened s).bli.periodTimer = s.bli.periodTimer ∧
    (lckDoorOpened s).bli.departureTimer = s.bli.departureTimer ∧ (lckDoorOpened s).shr.state = s.shr.state ∧
    (lckDoorOpened s).shr.listenTimer = s.shr.listenTimer ∧ (lckDoorOpened s).shr.causes = s.shr.causes ∧
    (lckDoorOpened s).shr.solo = s.shr.solo ∧ (lckDoorOpened s).shr.sums = s.shr.sums ∧
    (lckDoorOpened s).prt.blindRunning = s.prt.blindRunning ∧ (lckDoorOpened s).prt.blindCount = s.prt.blindCount ∧
    (lckDoorOpened s).prt.secondMs = s.prt.secondMs ∧ (lckDoorOpened s).alk.items = s.alk.items ∧
    (lckDoorOpened s).alk.committed = s.alk.committed ∧ (lckDoorOpened s).alk.seconds = s.alk.seconds ∧
    (lckDoorOpened s).alk.resetPending = s.alk.resetPending ∧ (lckDoorOpened s).alk.link = s.alk.link := by
  simp only [lckDoorOpened]
  repeat' split
  all_goals simp

@[simp] theorem lckReturnEnd_frame (s : State) :
    (lckReturnEnd s).prf = s.prf ∧ (lckReturnEnd s).tms = s.tms ∧ (lckReturnEnd s).ptb = s.ptb ∧
    (lckReturnEnd s).pending = s.pending ∧ (lckReturnEnd s).draws = s.draws ∧
    (lckReturnEnd s).ramp.segIndex = s.ramp.segIndex ∧ (lckReturnEnd s).ramp.sp = s.ramp.sp ∧
    (lckReturnEnd s).ramp.holdTimer = s.ramp.holdTimer ∧ (lckReturnEnd s).ramp.segTimer = s.ramp.segTimer ∧
    (lckReturnEnd s).ramp.slotWait = s.ramp.slotWait ∧ (lckReturnEnd s).lck.startUp = s.lck.startUp ∧
    (lckReturnEnd s).lck.door = s.lck.door ∧ (lckReturnEnd s).lck.latch = s.lck.latch ∧
    (lckReturnEnd s).lck.testPass = s.lck.testPass ∧ (lckReturnEnd s).reg.limited = s.reg.limited ∧
    (lckReturnEnd s).drv.state = s.drv.state ∧ (lckReturnEnd s).drv.window = s.drv.window ∧
    (lckReturnEnd s).drv.limited = s.drv.limited ∧ (lckReturnEnd s).drv.last = s.drv.last ∧
    (lckReturnEnd s).drv.overPresent = s.drv.overPresent ∧ (lckReturnEnd s).drv.stuckPresent = s.drv.stuckPresent ∧
    (lckReturnEnd s).bli.attempt = s.bli.attempt ∧ (lckReturnEnd s).bli.output = s.bli.output ∧
    (lckReturnEnd s).bli.frame = s.bli.frame ∧ (lckReturnEnd s).bli.errors = s.bli.errors ∧
    (lckReturnEnd s).bli.unreliable = s.bli.unreliable ∧ (lckReturnEnd s).bli.lineHeld = s.bli.lineHeld ∧
    (lckReturnEnd s).bli.txStuck = s.bli.txStuck ∧ (lckReturnEnd s).bli.numberConflict = s.bli.numberConflict ∧
    (lckReturnEnd s).bli.silent = s.bli.silent ∧ (lckReturnEnd s).bli.periodTimer = s.bli.periodTimer ∧
    (lckReturnEnd s).bli.departureTimer = s.bli.departureTimer ∧ (lckReturnEnd s).shr.state = s.shr.state ∧
    (lckReturnEnd s).shr.listenTimer = s.shr.listenTimer ∧ (lckReturnEnd s).shr.causes = s.shr.causes ∧
    (lckReturnEnd s).shr.solo = s.shr.solo ∧ (lckReturnEnd s).shr.sums = s.shr.sums ∧
    (lckReturnEnd s).prt.blindRunning = s.prt.blindRunning ∧ (lckReturnEnd s).prt.blindCount = s.prt.blindCount ∧
    (lckReturnEnd s).prt.secondMs = s.prt.secondMs ∧ (lckReturnEnd s).alk.items = s.alk.items ∧
    (lckReturnEnd s).alk.committed = s.alk.committed ∧ (lckReturnEnd s).alk.seconds = s.alk.seconds ∧
    (lckReturnEnd s).alk.resetPending = s.alk.resetPending ∧ (lckReturnEnd s).alk.link = s.alk.link := by
  simp only [lckReturnEnd]
  repeat' split
  all_goals simp

@[simp] theorem lckJamEnds_frame (s : State) :
    (lckJamEnds s).cyc = s.cyc ∧ (lckJamEnds s).prf = s.prf ∧ (lckJamEnds s).ramp = s.ramp ∧
    (lckJamEnds s).tms = s.tms ∧ (lckJamEnds s).reg = s.reg ∧ (lckJamEnds s).bli = s.bli ∧
    (lckJamEnds s).ptb = s.ptb ∧ (lckJamEnds s).shr = s.shr ∧ (lckJamEnds s).pending = s.pending ∧
    (lckJamEnds s).draws = s.draws ∧ (lckJamEnds s).lck.attempts = s.lck.attempts ∧
    (lckJamEnds s).lck.motor = s.lck.motor ∧ (lckJamEnds s).lck.startUp = s.lck.startUp ∧
    (lckJamEnds s).lck.door = s.lck.door ∧ (lckJamEnds s).lck.latch = s.lck.latch ∧
    (lckJamEnds s).lck.stage = s.lck.stage ∧ (lckJamEnds s).lck.testPass = s.lck.testPass ∧
    (lckJamEnds s).drv.state = s.drv.state ∧ (lckJamEnds s).drv.window = s.drv.window ∧
    (lckJamEnds s).drv.limited = s.drv.limited ∧ (lckJamEnds s).drv.last = s.drv.last ∧
    (lckJamEnds s).drv.overPresent = s.drv.overPresent ∧ (lckJamEnds s).drv.stuckPresent = s.drv.stuckPresent ∧
    (lckJamEnds s).drv.permitted = s.drv.permitted ∧ (lckJamEnds s).prt.blindRunning = s.prt.blindRunning ∧
    (lckJamEnds s).prt.blindCount = s.prt.blindCount ∧ (lckJamEnds s).prt.secondMs = s.prt.secondMs ∧
    (lckJamEnds s).alk.items = s.alk.items ∧ (lckJamEnds s).alk.committed = s.alk.committed ∧
    (lckJamEnds s).alk.seconds = s.alk.seconds ∧ (lckJamEnds s).alk.resetPending = s.alk.resetPending ∧
    (lckJamEnds s).alk.link = s.alk.link := by
  simp only [lckJamEnds]
  repeat' split
  all_goals simp

@[simp] theorem lckUnlockJam_frame (s : State) :
    (lckUnlockJam s).prf = s.prf ∧ (lckUnlockJam s).tms = s.tms ∧ (lckUnlockJam s).ptb = s.ptb ∧
    (lckUnlockJam s).pending = s.pending ∧ (lckUnlockJam s).draws = s.draws ∧
    (lckUnlockJam s).ramp.segIndex = s.ramp.segIndex ∧ (lckUnlockJam s).ramp.sp = s.ramp.sp ∧
    (lckUnlockJam s).ramp.holdTimer = s.ramp.holdTimer ∧ (lckUnlockJam s).ramp.segTimer = s.ramp.segTimer ∧
    (lckUnlockJam s).ramp.slotWait = s.ramp.slotWait ∧ (lckUnlockJam s).lck.startUp = s.lck.startUp ∧
    (lckUnlockJam s).lck.door = s.lck.door ∧ (lckUnlockJam s).lck.latch = s.lck.latch ∧
    (lckUnlockJam s).lck.testPass = s.lck.testPass ∧ (lckUnlockJam s).reg.limited = s.reg.limited ∧
    (lckUnlockJam s).drv.state = s.drv.state ∧ (lckUnlockJam s).drv.window = s.drv.window ∧
    (lckUnlockJam s).drv.limited = s.drv.limited ∧ (lckUnlockJam s).drv.last = s.drv.last ∧
    (lckUnlockJam s).drv.overPresent = s.drv.overPresent ∧ (lckUnlockJam s).drv.stuckPresent = s.drv.stuckPresent ∧
    (lckUnlockJam s).bli.attempt = s.bli.attempt ∧ (lckUnlockJam s).bli.output = s.bli.output ∧
    (lckUnlockJam s).bli.frame = s.bli.frame ∧ (lckUnlockJam s).bli.errors = s.bli.errors ∧
    (lckUnlockJam s).bli.unreliable = s.bli.unreliable ∧ (lckUnlockJam s).bli.lineHeld = s.bli.lineHeld ∧
    (lckUnlockJam s).bli.txStuck = s.bli.txStuck ∧ (lckUnlockJam s).bli.numberConflict = s.bli.numberConflict ∧
    (lckUnlockJam s).bli.silent = s.bli.silent ∧ (lckUnlockJam s).bli.periodTimer = s.bli.periodTimer ∧
    (lckUnlockJam s).bli.departureTimer = s.bli.departureTimer ∧ (lckUnlockJam s).shr.state = s.shr.state ∧
    (lckUnlockJam s).shr.listenTimer = s.shr.listenTimer ∧ (lckUnlockJam s).shr.causes = s.shr.causes ∧
    (lckUnlockJam s).shr.solo = s.shr.solo ∧ (lckUnlockJam s).shr.sums = s.shr.sums ∧
    (lckUnlockJam s).prt.blindRunning = s.prt.blindRunning ∧ (lckUnlockJam s).prt.blindCount = s.prt.blindCount ∧
    (lckUnlockJam s).prt.secondMs = s.prt.secondMs ∧ (lckUnlockJam s).alk.items = s.alk.items ∧
    (lckUnlockJam s).alk.committed = s.alk.committed ∧ (lckUnlockJam s).alk.seconds = s.alk.seconds ∧
    (lckUnlockJam s).alk.resetPending = s.alk.resetPending ∧ (lckUnlockJam s).alk.link = s.alk.link := by
  simp [lckUnlockJam]

@[simp] theorem lckUnlockFailed_frame (s : State) :
    (lckUnlockFailed s).prf = s.prf ∧ (lckUnlockFailed s).tms = s.tms ∧ (lckUnlockFailed s).ptb = s.ptb ∧
    (lckUnlockFailed s).pending = s.pending ∧ (lckUnlockFailed s).draws = s.draws ∧
    (lckUnlockFailed s).ramp.segIndex = s.ramp.segIndex ∧ (lckUnlockFailed s).ramp.sp = s.ramp.sp ∧
    (lckUnlockFailed s).ramp.holdTimer = s.ramp.holdTimer ∧ (lckUnlockFailed s).ramp.segTimer = s.ramp.segTimer ∧
    (lckUnlockFailed s).ramp.slotWait = s.ramp.slotWait ∧ (lckUnlockFailed s).lck.startUp = s.lck.startUp ∧
    (lckUnlockFailed s).lck.door = s.lck.door ∧ (lckUnlockFailed s).lck.latch = s.lck.latch ∧
    (lckUnlockFailed s).lck.testPass = s.lck.testPass ∧ (lckUnlockFailed s).reg.limited = s.reg.limited ∧
    (lckUnlockFailed s).drv.state = s.drv.state ∧ (lckUnlockFailed s).drv.window = s.drv.window ∧
    (lckUnlockFailed s).drv.limited = s.drv.limited ∧ (lckUnlockFailed s).drv.last = s.drv.last ∧
    (lckUnlockFailed s).drv.overPresent = s.drv.overPresent ∧
    (lckUnlockFailed s).drv.stuckPresent = s.drv.stuckPresent ∧ (lckUnlockFailed s).bli.attempt = s.bli.attempt ∧
    (lckUnlockFailed s).bli.output = s.bli.output ∧ (lckUnlockFailed s).bli.frame = s.bli.frame ∧
    (lckUnlockFailed s).bli.errors = s.bli.errors ∧ (lckUnlockFailed s).bli.unreliable = s.bli.unreliable ∧
    (lckUnlockFailed s).bli.lineHeld = s.bli.lineHeld ∧ (lckUnlockFailed s).bli.txStuck = s.bli.txStuck ∧
    (lckUnlockFailed s).bli.numberConflict = s.bli.numberConflict ∧ (lckUnlockFailed s).bli.silent = s.bli.silent ∧
    (lckUnlockFailed s).bli.periodTimer = s.bli.periodTimer ∧
    (lckUnlockFailed s).bli.departureTimer = s.bli.departureTimer ∧ (lckUnlockFailed s).shr.state = s.shr.state ∧
    (lckUnlockFailed s).shr.listenTimer = s.shr.listenTimer ∧ (lckUnlockFailed s).shr.causes = s.shr.causes ∧
    (lckUnlockFailed s).shr.solo = s.shr.solo ∧ (lckUnlockFailed s).shr.sums = s.shr.sums ∧
    (lckUnlockFailed s).prt.blindRunning = s.prt.blindRunning ∧
    (lckUnlockFailed s).prt.blindCount = s.prt.blindCount ∧ (lckUnlockFailed s).prt.secondMs = s.prt.secondMs ∧
    (lckUnlockFailed s).alk.items = s.alk.items ∧ (lckUnlockFailed s).alk.committed = s.alk.committed ∧
    (lckUnlockFailed s).alk.seconds = s.alk.seconds ∧ (lckUnlockFailed s).alk.resetPending = s.alk.resetPending ∧
    (lckUnlockFailed s).alk.link = s.alk.link := by
  simp only [lckUnlockFailed]
  repeat' split
  all_goals simp

@[simp] theorem lckUnlockDone_frame (s : State) :
    (lckUnlockDone s).prf = s.prf ∧ (lckUnlockDone s).ramp = s.ramp ∧ (lckUnlockDone s).tms = s.tms ∧
    (lckUnlockDone s).bli = s.bli ∧ (lckUnlockDone s).ptb = s.ptb ∧ (lckUnlockDone s).shr = s.shr ∧
    (lckUnlockDone s).pending = s.pending ∧ (lckUnlockDone s).draws = s.draws ∧
    (lckUnlockDone s).cyc.record = s.cyc.record ∧ (lckUnlockDone s).lck.startUp = s.lck.startUp ∧
    (lckUnlockDone s).lck.door = s.lck.door ∧ (lckUnlockDone s).lck.latch = s.lck.latch ∧
    (lckUnlockDone s).lck.testPass = s.lck.testPass ∧ (lckUnlockDone s).reg.demand = s.reg.demand ∧
    (lckUnlockDone s).reg.integral = s.reg.integral ∧ (lckUnlockDone s).reg.limited = s.reg.limited ∧
    (lckUnlockDone s).drv.state = s.drv.state ∧ (lckUnlockDone s).drv.window = s.drv.window ∧
    (lckUnlockDone s).drv.limited = s.drv.limited ∧ (lckUnlockDone s).drv.last = s.drv.last ∧
    (lckUnlockDone s).drv.overPresent = s.drv.overPresent ∧
    (lckUnlockDone s).drv.stuckPresent = s.drv.stuckPresent ∧ (lckUnlockDone s).drv.permitted = s.drv.permitted ∧
    (lckUnlockDone s).prt.blindRunning = s.prt.blindRunning ∧ (lckUnlockDone s).prt.blindCount = s.prt.blindCount ∧
    (lckUnlockDone s).prt.secondMs = s.prt.secondMs ∧ (lckUnlockDone s).alk.items = s.alk.items ∧
    (lckUnlockDone s).alk.committed = s.alk.committed ∧ (lckUnlockDone s).alk.seconds = s.alk.seconds ∧
    (lckUnlockDone s).alk.resetPending = s.alk.resetPending ∧ (lckUnlockDone s).alk.link = s.alk.link := by
  simp [lckUnlockDone]

@[simp] theorem lckLost_frame (s : State) :
    (lckLost s).prf = s.prf ∧ (lckLost s).tms = s.tms ∧ (lckLost s).ptb = s.ptb ∧ (lckLost s).pending = s.pending ∧
    (lckLost s).draws = s.draws ∧ (lckLost s).ramp.segIndex = s.ramp.segIndex ∧ (lckLost s).ramp.sp = s.ramp.sp ∧
    (lckLost s).ramp.holdTimer = s.ramp.holdTimer ∧ (lckLost s).ramp.segTimer = s.ramp.segTimer ∧
    (lckLost s).ramp.slotWait = s.ramp.slotWait ∧ (lckLost s).lck.attempts = s.lck.attempts ∧
    (lckLost s).lck.motor = s.lck.motor ∧ (lckLost s).lck.startUp = s.lck.startUp ∧
    (lckLost s).lck.door = s.lck.door ∧ (lckLost s).lck.latch = s.lck.latch ∧ (lckLost s).lck.stage = s.lck.stage ∧
    (lckLost s).lck.testPass = s.lck.testPass ∧ (lckLost s).reg.limited = s.reg.limited ∧
    (lckLost s).drv.state = s.drv.state ∧ (lckLost s).drv.window = s.drv.window ∧
    (lckLost s).drv.limited = s.drv.limited ∧ (lckLost s).drv.last = s.drv.last ∧
    (lckLost s).drv.overPresent = s.drv.overPresent ∧ (lckLost s).drv.stuckPresent = s.drv.stuckPresent ∧
    (lckLost s).bli.attempt = s.bli.attempt ∧ (lckLost s).bli.output = s.bli.output ∧
    (lckLost s).bli.frame = s.bli.frame ∧ (lckLost s).bli.errors = s.bli.errors ∧
    (lckLost s).bli.unreliable = s.bli.unreliable ∧ (lckLost s).bli.lineHeld = s.bli.lineHeld ∧
    (lckLost s).bli.txStuck = s.bli.txStuck ∧ (lckLost s).bli.numberConflict = s.bli.numberConflict ∧
    (lckLost s).bli.silent = s.bli.silent ∧ (lckLost s).bli.periodTimer = s.bli.periodTimer ∧
    (lckLost s).bli.departureTimer = s.bli.departureTimer ∧ (lckLost s).shr.state = s.shr.state ∧
    (lckLost s).shr.listenTimer = s.shr.listenTimer ∧ (lckLost s).shr.causes = s.shr.causes ∧
    (lckLost s).shr.solo = s.shr.solo ∧ (lckLost s).shr.sums = s.shr.sums ∧
    (lckLost s).prt.blindRunning = s.prt.blindRunning ∧ (lckLost s).prt.blindCount = s.prt.blindCount ∧
    (lckLost s).prt.secondMs = s.prt.secondMs ∧ (lckLost s).alk.items = s.alk.items ∧
    (lckLost s).alk.committed = s.alk.committed ∧ (lckLost s).alk.seconds = s.alk.seconds ∧
    (lckLost s).alk.resetPending = s.alk.resetPending ∧ (lckLost s).alk.link = s.alk.link := by
  simp only [lckLost]
  repeat' split
  all_goals simp

@[simp] theorem lckForced_frame (s : State) :
    (lckForced s).prf = s.prf ∧ (lckForced s).tms = s.tms ∧ (lckForced s).ptb = s.ptb ∧
    (lckForced s).pending = s.pending ∧ (lckForced s).draws = s.draws ∧
    (lckForced s).ramp.segIndex = s.ramp.segIndex ∧ (lckForced s).ramp.sp = s.ramp.sp ∧
    (lckForced s).ramp.holdTimer = s.ramp.holdTimer ∧ (lckForced s).ramp.segTimer = s.ramp.segTimer ∧
    (lckForced s).ramp.slotWait = s.ramp.slotWait ∧ (lckForced s).lck.attempts = s.lck.attempts ∧
    (lckForced s).lck.motor = s.lck.motor ∧ (lckForced s).lck.startUp = s.lck.startUp ∧
    (lckForced s).lck.door = s.lck.door ∧ (lckForced s).lck.latch = s.lck.latch ∧
    (lckForced s).lck.stage = s.lck.stage ∧ (lckForced s).lck.testPass = s.lck.testPass ∧
    (lckForced s).reg.limited = s.reg.limited ∧ (lckForced s).drv.state = s.drv.state ∧
    (lckForced s).drv.window = s.drv.window ∧ (lckForced s).drv.limited = s.drv.limited ∧
    (lckForced s).drv.last = s.drv.last ∧ (lckForced s).drv.overPresent = s.drv.overPresent ∧
    (lckForced s).drv.stuckPresent = s.drv.stuckPresent ∧ (lckForced s).bli.attempt = s.bli.attempt ∧
    (lckForced s).bli.output = s.bli.output ∧ (lckForced s).bli.frame = s.bli.frame ∧
    (lckForced s).bli.errors = s.bli.errors ∧ (lckForced s).bli.unreliable = s.bli.unreliable ∧
    (lckForced s).bli.lineHeld = s.bli.lineHeld ∧ (lckForced s).bli.txStuck = s.bli.txStuck ∧
    (lckForced s).bli.numberConflict = s.bli.numberConflict ∧ (lckForced s).bli.silent = s.bli.silent ∧
    (lckForced s).bli.periodTimer = s.bli.periodTimer ∧ (lckForced s).bli.departureTimer = s.bli.departureTimer ∧
    (lckForced s).shr.state = s.shr.state ∧ (lckForced s).shr.listenTimer = s.shr.listenTimer ∧
    (lckForced s).shr.causes = s.shr.causes ∧ (lckForced s).shr.solo = s.shr.solo ∧
    (lckForced s).shr.sums = s.shr.sums ∧ (lckForced s).prt.blindRunning = s.prt.blindRunning ∧
    (lckForced s).prt.blindCount = s.prt.blindCount ∧ (lckForced s).prt.secondMs = s.prt.secondMs ∧
    (lckForced s).alk.items = s.alk.items ∧ (lckForced s).alk.committed = s.alk.committed ∧
    (lckForced s).alk.seconds = s.alk.seconds ∧ (lckForced s).alk.resetPending = s.alk.resetPending ∧
    (lckForced s).alk.link = s.alk.link := by
  simp only [lckForced]
  repeat' split
  all_goals simp

@[simp] theorem lckLatchEngaged_frame (s : State) :
    (lckLatchEngaged s).cyc = s.cyc ∧ (lckLatchEngaged s).prf = s.prf ∧ (lckLatchEngaged s).ramp = s.ramp ∧
    (lckLatchEngaged s).tms = s.tms ∧ (lckLatchEngaged s).reg = s.reg ∧ (lckLatchEngaged s).bli = s.bli ∧
    (lckLatchEngaged s).ptb = s.ptb ∧ (lckLatchEngaged s).shr = s.shr ∧ (lckLatchEngaged s).pending = s.pending ∧
    (lckLatchEngaged s).draws = s.draws ∧ (lckLatchEngaged s).lck.attempts = s.lck.attempts ∧
    (lckLatchEngaged s).lck.startUp = s.lck.startUp ∧ (lckLatchEngaged s).lck.door = s.lck.door ∧
    (lckLatchEngaged s).lck.latch = s.lck.latch ∧ (lckLatchEngaged s).lck.testPass = s.lck.testPass ∧
    (lckLatchEngaged s).drv.state = s.drv.state ∧ (lckLatchEngaged s).drv.window = s.drv.window ∧
    (lckLatchEngaged s).drv.limited = s.drv.limited ∧ (lckLatchEngaged s).drv.last = s.drv.last ∧
    (lckLatchEngaged s).drv.overPresent = s.drv.overPresent ∧
    (lckLatchEngaged s).drv.stuckPresent = s.drv.stuckPresent ∧
    (lckLatchEngaged s).drv.permitted = s.drv.permitted ∧
    (lckLatchEngaged s).prt.blindRunning = s.prt.blindRunning ∧
    (lckLatchEngaged s).prt.blindCount = s.prt.blindCount ∧ (lckLatchEngaged s).prt.secondMs = s.prt.secondMs ∧
    (lckLatchEngaged s).alk.items = s.alk.items ∧ (lckLatchEngaged s).alk.committed = s.alk.committed ∧
    (lckLatchEngaged s).alk.seconds = s.alk.seconds ∧ (lckLatchEngaged s).alk.resetPending = s.alk.resetPending ∧
    (lckLatchEngaged s).alk.link = s.alk.link := by
  simp only [lckLatchEngaged]
  repeat' split
  all_goals simp

@[simp] theorem lckLatchFree_frame (s : State) :
    (lckLatchFree s).prf = s.prf ∧ (lckLatchFree s).tms = s.tms ∧ (lckLatchFree s).ptb = s.ptb ∧
    (lckLatchFree s).pending = s.pending ∧ (lckLatchFree s).draws = s.draws ∧
    (lckLatchFree s).ramp.segIndex = s.ramp.segIndex ∧ (lckLatchFree s).ramp.sp = s.ramp.sp ∧
    (lckLatchFree s).ramp.holdTimer = s.ramp.holdTimer ∧ (lckLatchFree s).ramp.segTimer = s.ramp.segTimer ∧
    (lckLatchFree s).ramp.slotWait = s.ramp.slotWait ∧ (lckLatchFree s).lck.startUp = s.lck.startUp ∧
    (lckLatchFree s).lck.door = s.lck.door ∧ (lckLatchFree s).lck.latch = s.lck.latch ∧
    (lckLatchFree s).lck.testPass = s.lck.testPass ∧ (lckLatchFree s).reg.limited = s.reg.limited ∧
    (lckLatchFree s).drv.state = s.drv.state ∧ (lckLatchFree s).drv.window = s.drv.window ∧
    (lckLatchFree s).drv.limited = s.drv.limited ∧ (lckLatchFree s).drv.last = s.drv.last ∧
    (lckLatchFree s).drv.overPresent = s.drv.overPresent ∧ (lckLatchFree s).drv.stuckPresent = s.drv.stuckPresent ∧
    (lckLatchFree s).bli.attempt = s.bli.attempt ∧ (lckLatchFree s).bli.output = s.bli.output ∧
    (lckLatchFree s).bli.frame = s.bli.frame ∧ (lckLatchFree s).bli.errors = s.bli.errors ∧
    (lckLatchFree s).bli.unreliable = s.bli.unreliable ∧ (lckLatchFree s).bli.lineHeld = s.bli.lineHeld ∧
    (lckLatchFree s).bli.txStuck = s.bli.txStuck ∧ (lckLatchFree s).bli.numberConflict = s.bli.numberConflict ∧
    (lckLatchFree s).bli.silent = s.bli.silent ∧ (lckLatchFree s).bli.periodTimer = s.bli.periodTimer ∧
    (lckLatchFree s).bli.departureTimer = s.bli.departureTimer ∧ (lckLatchFree s).shr.state = s.shr.state ∧
    (lckLatchFree s).shr.listenTimer = s.shr.listenTimer ∧ (lckLatchFree s).shr.causes = s.shr.causes ∧
    (lckLatchFree s).shr.solo = s.shr.solo ∧ (lckLatchFree s).shr.sums = s.shr.sums ∧
    (lckLatchFree s).prt.blindRunning = s.prt.blindRunning ∧ (lckLatchFree s).prt.blindCount = s.prt.blindCount ∧
    (lckLatchFree s).prt.secondMs = s.prt.secondMs ∧ (lckLatchFree s).alk.items = s.alk.items ∧
    (lckLatchFree s).alk.committed = s.alk.committed ∧ (lckLatchFree s).alk.seconds = s.alk.seconds ∧
    (lckLatchFree s).alk.resetPending = s.alk.resetPending ∧ (lckLatchFree s).alk.link = s.alk.link := by
  simp only [lckLatchFree]
  repeat' split
  all_goals simp

@[simp] theorem lckDoorOpens_frame (s : State) :
    (lckDoorOpens s).prf = s.prf ∧ (lckDoorOpens s).tms = s.tms ∧ (lckDoorOpens s).ptb = s.ptb ∧
    (lckDoorOpens s).pending = s.pending ∧ (lckDoorOpens s).draws = s.draws ∧
    (lckDoorOpens s).ramp.segIndex = s.ramp.segIndex ∧ (lckDoorOpens s).ramp.sp = s.ramp.sp ∧
    (lckDoorOpens s).ramp.holdTimer = s.ramp.holdTimer ∧ (lckDoorOpens s).ramp.segTimer = s.ramp.segTimer ∧
    (lckDoorOpens s).ramp.slotWait = s.ramp.slotWait ∧ (lckDoorOpens s).lck.startUp = s.lck.startUp ∧
    (lckDoorOpens s).lck.door = s.lck.door ∧ (lckDoorOpens s).lck.latch = s.lck.latch ∧
    (lckDoorOpens s).lck.testPass = s.lck.testPass ∧ (lckDoorOpens s).reg.limited = s.reg.limited ∧
    (lckDoorOpens s).drv.state = s.drv.state ∧ (lckDoorOpens s).drv.window = s.drv.window ∧
    (lckDoorOpens s).drv.limited = s.drv.limited ∧ (lckDoorOpens s).drv.last = s.drv.last ∧
    (lckDoorOpens s).drv.overPresent = s.drv.overPresent ∧ (lckDoorOpens s).drv.stuckPresent = s.drv.stuckPresent ∧
    (lckDoorOpens s).bli.attempt = s.bli.attempt ∧ (lckDoorOpens s).bli.output = s.bli.output ∧
    (lckDoorOpens s).bli.frame = s.bli.frame ∧ (lckDoorOpens s).bli.errors = s.bli.errors ∧
    (lckDoorOpens s).bli.unreliable = s.bli.unreliable ∧ (lckDoorOpens s).bli.lineHeld = s.bli.lineHeld ∧
    (lckDoorOpens s).bli.txStuck = s.bli.txStuck ∧ (lckDoorOpens s).bli.numberConflict = s.bli.numberConflict ∧
    (lckDoorOpens s).bli.silent = s.bli.silent ∧ (lckDoorOpens s).bli.periodTimer = s.bli.periodTimer ∧
    (lckDoorOpens s).bli.departureTimer = s.bli.departureTimer ∧ (lckDoorOpens s).shr.state = s.shr.state ∧
    (lckDoorOpens s).shr.listenTimer = s.shr.listenTimer ∧ (lckDoorOpens s).shr.causes = s.shr.causes ∧
    (lckDoorOpens s).shr.solo = s.shr.solo ∧ (lckDoorOpens s).shr.sums = s.shr.sums ∧
    (lckDoorOpens s).prt.blindRunning = s.prt.blindRunning ∧ (lckDoorOpens s).prt.blindCount = s.prt.blindCount ∧
    (lckDoorOpens s).prt.secondMs = s.prt.secondMs ∧ (lckDoorOpens s).alk.items = s.alk.items ∧
    (lckDoorOpens s).alk.committed = s.alk.committed ∧ (lckDoorOpens s).alk.seconds = s.alk.seconds ∧
    (lckDoorOpens s).alk.resetPending = s.alk.resetPending ∧ (lckDoorOpens s).alk.link = s.alk.link := by
  simp only [lckDoorOpens]
  repeat' split
  all_goals simp

@[simp] theorem cycLatchReport_frame (engaged : Bool) (s : State) :
    (cycLatchReport engaged s).prf = s.prf ∧ (cycLatchReport engaged s).ramp = s.ramp ∧
    (cycLatchReport engaged s).tms = s.tms ∧ (cycLatchReport engaged s).bli = s.bli ∧
    (cycLatchReport engaged s).ptb = s.ptb ∧ (cycLatchReport engaged s).shr = s.shr ∧
    (cycLatchReport engaged s).pending = s.pending ∧ (cycLatchReport engaged s).draws = s.draws ∧
    (cycLatchReport engaged s).lck.attempts = s.lck.attempts ∧ (cycLatchReport engaged s).lck.motor = s.lck.motor ∧
    (cycLatchReport engaged s).lck.startUp = s.lck.startUp ∧ (cycLatchReport engaged s).lck.door = s.lck.door ∧
    (cycLatchReport engaged s).lck.latch = s.lck.latch ∧ (cycLatchReport engaged s).lck.stage = s.lck.stage ∧
    (cycLatchReport engaged s).lck.testPass = s.lck.testPass ∧
    (cycLatchReport engaged s).reg.demand = s.reg.demand ∧
    (cycLatchReport engaged s).reg.integral = s.reg.integral ∧
    (cycLatchReport engaged s).reg.limited = s.reg.limited ∧ (cycLatchReport engaged s).drv.state = s.drv.state ∧
    (cycLatchReport engaged s).drv.window = s.drv.window ∧ (cycLatchReport engaged s).drv.limited = s.drv.limited ∧
    (cycLatchReport engaged s).drv.last = s.drv.last ∧
    (cycLatchReport engaged s).drv.overPresent = s.drv.overPresent ∧
    (cycLatchReport engaged s).drv.stuckPresent = s.drv.stuckPresent ∧
    (cycLatchReport engaged s).drv.permitted = s.drv.permitted ∧
    (cycLatchReport engaged s).prt.blindRunning = s.prt.blindRunning ∧
    (cycLatchReport engaged s).prt.blindCount = s.prt.blindCount ∧
    (cycLatchReport engaged s).prt.secondMs = s.prt.secondMs ∧ (cycLatchReport engaged s).alk.items = s.alk.items ∧
    (cycLatchReport engaged s).alk.committed = s.alk.committed ∧
    (cycLatchReport engaged s).alk.seconds = s.alk.seconds ∧
    (cycLatchReport engaged s).alk.resetPending = s.alk.resetPending ∧
    (cycLatchReport engaged s).alk.link = s.alk.link := by
  simp only [cycLatchReport]
  repeat' split
  all_goals simp

@[simp] theorem lckStartUp_frame (engaged : Bool) (s : State) :
    (lckStartUp engaged s).prf = s.prf ∧ (lckStartUp engaged s).ramp = s.ramp ∧
    (lckStartUp engaged s).tms = s.tms ∧ (lckStartUp engaged s).bli = s.bli ∧ (lckStartUp engaged s).ptb = s.ptb ∧
    (lckStartUp engaged s).shr = s.shr ∧ (lckStartUp engaged s).pending = s.pending ∧
    (lckStartUp engaged s).draws = s.draws ∧ (lckStartUp engaged s).lck.attempts = s.lck.attempts ∧
    (lckStartUp engaged s).lck.motor = s.lck.motor ∧ (lckStartUp engaged s).lck.door = s.lck.door ∧
    (lckStartUp engaged s).lck.latch = s.lck.latch ∧ (lckStartUp engaged s).lck.stage = s.lck.stage ∧
    (lckStartUp engaged s).lck.testPass = s.lck.testPass ∧ (lckStartUp engaged s).reg.demand = s.reg.demand ∧
    (lckStartUp engaged s).reg.integral = s.reg.integral ∧ (lckStartUp engaged s).reg.limited = s.reg.limited ∧
    (lckStartUp engaged s).drv.state = s.drv.state ∧ (lckStartUp engaged s).drv.window = s.drv.window ∧
    (lckStartUp engaged s).drv.limited = s.drv.limited ∧ (lckStartUp engaged s).drv.last = s.drv.last ∧
    (lckStartUp engaged s).drv.overPresent = s.drv.overPresent ∧
    (lckStartUp engaged s).drv.stuckPresent = s.drv.stuckPresent ∧
    (lckStartUp engaged s).drv.permitted = s.drv.permitted ∧
    (lckStartUp engaged s).prt.blindRunning = s.prt.blindRunning ∧
    (lckStartUp engaged s).prt.blindCount = s.prt.blindCount ∧
    (lckStartUp engaged s).prt.secondMs = s.prt.secondMs ∧ (lckStartUp engaged s).alk.items = s.alk.items ∧
    (lckStartUp engaged s).alk.committed = s.alk.committed ∧ (lckStartUp engaged s).alk.seconds = s.alk.seconds ∧
    (lckStartUp engaged s).alk.resetPending = s.alk.resetPending ∧
    (lckStartUp engaged s).alk.link = s.alk.link := by
  simp only [lckStartUp]
  repeat' split
  all_goals simp

@[simp] theorem lckActs_frame (sw : SwitchId) (level : Bool) (s : State) :
    (lckActs sw level s).prf = s.prf ∧ (lckActs sw level s).tms = s.tms ∧ (lckActs sw level s).ptb = s.ptb ∧
    (lckActs sw level s).pending = s.pending ∧ (lckActs sw level s).draws = s.draws ∧
    (lckActs sw level s).ramp.segIndex = s.ramp.segIndex ∧ (lckActs sw level s).ramp.sp = s.ramp.sp ∧
    (lckActs sw level s).ramp.holdTimer = s.ramp.holdTimer ∧ (lckActs sw level s).ramp.segTimer = s.ramp.segTimer ∧
    (lckActs sw level s).ramp.slotWait = s.ramp.slotWait ∧ (lckActs sw level s).lck.door = s.lck.door ∧
    (lckActs sw level s).lck.latch = s.lck.latch ∧ (lckActs sw level s).lck.testPass = s.lck.testPass ∧
    (lckActs sw level s).reg.limited = s.reg.limited ∧ (lckActs sw level s).drv.state = s.drv.state ∧
    (lckActs sw level s).drv.window = s.drv.window ∧ (lckActs sw level s).drv.limited = s.drv.limited ∧
    (lckActs sw level s).drv.last = s.drv.last ∧ (lckActs sw level s).drv.overPresent = s.drv.overPresent ∧
    (lckActs sw level s).drv.stuckPresent = s.drv.stuckPresent ∧ (lckActs sw level s).bli.attempt = s.bli.attempt ∧
    (lckActs sw level s).bli.output = s.bli.output ∧ (lckActs sw level s).bli.frame = s.bli.frame ∧
    (lckActs sw level s).bli.errors = s.bli.errors ∧ (lckActs sw level s).bli.unreliable = s.bli.unreliable ∧
    (lckActs sw level s).bli.lineHeld = s.bli.lineHeld ∧ (lckActs sw level s).bli.txStuck = s.bli.txStuck ∧
    (lckActs sw level s).bli.numberConflict = s.bli.numberConflict ∧
    (lckActs sw level s).bli.silent = s.bli.silent ∧ (lckActs sw level s).bli.periodTimer = s.bli.periodTimer ∧
    (lckActs sw level s).bli.departureTimer = s.bli.departureTimer ∧ (lckActs sw level s).shr.state = s.shr.state ∧
    (lckActs sw level s).shr.listenTimer = s.shr.listenTimer ∧ (lckActs sw level s).shr.causes = s.shr.causes ∧
    (lckActs sw level s).shr.solo = s.shr.solo ∧ (lckActs sw level s).shr.sums = s.shr.sums ∧
    (lckActs sw level s).prt.blindRunning = s.prt.blindRunning ∧
    (lckActs sw level s).prt.blindCount = s.prt.blindCount ∧ (lckActs sw level s).prt.secondMs = s.prt.secondMs ∧
    (lckActs sw level s).alk.items = s.alk.items ∧ (lckActs sw level s).alk.committed = s.alk.committed ∧
    (lckActs sw level s).alk.seconds = s.alk.seconds ∧ (lckActs sw level s).alk.resetPending = s.alk.resetPending ∧
    (lckActs sw level s).alk.link = s.alk.link := by
  simp only [lckActs]
  repeat' split
  all_goals simp

@[simp] theorem lckDebounced_frame (sw : SwitchId) (level : Bool) (s : State) :
    (lckDebounced sw level s).prf = s.prf ∧ (lckDebounced sw level s).tms = s.tms ∧
    (lckDebounced sw level s).ptb = s.ptb ∧ (lckDebounced sw level s).pending = s.pending ∧
    (lckDebounced sw level s).draws = s.draws ∧ (lckDebounced sw level s).ramp.segIndex = s.ramp.segIndex ∧
    (lckDebounced sw level s).ramp.sp = s.ramp.sp ∧ (lckDebounced sw level s).ramp.holdTimer = s.ramp.holdTimer ∧
    (lckDebounced sw level s).ramp.segTimer = s.ramp.segTimer ∧
    (lckDebounced sw level s).ramp.slotWait = s.ramp.slotWait ∧
    (lckDebounced sw level s).reg.limited = s.reg.limited ∧ (lckDebounced sw level s).drv.state = s.drv.state ∧
    (lckDebounced sw level s).drv.window = s.drv.window ∧ (lckDebounced sw level s).drv.limited = s.drv.limited ∧
    (lckDebounced sw level s).drv.last = s.drv.last ∧
    (lckDebounced sw level s).drv.overPresent = s.drv.overPresent ∧
    (lckDebounced sw level s).drv.stuckPresent = s.drv.stuckPresent ∧
    (lckDebounced sw level s).bli.attempt = s.bli.attempt ∧ (lckDebounced sw level s).bli.output = s.bli.output ∧
    (lckDebounced sw level s).bli.frame = s.bli.frame ∧ (lckDebounced sw level s).bli.errors = s.bli.errors ∧
    (lckDebounced sw level s).bli.unreliable = s.bli.unreliable ∧
    (lckDebounced sw level s).bli.lineHeld = s.bli.lineHeld ∧
    (lckDebounced sw level s).bli.txStuck = s.bli.txStuck ∧
    (lckDebounced sw level s).bli.numberConflict = s.bli.numberConflict ∧
    (lckDebounced sw level s).bli.silent = s.bli.silent ∧
    (lckDebounced sw level s).bli.periodTimer = s.bli.periodTimer ∧
    (lckDebounced sw level s).bli.departureTimer = s.bli.departureTimer ∧
    (lckDebounced sw level s).shr.state = s.shr.state ∧
    (lckDebounced sw level s).shr.listenTimer = s.shr.listenTimer ∧
    (lckDebounced sw level s).shr.causes = s.shr.causes ∧ (lckDebounced sw level s).shr.solo = s.shr.solo ∧
    (lckDebounced sw level s).shr.sums = s.shr.sums ∧
    (lckDebounced sw level s).prt.blindRunning = s.prt.blindRunning ∧
    (lckDebounced sw level s).prt.blindCount = s.prt.blindCount ∧
    (lckDebounced sw level s).prt.secondMs = s.prt.secondMs ∧ (lckDebounced sw level s).alk.items = s.alk.items ∧
    (lckDebounced sw level s).alk.committed = s.alk.committed ∧
    (lckDebounced sw level s).alk.seconds = s.alk.seconds ∧
    (lckDebounced sw level s).alk.resetPending = s.alk.resetPending ∧
    (lckDebounced sw level s).alk.link = s.alk.link := by
  simp only [lckDebounced]
  repeat' split
  all_goals simp

@[simp] theorem lckMeet_frame (s : State) :
    (lckMeet s).cyc = s.cyc ∧ (lckMeet s).prf = s.prf ∧ (lckMeet s).ramp = s.ramp ∧
    (lckMeet s).tms = s.tms ∧ (lckMeet s).reg = s.reg ∧ (lckMeet s).drv = s.drv ∧
    (lckMeet s).bli = s.bli ∧ (lckMeet s).ptb = s.ptb ∧ (lckMeet s).shr = s.shr ∧
    (lckMeet s).pending = s.pending ∧ (lckMeet s).draws = s.draws ∧
    (lckMeet s).lck.state = s.lck.state ∧ (lckMeet s).lck.attempts = s.lck.attempts ∧
    (lckMeet s).lck.motor = s.lck.motor ∧ (lckMeet s).lck.startUp = s.lck.startUp ∧
    (lckMeet s).lck.door = s.lck.door ∧
    (lckMeet s).lck.stage = s.lck.stage ∧ (lckMeet s).lck.testPass = s.lck.testPass ∧
    (lckMeet s).prt.blindRunning = s.prt.blindRunning ∧ (lckMeet s).prt.blindCount = s.prt.blindCount ∧
    (lckMeet s).prt.secondMs = s.prt.secondMs ∧ (lckMeet s).alk.items = s.alk.items ∧
    (lckMeet s).alk.committed = s.alk.committed ∧ (lckMeet s).alk.seconds = s.alk.seconds ∧
    (lckMeet s).alk.resetPending = s.alk.resetPending ∧ (lckMeet s).alk.link = s.alk.link := by
  unfold lckMeet
  split_ifs <;> simp only [] <;> try split_ifs
  all_goals simp

/-- A drive that expires with no change of the latch ending at that moment. -/
theorem lckMeet_quiet (s : State) (h : s.lck.latch.timer ≠ some 0) : lckMeet s = s := by
  simp [lckMeet, h]

theorem lckMeet_startUp (s : State) (h : s.lck.startUp = true) : lckMeet s = s := by
  simp [lckMeet, h]

/-- The latch after the expiry shows the raw level whose 50 ms end at it. -/
theorem lckMeet_latch (s : State) (h1 : s.lck.startUp = false) (h2 : s.lck.latch.timer = some 0) :
    (lckMeet s).lck.latch = { raw := s.lck.latch.raw, value := some s.lck.latch.raw, timer := none } := by
  simp only [lckMeet, h1, h2, and_self, if_true]
  split_ifs <;> simp

end Sys2Proof.Machine
end

