-- ==== Sys2Proof/Laws/FrameTemp.lean ====
section
/-! SUPPORT. What the temperature monitor operations leave as they were. -/

namespace Sys2Proof.Machine

@[simp] theorem cycPeak_frame (s : State) :
    (cycPeak s).prf = s.prf ∧ (cycPeak s).ramp = s.ramp ∧ (cycPeak s).lck = s.lck ∧ (cycPeak s).tms = s.tms ∧
    (cycPeak s).reg = s.reg ∧ (cycPeak s).drv = s.drv ∧ (cycPeak s).bli = s.bli ∧ (cycPeak s).ptb = s.ptb ∧
    (cycPeak s).shr = s.shr ∧ (cycPeak s).prt = s.prt ∧ (cycPeak s).alk = s.alk ∧ (cycPeak s).pending = s.pending ∧
    (cycPeak s).draws = s.draws ∧ (cycPeak s).cyc.phase = s.cyc.phase ∧
    (cycPeak s).cyc.abortPending = s.cyc.abortPending := by
  simp only [cycPeak]
  repeat' split
  all_goals simp

@[simp] theorem unlockExam_frame (s : State) :
    (unlockExam s).prf = s.prf ∧ (unlockExam s).ramp = s.ramp ∧ (unlockExam s).tms = s.tms ∧
    (unlockExam s).bli = s.bli ∧ (unlockExam s).ptb = s.ptb ∧ (unlockExam s).shr = s.shr ∧
    (unlockExam s).pending = s.pending ∧ (unlockExam s).draws = s.draws ∧
    (unlockExam s).cyc.record = s.cyc.record ∧ (unlockExam s).lck.startUp = s.lck.startUp ∧
    (unlockExam s).lck.door = s.lck.door ∧ (unlockExam s).lck.latch = s.lck.latch ∧
    (unlockExam s).reg.demand = s.reg.demand ∧ (unlockExam s).reg.integral = s.reg.integral ∧
    (unlockExam s).reg.limited = s.reg.limited ∧ (unlockExam s).drv.state = s.drv.state ∧
    (unlockExam s).drv.window = s.drv.window ∧ (unlockExam s).drv.limited = s.drv.limited ∧
    (unlockExam s).drv.last = s.drv.last ∧ (unlockExam s).drv.overPresent = s.drv.overPresent ∧
    (unlockExam s).drv.stuckPresent = s.drv.stuckPresent ∧ (unlockExam s).drv.permitted = s.drv.permitted ∧
    (unlockExam s).prt.blindRunning = s.prt.blindRunning ∧ (unlockExam s).prt.blindCount = s.prt.blindCount ∧
    (unlockExam s).prt.secondMs = s.prt.secondMs ∧ (unlockExam s).alk.items = s.alk.items ∧
    (unlockExam s).alk.committed = s.alk.committed ∧ (unlockExam s).alk.seconds = s.alk.seconds ∧
    (unlockExam s).alk.resetPending = s.alk.resetPending ∧ (unlockExam s).alk.link = s.alk.link := by
  simp [unlockExam]

@[simp] theorem tmsCeiling_frame (s : State) :
    (tmsCeiling s).prf = s.prf ∧ (tmsCeiling s).ptb = s.ptb ∧ (tmsCeiling s).pending = s.pending ∧
    (tmsCeiling s).draws = s.draws ∧ (tmsCeiling s).ramp.segIndex = s.ramp.segIndex ∧
    (tmsCeiling s).ramp.sp = s.ramp.sp ∧ (tmsCeiling s).ramp.holdTimer = s.ramp.holdTimer ∧
    (tmsCeiling s).ramp.segTimer = s.ramp.segTimer ∧ (tmsCeiling s).ramp.slotWait = s.ramp.slotWait ∧
    (tmsCeiling s).lck.attempts = s.lck.attempts ∧ (tmsCeiling s).lck.motor = s.lck.motor ∧
    (tmsCeiling s).lck.startUp = s.lck.startUp ∧ (tmsCeiling s).lck.door = s.lck.door ∧
    (tmsCeiling s).lck.latch = s.lck.latch ∧ (tmsCeiling s).lck.stage = s.lck.stage ∧
    (tmsCeiling s).lck.testPass = s.lck.testPass ∧ (tmsCeiling s).tms.a = s.tms.a ∧ (tmsCeiling s).tms.b = s.tms.b ∧
    (tmsCeiling s).tms.l = s.tms.l ∧ (tmsCeiling s).tms.disagreePresent = s.tms.disagreePresent ∧
    (tmsCeiling s).tms.latchHotPresent = s.tms.latchHotPresent ∧
    (tmsCeiling s).tms.zoneOverride = s.tms.zoneOverride ∧ (tmsCeiling s).reg.limited = s.reg.limited ∧
    (tmsCeiling s).drv.state = s.drv.state ∧ (tmsCeiling s).drv.window = s.drv.window ∧
    (tmsCeiling s).drv.limited = s.drv.limited ∧ (tmsCeiling s).drv.last = s.drv.last ∧
    (tmsCeiling s).drv.overPresent = s.drv.overPresent ∧ (tmsCeiling s).drv.stuckPresent = s.drv.stuckPresent ∧
    (tmsCeiling s).bli.attempt = s.bli.attempt ∧ (tmsCeiling s).bli.output = s.bli.output ∧
    (tmsCeiling s).bli.frame = s.bli.frame ∧ (tmsCeiling s).bli.errors = s.bli.errors ∧
    (tmsCeiling s).bli.unreliable = s.bli.unreliable ∧ (tmsCeiling s).bli.lineHeld = s.bli.lineHeld ∧
    (tmsCeiling s).bli.txStuck = s.bli.txStuck ∧ (tmsCeiling s).bli.numberConflict = s.bli.numberConflict ∧
    (tmsCeiling s).bli.silent = s.bli.silent ∧ (tmsCeiling s).bli.periodTimer = s.bli.periodTimer ∧
    (tmsCeiling s).bli.departureTimer = s.bli.departureTimer ∧ (tmsCeiling s).shr.state = s.shr.state ∧
    (tmsCeiling s).shr.listenTimer = s.shr.listenTimer ∧ (tmsCeiling s).shr.causes = s.shr.causes ∧
    (tmsCeiling s).shr.solo = s.shr.solo ∧ (tmsCeiling s).shr.sums = s.shr.sums ∧
    (tmsCeiling s).prt.blindRunning = s.prt.blindRunning ∧ (tmsCeiling s).prt.blindCount = s.prt.blindCount ∧
    (tmsCeiling s).prt.secondMs = s.prt.secondMs ∧ (tmsCeiling s).alk.items = s.alk.items ∧
    (tmsCeiling s).alk.committed = s.alk.committed ∧ (tmsCeiling s).alk.seconds = s.alk.seconds ∧
    (tmsCeiling s).alk.resetPending = s.alk.resetPending ∧ (tmsCeiling s).alk.link = s.alk.link ∧
    (tmsCeiling s).tms.due = s.tms.due := by
  simp only [tmsCeiling]
  repeat' split
  all_goals simp

@[simp] theorem tmsOverride_frame (s : State) :
    (tmsOverride s).cyc = s.cyc ∧ (tmsOverride s).prf = s.prf ∧ (tmsOverride s).ramp = s.ramp ∧
    (tmsOverride s).lck = s.lck ∧ (tmsOverride s).drv = s.drv ∧ (tmsOverride s).bli = s.bli ∧
    (tmsOverride s).ptb = s.ptb ∧ (tmsOverride s).shr = s.shr ∧ (tmsOverride s).prt = s.prt ∧
    (tmsOverride s).alk = s.alk ∧ (tmsOverride s).pending = s.pending ∧ (tmsOverride s).draws = s.draws ∧
    (tmsOverride s).tms.a = s.tms.a ∧ (tmsOverride s).tms.b = s.tms.b ∧ (tmsOverride s).tms.l = s.tms.l ∧
    (tmsOverride s).tms.disagreePresent = s.tms.disagreePresent ∧
    (tmsOverride s).tms.overtempPresent = s.tms.overtempPresent ∧
    (tmsOverride s).tms.latchHotPresent = s.tms.latchHotPresent ∧ (tmsOverride s).reg.demand = s.reg.demand ∧
    (tmsOverride s).reg.integral = s.reg.integral ∧ (tmsOverride s).reg.limited = s.reg.limited ∧
    (tmsOverride s).reg.ruleLevel = s.reg.ruleLevel ∧ (tmsOverride s).reg.coolTimer = s.reg.coolTimer ∧
    (tmsOverride s).tms.due = s.tms.due := by
  simp [tmsOverride]

@[simp] theorem tmsHotGone_frame (s : State) :
    (tmsHotGone s).cyc = s.cyc ∧ (tmsHotGone s).prf = s.prf ∧ (tmsHotGone s).ramp = s.ramp ∧
    (tmsHotGone s).lck = s.lck ∧ (tmsHotGone s).reg = s.reg ∧ (tmsHotGone s).drv = s.drv ∧
    (tmsHotGone s).bli = s.bli ∧ (tmsHotGone s).ptb = s.ptb ∧ (tmsHotGone s).shr = s.shr ∧
    (tmsHotGone s).pending = s.pending ∧ (tmsHotGone s).draws = s.draws ∧ (tmsHotGone s).tms.a = s.tms.a ∧
    (tmsHotGone s).tms.b = s.tms.b ∧ (tmsHotGone s).tms.l = s.tms.l ∧
    (tmsHotGone s).tms.disagreePresent = s.tms.disagreePresent ∧
    (tmsHotGone s).tms.overtempPresent = s.tms.overtempPresent ∧
    (tmsHotGone s).tms.zoneOverride = s.tms.zoneOverride ∧ (tmsHotGone s).prt.blindRunning = s.prt.blindRunning ∧
    (tmsHotGone s).prt.blindCount = s.prt.blindCount ∧ (tmsHotGone s).prt.secondMs = s.prt.secondMs ∧
    (tmsHotGone s).alk.items = s.alk.items ∧ (tmsHotGone s).alk.committed = s.alk.committed ∧
    (tmsHotGone s).alk.seconds = s.alk.seconds ∧ (tmsHotGone s).alk.resetPending = s.alk.resetPending ∧
    (tmsHotGone s).alk.link = s.alk.link ∧ (tmsHotGone s).tms.due = s.tms.due := by
  simp only [tmsHotGone]
  repeat' split
  all_goals simp

@[simp] theorem tmsNew_frame (ch : Channel) (s : State) :
    (tmsNew ch s).prf = s.prf ∧ (tmsNew ch s).ptb = s.ptb ∧ (tmsNew ch s).pending = s.pending ∧
    (tmsNew ch s).draws = s.draws ∧ (tmsNew ch s).ramp.segIndex = s.ramp.segIndex ∧
    (tmsNew ch s).ramp.sp = s.ramp.sp ∧ (tmsNew ch s).ramp.holdTimer = s.ramp.holdTimer ∧
    (tmsNew ch s).ramp.segTimer = s.ramp.segTimer ∧ (tmsNew ch s).ramp.slotWait = s.ramp.slotWait ∧
    (tmsNew ch s).lck.startUp = s.lck.startUp ∧ (tmsNew ch s).lck.door = s.lck.door ∧
    (tmsNew ch s).lck.latch = s.lck.latch ∧ (tmsNew ch s).tms.a = s.tms.a ∧ (tmsNew ch s).tms.b = s.tms.b ∧
    (tmsNew ch s).tms.l = s.tms.l ∧ (tmsNew ch s).tms.disagreePresent = s.tms.disagreePresent ∧
    (tmsNew ch s).reg.limited = s.reg.limited ∧ (tmsNew ch s).drv.state = s.drv.state ∧
    (tmsNew ch s).drv.window = s.drv.window ∧ (tmsNew ch s).drv.limited = s.drv.limited ∧
    (tmsNew ch s).drv.last = s.drv.last ∧ (tmsNew ch s).drv.overPresent = s.drv.overPresent ∧
    (tmsNew ch s).drv.stuckPresent = s.drv.stuckPresent ∧ (tmsNew ch s).bli.attempt = s.bli.attempt ∧
    (tmsNew ch s).bli.output = s.bli.output ∧ (tmsNew ch s).bli.frame = s.bli.frame ∧
    (tmsNew ch s).bli.errors = s.bli.errors ∧ (tmsNew ch s).bli.unreliable = s.bli.unreliable ∧
    (tmsNew ch s).bli.lineHeld = s.bli.lineHeld ∧ (tmsNew ch s).bli.txStuck = s.bli.txStuck ∧
    (tmsNew ch s).bli.numberConflict = s.bli.numberConflict ∧ (tmsNew ch s).bli.silent = s.bli.silent ∧
    (tmsNew ch s).bli.periodTimer = s.bli.periodTimer ∧ (tmsNew ch s).bli.departureTimer = s.bli.departureTimer ∧
    (tmsNew ch s).shr.state = s.shr.state ∧ (tmsNew ch s).shr.listenTimer = s.shr.listenTimer ∧
    (tmsNew ch s).shr.causes = s.shr.causes ∧ (tmsNew ch s).shr.solo = s.shr.solo ∧
    (tmsNew ch s).shr.sums = s.shr.sums ∧ (tmsNew ch s).prt.blindRunning = s.prt.blindRunning ∧
    (tmsNew ch s).prt.blindCount = s.prt.blindCount ∧ (tmsNew ch s).prt.secondMs = s.prt.secondMs ∧
    (tmsNew ch s).alk.items = s.alk.items ∧ (tmsNew ch s).alk.committed = s.alk.committed ∧
    (tmsNew ch s).alk.seconds = s.alk.seconds ∧ (tmsNew ch s).alk.resetPending = s.alk.resetPending ∧
    (tmsNew ch s).alk.link = s.alk.link ∧ (tmsNew ch s).tms.due = s.tms.due := by
  simp only [tmsNew]
  repeat' split
  all_goals simp

@[simp] theorem prtBlind_frame (s : State) :
    (prtBlind s).cyc = s.cyc ∧ (prtBlind s).prf = s.prf ∧ (prtBlind s).ramp = s.ramp ∧ (prtBlind s).lck = s.lck ∧
    (prtBlind s).tms = s.tms ∧ (prtBlind s).reg = s.reg ∧ (prtBlind s).drv = s.drv ∧ (prtBlind s).bli = s.bli ∧
    (prtBlind s).ptb = s.ptb ∧ (prtBlind s).shr = s.shr ∧ (prtBlind s).alk = s.alk ∧
    (prtBlind s).pending = s.pending ∧ (prtBlind s).draws = s.draws ∧ (prtBlind s).prt.faults = s.prt.faults := by
  simp only [prtBlind]
  repeat' split
  all_goals simp

@[simp] theorem tmsStanding_frame (ch : Channel) (s : State) :
    (tmsStanding ch s).prf = s.prf ∧ (tmsStanding ch s).ptb = s.ptb ∧ (tmsStanding ch s).pending = s.pending ∧
    (tmsStanding ch s).draws = s.draws ∧ (tmsStanding ch s).ramp.segIndex = s.ramp.segIndex ∧
    (tmsStanding ch s).ramp.sp = s.ramp.sp ∧ (tmsStanding ch s).ramp.holdTimer = s.ramp.holdTimer ∧
    (tmsStanding ch s).ramp.segTimer = s.ramp.segTimer ∧ (tmsStanding ch s).ramp.slotWait = s.ramp.slotWait ∧
    (tmsStanding ch s).lck.startUp = s.lck.startUp ∧ (tmsStanding ch s).lck.door = s.lck.door ∧
    (tmsStanding ch s).lck.latch = s.lck.latch ∧ (tmsStanding ch s).tms.a = s.tms.a ∧
    (tmsStanding ch s).tms.b = s.tms.b ∧ (tmsStanding ch s).tms.l = s.tms.l ∧
    (tmsStanding ch s).tms.disagreePresent = s.tms.disagreePresent ∧
    (tmsStanding ch s).tms.latchHotPresent = s.tms.latchHotPresent ∧
    (tmsStanding ch s).reg.limited = s.reg.limited ∧ (tmsStanding ch s).drv.state = s.drv.state ∧
    (tmsStanding ch s).drv.window = s.drv.window ∧ (tmsStanding ch s).drv.limited = s.drv.limited ∧
    (tmsStanding ch s).drv.last = s.drv.last ∧ (tmsStanding ch s).drv.overPresent = s.drv.overPresent ∧
    (tmsStanding ch s).drv.stuckPresent = s.drv.stuckPresent ∧ (tmsStanding ch s).bli.attempt = s.bli.attempt ∧
    (tmsStanding ch s).bli.output = s.bli.output ∧ (tmsStanding ch s).bli.frame = s.bli.frame ∧
    (tmsStanding ch s).bli.errors = s.bli.errors ∧ (tmsStanding ch s).bli.unreliable = s.bli.unreliable ∧
    (tmsStanding ch s).bli.lineHeld = s.bli.lineHeld ∧ (tmsStanding ch s).bli.txStuck = s.bli.txStuck ∧
    (tmsStanding ch s).bli.numberConflict = s.bli.numberConflict ∧ (tmsStanding ch s).bli.silent = s.bli.silent ∧
    (tmsStanding ch s).bli.periodTimer = s.bli.periodTimer ∧
    (tmsStanding ch s).bli.departureTimer = s.bli.departureTimer ∧ (tmsStanding ch s).shr.state = s.shr.state ∧
    (tmsStanding ch s).shr.listenTimer = s.shr.listenTimer ∧ (tmsStanding ch s).shr.causes = s.shr.causes ∧
    (tmsStanding ch s).shr.solo = s.shr.solo ∧ (tmsStanding ch s).shr.sums = s.shr.sums ∧
    (tmsStanding ch s).alk.items = s.alk.items ∧ (tmsStanding ch s).alk.committed = s.alk.committed ∧
    (tmsStanding ch s).alk.seconds = s.alk.seconds ∧ (tmsStanding ch s).alk.resetPending = s.alk.resetPending ∧
    (tmsStanding ch s).alk.link = s.alk.link ∧ (tmsStanding ch s).tms.due = s.tms.due := by
  simp only [tmsStanding]
  repeat' split
  all_goals simp

@[simp] theorem Tms.setChan_due (t : Tms) (ch : Channel) (c : Chan) : (t.setChan ch c).due = t.due := by
  cases ch <;> rfl

@[simp] theorem tmsSet_frame (ch : Channel) (c : Chan) (s : State) :
    (tmsSet ch c s).cyc = s.cyc ∧ (tmsSet ch c s).prf = s.prf ∧ (tmsSet ch c s).ramp = s.ramp ∧
    (tmsSet ch c s).lck = s.lck ∧ (tmsSet ch c s).reg = s.reg ∧ (tmsSet ch c s).drv = s.drv ∧
    (tmsSet ch c s).bli = s.bli ∧ (tmsSet ch c s).ptb = s.ptb ∧ (tmsSet ch c s).shr = s.shr ∧
    (tmsSet ch c s).prt = s.prt ∧ (tmsSet ch c s).alk = s.alk ∧ (tmsSet ch c s).pending = s.pending ∧
    (tmsSet ch c s).draws = s.draws ∧ (tmsSet ch c s).tms.due = s.tms.due := by
  simp [tmsSet]

@[simp] theorem tmsHotClear_frame (ch : Channel) (s : State) :
    (tmsHotClear ch s).cyc = s.cyc ∧ (tmsHotClear ch s).prf = s.prf ∧ (tmsHotClear ch s).ramp = s.ramp ∧
    (tmsHotClear ch s).lck = s.lck ∧ (tmsHotClear ch s).reg = s.reg ∧ (tmsHotClear ch s).drv = s.drv ∧
    (tmsHotClear ch s).bli = s.bli ∧ (tmsHotClear ch s).ptb = s.ptb ∧ (tmsHotClear ch s).shr = s.shr ∧
    (tmsHotClear ch s).prt = s.prt ∧ (tmsHotClear ch s).alk = s.alk ∧ (tmsHotClear ch s).pending = s.pending ∧
    (tmsHotClear ch s).draws = s.draws ∧ (tmsHotClear ch s).tms.a = s.tms.a ∧ (tmsHotClear ch s).tms.b = s.tms.b ∧
    (tmsHotClear ch s).tms.l = s.tms.l ∧ (tmsHotClear ch s).tms.disagreePresent = s.tms.disagreePresent ∧
    (tmsHotClear ch s).tms.overtempPresent = s.tms.overtempPresent ∧
    (tmsHotClear ch s).tms.latchHotPresent = s.tms.latchHotPresent ∧
    (tmsHotClear ch s).tms.zoneOverride = s.tms.zoneOverride ∧ (tmsHotClear ch s).tms.due = s.tms.due := by
  simp only [tmsHotClear]
  repeat' split
  all_goals simp

@[simp] theorem tmsFail_frame (ch : Channel) (s : State) :
    (tmsFail ch s).prf = s.prf ∧ (tmsFail ch s).ptb = s.ptb ∧ (tmsFail ch s).pending = s.pending ∧
    (tmsFail ch s).draws = s.draws ∧ (tmsFail ch s).ramp.segIndex = s.ramp.segIndex ∧
    (tmsFail ch s).ramp.sp = s.ramp.sp ∧ (tmsFail ch s).ramp.holdTimer = s.ramp.holdTimer ∧
    (tmsFail ch s).ramp.segTimer = s.ramp.segTimer ∧ (tmsFail ch s).ramp.slotWait = s.ramp.slotWait ∧
    (tmsFail ch s).lck.startUp = s.lck.startUp ∧ (tmsFail ch s).lck.door = s.lck.door ∧
    (tmsFail ch s).lck.latch = s.lck.latch ∧ (tmsFail ch s).reg.limited = s.reg.limited ∧
    (tmsFail ch s).drv.state = s.drv.state ∧ (tmsFail ch s).drv.window = s.drv.window ∧
    (tmsFail ch s).drv.limited = s.drv.limited ∧ (tmsFail ch s).drv.last = s.drv.last ∧
    (tmsFail ch s).drv.overPresent = s.drv.overPresent ∧ (tmsFail ch s).drv.stuckPresent = s.drv.stuckPresent ∧
    (tmsFail ch s).bli.attempt = s.bli.attempt ∧ (tmsFail ch s).bli.output = s.bli.output ∧
    (tmsFail ch s).bli.frame = s.bli.frame ∧ (tmsFail ch s).bli.errors = s.bli.errors ∧
    (tmsFail ch s).bli.unreliable = s.bli.unreliable ∧ (tmsFail ch s).bli.lineHeld = s.bli.lineHeld ∧
    (tmsFail ch s).bli.txStuck = s.bli.txStuck ∧ (tmsFail ch s).bli.numberConflict = s.bli.numberConflict ∧
    (tmsFail ch s).bli.silent = s.bli.silent ∧ (tmsFail ch s).bli.periodTimer = s.bli.periodTimer ∧
    (tmsFail ch s).bli.departureTimer = s.bli.departureTimer ∧ (tmsFail ch s).shr.state = s.shr.state ∧
    (tmsFail ch s).shr.listenTimer = s.shr.listenTimer ∧ (tmsFail ch s).shr.causes = s.shr.causes ∧
    (tmsFail ch s).shr.solo = s.shr.solo ∧ (tmsFail ch s).shr.sums = s.shr.sums ∧
    (tmsFail ch s).alk.items = s.alk.items ∧ (tmsFail ch s).alk.committed = s.alk.committed ∧
    (tmsFail ch s).alk.seconds = s.alk.seconds ∧ (tmsFail ch s).alk.resetPending = s.alk.resetPending ∧
    (tmsFail ch s).alk.link = s.alk.link ∧ (tmsFail ch s).tms.due = s.tms.due := by
  simp [tmsFail]

@[simp] theorem tmsRecover_frame (ch : Channel) (s : State) :
    (tmsRecover ch s).prf = s.prf ∧ (tmsRecover ch s).ptb = s.ptb ∧ (tmsRecover ch s).pending = s.pending ∧
    (tmsRecover ch s).draws = s.draws ∧ (tmsRecover ch s).ramp.segIndex = s.ramp.segIndex ∧
    (tmsRecover ch s).ramp.sp = s.ramp.sp ∧ (tmsRecover ch s).ramp.holdTimer = s.ramp.holdTimer ∧
    (tmsRecover ch s).ramp.segTimer = s.ramp.segTimer ∧ (tmsRecover ch s).ramp.slotWait = s.ramp.slotWait ∧
    (tmsRecover ch s).lck.startUp = s.lck.startUp ∧ (tmsRecover ch s).lck.door = s.lck.door ∧
    (tmsRecover ch s).lck.latch = s.lck.latch ∧ (tmsRecover ch s).reg.limited = s.reg.limited ∧
    (tmsRecover ch s).drv.state = s.drv.state ∧ (tmsRecover ch s).drv.window = s.drv.window ∧
    (tmsRecover ch s).drv.limited = s.drv.limited ∧ (tmsRecover ch s).drv.last = s.drv.last ∧
    (tmsRecover ch s).drv.overPresent = s.drv.overPresent ∧
    (tmsRecover ch s).drv.stuckPresent = s.drv.stuckPresent ∧ (tmsRecover ch s).bli.attempt = s.bli.attempt ∧
    (tmsRecover ch s).bli.output = s.bli.output ∧ (tmsRecover ch s).bli.frame = s.bli.frame ∧
    (tmsRecover ch s).bli.errors = s.bli.errors ∧ (tmsRecover ch s).bli.unreliable = s.bli.unreliable ∧
    (tmsRecover ch s).bli.lineHeld = s.bli.lineHeld ∧ (tmsRecover ch s).bli.txStuck = s.bli.txStuck ∧
    (tmsRecover ch s).bli.numberConflict = s.bli.numberConflict ∧ (tmsRecover ch s).bli.silent = s.bli.silent ∧
    (tmsRecover ch s).bli.periodTimer = s.bli.periodTimer ∧
    (tmsRecover ch s).bli.departureTimer = s.bli.departureTimer ∧ (tmsRecover ch s).shr.state = s.shr.state ∧
    (tmsRecover ch s).shr.listenTimer = s.shr.listenTimer ∧ (tmsRecover ch s).shr.causes = s.shr.causes ∧
    (tmsRecover ch s).shr.solo = s.shr.solo ∧ (tmsRecover ch s).shr.sums = s.shr.sums ∧
    (tmsRecover ch s).alk.items = s.alk.items ∧ (tmsRecover ch s).alk.committed = s.alk.committed ∧
    (tmsRecover ch s).alk.seconds = s.alk.seconds ∧ (tmsRecover ch s).alk.resetPending = s.alk.resetPending ∧
    (tmsRecover ch s).alk.link = s.alk.link ∧ (tmsRecover ch s).tms.due = s.tms.due := by
  simp [tmsRecover]

@[simp] theorem tmsValid_frame (ch : Channel) (raw : Int) (s : State) :
    (tmsValid ch raw s).prf = s.prf ∧ (tmsValid ch raw s).ptb = s.ptb ∧ (tmsValid ch raw s).pending = s.pending ∧
    (tmsValid ch raw s).draws = s.draws ∧ (tmsValid ch raw s).ramp.segIndex = s.ramp.segIndex ∧
    (tmsValid ch raw s).ramp.sp = s.ramp.sp ∧ (tmsValid ch raw s).ramp.holdTimer = s.ramp.holdTimer ∧
    (tmsValid ch raw s).ramp.segTimer = s.ramp.segTimer ∧ (tmsValid ch raw s).ramp.slotWait = s.ramp.slotWait ∧
    (tmsValid ch raw s).lck.startUp = s.lck.startUp ∧ (tmsValid ch raw s).lck.door = s.lck.door ∧
    (tmsValid ch raw s).lck.latch = s.lck.latch ∧ (tmsValid ch raw s).reg.limited = s.reg.limited ∧
    (tmsValid ch raw s).drv.state = s.drv.state ∧ (tmsValid ch raw s).drv.window = s.drv.window ∧
    (tmsValid ch raw s).drv.limited = s.drv.limited ∧ (tmsValid ch raw s).drv.last = s.drv.last ∧
    (tmsValid ch raw s).drv.overPresent = s.drv.overPresent ∧
    (tmsValid ch raw s).drv.stuckPresent = s.drv.stuckPresent ∧ (tmsValid ch raw s).bli.attempt = s.bli.attempt ∧
    (tmsValid ch raw s).bli.output = s.bli.output ∧ (tmsValid ch raw s).bli.frame = s.bli.frame ∧
    (tmsValid ch raw s).bli.errors = s.bli.errors ∧ (tmsValid ch raw s).bli.unreliable = s.bli.unreliable ∧
    (tmsValid ch raw s).bli.lineHeld = s.bli.lineHeld ∧ (tmsValid ch raw s).bli.txStuck = s.bli.txStuck ∧
    (tmsValid ch raw s).bli.numberConflict = s.bli.numberConflict ∧ (tmsValid ch raw s).bli.silent = s.bli.silent ∧
    (tmsValid ch raw s).bli.periodTimer = s.bli.periodTimer ∧
    (tmsValid ch raw s).bli.departureTimer = s.bli.departureTimer ∧ (tmsValid ch raw s).shr.state = s.shr.state ∧
    (tmsValid ch raw s).shr.listenTimer = s.shr.listenTimer ∧ (tmsValid ch raw s).shr.causes = s.shr.causes ∧
    (tmsValid ch raw s).shr.solo = s.shr.solo ∧ (tmsValid ch raw s).shr.sums = s.shr.sums ∧
    (tmsValid ch raw s).alk.items = s.alk.items ∧ (tmsValid ch raw s).alk.committed = s.alk.committed ∧
    (tmsValid ch raw s).alk.seconds = s.alk.seconds ∧ (tmsValid ch raw s).alk.resetPending = s.alk.resetPending ∧
    (tmsValid ch raw s).alk.link = s.alk.link ∧ (tmsValid ch raw s).tms.due = s.tms.due := by
  simp only [tmsValid]
  repeat' split
  all_goals simp

@[simp] theorem tmsInvalid_frame (ch : Channel) (s : State) :
    (tmsInvalid ch s).prf = s.prf ∧ (tmsInvalid ch s).ptb = s.ptb ∧ (tmsInvalid ch s).pending = s.pending ∧
    (tmsInvalid ch s).draws = s.draws ∧ (tmsInvalid ch s).ramp.segIndex = s.ramp.segIndex ∧
    (tmsInvalid ch s).ramp.sp = s.ramp.sp ∧ (tmsInvalid ch s).ramp.holdTimer = s.ramp.holdTimer ∧
    (tmsInvalid ch s).ramp.segTimer = s.ramp.segTimer ∧ (tmsInvalid ch s).ramp.slotWait = s.ramp.slotWait ∧
    (tmsInvalid ch s).lck.startUp = s.lck.startUp ∧ (tmsInvalid ch s).lck.door = s.lck.door ∧
    (tmsInvalid ch s).lck.latch = s.lck.latch ∧ (tmsInvalid ch s).reg.limited = s.reg.limited ∧
    (tmsInvalid ch s).drv.state = s.drv.state ∧ (tmsInvalid ch s).drv.window = s.drv.window ∧
    (tmsInvalid ch s).drv.limited = s.drv.limited ∧ (tmsInvalid ch s).drv.last = s.drv.last ∧
    (tmsInvalid ch s).drv.overPresent = s.drv.overPresent ∧
    (tmsInvalid ch s).drv.stuckPresent = s.drv.stuckPresent ∧ (tmsInvalid ch s).bli.attempt = s.bli.attempt ∧
    (tmsInvalid ch s).bli.output = s.bli.output ∧ (tmsInvalid ch s).bli.frame = s.bli.frame ∧
    (tmsInvalid ch s).bli.errors = s.bli.errors ∧ (tmsInvalid ch s).bli.unreliable = s.bli.unreliable ∧
    (tmsInvalid ch s).bli.lineHeld = s.bli.lineHeld ∧ (tmsInvalid ch s).bli.txStuck = s.bli.txStuck ∧
    (tmsInvalid ch s).bli.numberConflict = s.bli.numberConflict ∧ (tmsInvalid ch s).bli.silent = s.bli.silent ∧
    (tmsInvalid ch s).bli.periodTimer = s.bli.periodTimer ∧
    (tmsInvalid ch s).bli.departureTimer = s.bli.departureTimer ∧ (tmsInvalid ch s).shr.state = s.shr.state ∧
    (tmsInvalid ch s).shr.listenTimer = s.shr.listenTimer ∧ (tmsInvalid ch s).shr.causes = s.shr.causes ∧
    (tmsInvalid ch s).shr.solo = s.shr.solo ∧ (tmsInvalid ch s).shr.sums = s.shr.sums ∧
    (tmsInvalid ch s).alk.items = s.alk.items ∧ (tmsInvalid ch s).alk.committed = s.alk.committed ∧
    (tmsInvalid ch s).alk.seconds = s.alk.seconds ∧ (tmsInvalid ch s).alk.resetPending = s.alk.resetPending ∧
    (tmsInvalid ch s).alk.link = s.alk.link ∧ (tmsInvalid ch s).tms.due = s.tms.due := by
  simp only [tmsInvalid]
  repeat' split
  all_goals simp

@[simp] theorem tmsFailedValid_frame (ch : Channel) (raw : Int) (s : State) :
    (tmsFailedValid ch raw s).prf = s.prf ∧ (tmsFailedValid ch raw s).ptb = s.ptb ∧
    (tmsFailedValid ch raw s).pending = s.pending ∧ (tmsFailedValid ch raw s).draws = s.draws ∧
    (tmsFailedValid ch raw s).ramp.segIndex = s.ramp.segIndex ∧ (tmsFailedValid ch raw s).ramp.sp = s.ramp.sp ∧
    (tmsFailedValid ch raw s).ramp.holdTimer = s.ramp.holdTimer ∧
    (tmsFailedValid ch raw s).ramp.segTimer = s.ramp.segTimer ∧
    (tmsFailedValid ch raw s).ramp.slotWait = s.ramp.slotWait ∧
    (tmsFailedValid ch raw s).lck.startUp = s.lck.startUp ∧ (tmsFailedValid ch raw s).lck.door = s.lck.door ∧
    (tmsFailedValid ch raw s).lck.latch = s.lck.latch ∧ (tmsFailedValid ch raw s).reg.limited = s.reg.limited ∧
    (tmsFailedValid ch raw s).drv.state = s.drv.state ∧ (tmsFailedValid ch raw s).drv.window = s.drv.window ∧
    (tmsFailedValid ch raw s).drv.limited = s.drv.limited ∧ (tmsFailedValid ch raw s).drv.last = s.drv.last ∧
    (tmsFailedValid ch raw s).drv.overPresent = s.drv.overPresent ∧
    (tmsFailedValid ch raw s).drv.stuckPresent = s.drv.stuckPresent ∧
    (tmsFailedValid ch raw s).bli.attempt = s.bli.attempt ∧ (tmsFailedValid ch raw s).bli.output = s.bli.output ∧
    (tmsFailedValid ch raw s).bli.frame = s.bli.frame ∧ (tmsFailedValid ch raw s).bli.errors = s.bli.errors ∧
    (tmsFailedValid ch raw s).bli.unreliable = s.bli.unreliable ∧
    (tmsFailedValid ch raw s).bli.lineHeld = s.bli.lineHeld ∧
    (tmsFailedValid ch raw s).bli.txStuck = s.bli.txStuck ∧
    (tmsFailedValid ch raw s).bli.numberConflict = s.bli.numberConflict ∧
    (tmsFailedValid ch raw s).bli.silent = s.bli.silent ∧
    (tmsFailedValid ch raw s).bli.periodTimer = s.bli.periodTimer ∧
    (tmsFailedValid ch raw s).bli.departureTimer = s.bli.departureTimer ∧
    (tmsFailedValid ch raw s).shr.state = s.shr.state ∧
    (tmsFailedValid ch raw s).shr.listenTimer = s.shr.listenTimer ∧
    (tmsFailedValid ch raw s).shr.causes = s.shr.causes ∧ (tmsFailedValid ch raw s).shr.solo = s.shr.solo ∧
    (tmsFailedValid ch raw s).shr.sums = s.shr.sums ∧ (tmsFailedValid ch raw s).alk.items = s.alk.items ∧
    (tmsFailedValid ch raw s).alk.committed = s.alk.committed ∧
    (tmsFailedValid ch raw s).alk.seconds = s.alk.seconds ∧
    (tmsFailedValid ch raw s).alk.resetPending = s.alk.resetPending ∧
    (tmsFailedValid ch raw s).alk.link = s.alk.link ∧ (tmsFailedValid ch raw s).tms.due = s.tms.due := by
  simp only [tmsFailedValid]
  repeat' split
  all_goals simp

@[simp] theorem tmsFailedInvalid_frame (ch : Channel) (s : State) :
    (tmsFailedInvalid ch s).cyc = s.cyc ∧ (tmsFailedInvalid ch s).prf = s.prf ∧
    (tmsFailedInvalid ch s).ramp = s.ramp ∧ (tmsFailedInvalid ch s).lck = s.lck ∧
    (tmsFailedInvalid ch s).reg = s.reg ∧ (tmsFailedInvalid ch s).drv = s.drv ∧
    (tmsFailedInvalid ch s).bli = s.bli ∧ (tmsFailedInvalid ch s).ptb = s.ptb ∧
    (tmsFailedInvalid ch s).shr = s.shr ∧ (tmsFailedInvalid ch s).prt = s.prt ∧
    (tmsFailedInvalid ch s).alk = s.alk ∧ (tmsFailedInvalid ch s).pending = s.pending ∧
    (tmsFailedInvalid ch s).draws = s.draws ∧ (tmsFailedInvalid ch s).tms.due = s.tms.due := by
  simp [tmsFailedInvalid]

@[simp] theorem tmsLatest_frame (ch : Channel) (raw : Int) (s : State) :
    (tmsLatest ch raw s).cyc = s.cyc ∧ (tmsLatest ch raw s).prf = s.prf ∧ (tmsLatest ch raw s).ramp = s.ramp ∧
    (tmsLatest ch raw s).lck = s.lck ∧ (tmsLatest ch raw s).drv = s.drv ∧ (tmsLatest ch raw s).bli = s.bli ∧
    (tmsLatest ch raw s).ptb = s.ptb ∧ (tmsLatest ch raw s).shr = s.shr ∧ (tmsLatest ch raw s).prt = s.prt ∧
    (tmsLatest ch raw s).alk = s.alk ∧ (tmsLatest ch raw s).pending = s.pending ∧
    (tmsLatest ch raw s).draws = s.draws ∧ (tmsLatest ch raw s).reg.demand = s.reg.demand ∧
    (tmsLatest ch raw s).reg.integral = s.reg.integral ∧ (tmsLatest ch raw s).reg.limited = s.reg.limited ∧
    (tmsLatest ch raw s).reg.ruleLevel = s.reg.ruleLevel ∧ (tmsLatest ch raw s).reg.coolTimer = s.reg.coolTimer ∧
    (tmsLatest ch raw s).tms.due = s.tms.due := by
  simp [tmsLatest]

@[simp] theorem tmsReading_frame (ch : Channel) (raw : Int) (s : State) :
    (tmsReading ch raw s).prf = s.prf ∧ (tmsReading ch raw s).ptb = s.ptb ∧
    (tmsReading ch raw s).pending = s.pending ∧ (tmsReading ch raw s).draws = s.draws ∧
    (tmsReading ch raw s).ramp.segIndex = s.ramp.segIndex ∧ (tmsReading ch raw s).ramp.sp = s.ramp.sp ∧
    (tmsReading ch raw s).ramp.holdTimer = s.ramp.holdTimer ∧
    (tmsReading ch raw s).ramp.segTimer = s.ramp.segTimer ∧ (tmsReading ch raw s).ramp.slotWait = s.ramp.slotWait ∧
    (tmsReading ch raw s).lck.startUp = s.lck.startUp ∧ (tmsReading ch raw s).lck.door = s.lck.door ∧
    (tmsReading ch raw s).lck.latch = s.lck.latch ∧ (tmsReading ch raw s).reg.limited = s.reg.limited ∧
    (tmsReading ch raw s).drv.state = s.drv.state ∧ (tmsReading ch raw s).drv.window = s.drv.window ∧
    (tmsReading ch raw s).drv.limited = s.drv.limited ∧ (tmsReading ch raw s).drv.last = s.drv.last ∧
    (tmsReading ch raw s).drv.overPresent = s.drv.overPresent ∧
    (tmsReading ch raw s).drv.stuckPresent = s.drv.stuckPresent ∧
    (tmsReading ch raw s).bli.attempt = s.bli.attempt ∧ (tmsReading ch raw s).bli.output = s.bli.output ∧
    (tmsReading ch raw s).bli.frame = s.bli.frame ∧ (tmsReading ch raw s).bli.errors = s.bli.errors ∧
    (tmsReading ch raw s).bli.unreliable = s.bli.unreliable ∧ (tmsReading ch raw s).bli.lineHeld = s.bli.lineHeld ∧
    (tmsReading ch raw s).bli.txStuck = s.bli.txStuck ∧
    (tmsReading ch raw s).bli.numberConflict = s.bli.numberConflict ∧
    (tmsReading ch raw s).bli.silent = s.bli.silent ∧ (tmsReading ch raw s).bli.periodTimer = s.bli.periodTimer ∧
    (tmsReading ch raw s).bli.departureTimer = s.bli.departureTimer ∧
    (tmsReading ch raw s).shr.state = s.shr.state ∧ (tmsReading ch raw s).shr.listenTimer = s.shr.listenTimer ∧
    (tmsReading ch raw s).shr.causes = s.shr.causes ∧ (tmsReading ch raw s).shr.solo = s.shr.solo ∧
    (tmsReading ch raw s).shr.sums = s.shr.sums ∧ (tmsReading ch raw s).alk.items = s.alk.items ∧
    (tmsReading ch raw s).alk.committed = s.alk.committed ∧ (tmsReading ch raw s).alk.seconds = s.alk.seconds ∧
    (tmsReading ch raw s).alk.resetPending = s.alk.resetPending ∧ (tmsReading ch raw s).alk.link = s.alk.link ∧
    (tmsReading ch raw s).tms.due = s.tms.due := by
  simp only [tmsReading]
  repeat' split
  all_goals simp

@[simp] theorem tmsCounts_frame (s : State) :
    (tmsCounts s).cyc = s.cyc ∧ (tmsCounts s).prf = s.prf ∧ (tmsCounts s).ramp = s.ramp ∧
    (tmsCounts s).lck = s.lck ∧ (tmsCounts s).reg = s.reg ∧ (tmsCounts s).drv = s.drv ∧ (tmsCounts s).bli = s.bli ∧
    (tmsCounts s).ptb = s.ptb ∧ (tmsCounts s).shr = s.shr ∧ (tmsCounts s).prt = s.prt ∧ (tmsCounts s).alk = s.alk ∧
    (tmsCounts s).pending = s.pending ∧ (tmsCounts s).draws = s.draws ∧ (tmsCounts s).tms.a = s.tms.a ∧
    (tmsCounts s).tms.b = s.tms.b ∧ (tmsCounts s).tms.l = s.tms.l ∧
    (tmsCounts s).tms.disagreePresent = s.tms.disagreePresent ∧
    (tmsCounts s).tms.overtempPresent = s.tms.overtempPresent ∧
    (tmsCounts s).tms.latchHotPresent = s.tms.latchHotPresent ∧
    (tmsCounts s).tms.zoneOverride = s.tms.zoneOverride ∧ (tmsCounts s).tms.due = s.tms.due := by
  simp only [tmsCounts]
  repeat' split
  all_goals simp

@[simp] theorem tmsDisagree_frame (s : State) :
    (tmsDisagree s).prf = s.prf ∧ (tmsDisagree s).ptb = s.ptb ∧ (tmsDisagree s).pending = s.pending ∧
    (tmsDisagree s).draws = s.draws ∧ (tmsDisagree s).ramp.segIndex = s.ramp.segIndex ∧
    (tmsDisagree s).ramp.sp = s.ramp.sp ∧ (tmsDisagree s).ramp.holdTimer = s.ramp.holdTimer ∧
    (tmsDisagree s).ramp.segTimer = s.ramp.segTimer ∧ (tmsDisagree s).ramp.slotWait = s.ramp.slotWait ∧
    (tmsDisagree s).lck.attempts = s.lck.attempts ∧ (tmsDisagree s).lck.motor = s.lck.motor ∧
    (tmsDisagree s).lck.startUp = s.lck.startUp ∧ (tmsDisagree s).lck.door = s.lck.door ∧
    (tmsDisagree s).lck.latch = s.lck.latch ∧ (tmsDisagree s).lck.stage = s.lck.stage ∧
    (tmsDisagree s).lck.testPass = s.lck.testPass ∧ (tmsDisagree s).tms.a = s.tms.a ∧
    (tmsDisagree s).tms.b = s.tms.b ∧ (tmsDisagree s).tms.l = s.tms.l ∧
    (tmsDisagree s).tms.overtempPresent = s.tms.overtempPresent ∧
    (tmsDisagree s).tms.latchHotPresent = s.tms.latchHotPresent ∧
    (tmsDisagree s).tms.zoneOverride = s.tms.zoneOverride ∧ (tmsDisagree s).reg.limited = s.reg.limited ∧
    (tmsDisagree s).drv.state = s.drv.state ∧ (tmsDisagree s).drv.window = s.drv.window ∧
    (tmsDisagree s).drv.limited = s.drv.limited ∧ (tmsDisagree s).drv.last = s.drv.last ∧
    (tmsDisagree s).drv.overPresent = s.drv.overPresent ∧ (tmsDisagree s).drv.stuckPresent = s.drv.stuckPresent ∧
    (tmsDisagree s).bli.attempt = s.bli.attempt ∧ (tmsDisagree s).bli.output = s.bli.output ∧
    (tmsDisagree s).bli.frame = s.bli.frame ∧ (tmsDisagree s).bli.errors = s.bli.errors ∧
    (tmsDisagree s).bli.unreliable = s.bli.unreliable ∧ (tmsDisagree s).bli.lineHeld = s.bli.lineHeld ∧
    (tmsDisagree s).bli.txStuck = s.bli.txStuck ∧ (tmsDisagree s).bli.numberConflict = s.bli.numberConflict ∧
    (tmsDisagree s).bli.silent = s.bli.silent ∧ (tmsDisagree s).bli.periodTimer = s.bli.periodTimer ∧
    (tmsDisagree s).bli.departureTimer = s.bli.departureTimer ∧ (tmsDisagree s).shr.state = s.shr.state ∧
    (tmsDisagree s).shr.listenTimer = s.shr.listenTimer ∧ (tmsDisagree s).shr.causes = s.shr.causes ∧
    (tmsDisagree s).shr.solo = s.shr.solo ∧ (tmsDisagree s).shr.sums = s.shr.sums ∧
    (tmsDisagree s).prt.blindRunning = s.prt.blindRunning ∧ (tmsDisagree s).prt.blindCount = s.prt.blindCount ∧
    (tmsDisagree s).prt.secondMs = s.prt.secondMs ∧ (tmsDisagree s).alk.items = s.alk.items ∧
    (tmsDisagree s).alk.committed = s.alk.committed ∧ (tmsDisagree s).alk.seconds = s.alk.seconds ∧
    (tmsDisagree s).alk.resetPending = s.alk.resetPending ∧ (tmsDisagree s).alk.link = s.alk.link ∧
    (tmsDisagree s).tms.due = s.tms.due := by
  simp only [tmsDisagree]
  repeat' split
  all_goals simp

@[simp] theorem tmsPair_frame (s : State) :
    (tmsPair s).prf = s.prf ∧ (tmsPair s).ptb = s.ptb ∧ (tmsPair s).pending = s.pending ∧
    (tmsPair s).draws = s.draws ∧ (tmsPair s).ramp.segIndex = s.ramp.segIndex ∧ (tmsPair s).ramp.sp = s.ramp.sp ∧
    (tmsPair s).ramp.holdTimer = s.ramp.holdTimer ∧ (tmsPair s).ramp.segTimer = s.ramp.segTimer ∧
    (tmsPair s).ramp.slotWait = s.ramp.slotWait ∧ (tmsPair s).lck.attempts = s.lck.attempts ∧
    (tmsPair s).lck.motor = s.lck.motor ∧ (tmsPair s).lck.startUp = s.lck.startUp ∧
    (tmsPair s).lck.door = s.lck.door ∧ (tmsPair s).lck.latch = s.lck.latch ∧ (tmsPair s).lck.stage = s.lck.stage ∧
    (tmsPair s).lck.testPass = s.lck.testPass ∧ (tmsPair s).tms.a = s.tms.a ∧ (tmsPair s).tms.b = s.tms.b ∧
    (tmsPair s).tms.l = s.tms.l ∧ (tmsPair s).tms.overtempPresent = s.tms.overtempPresent ∧
    (tmsPair s).tms.latchHotPresent = s.tms.latchHotPresent ∧ (tmsPair s).tms.zoneOverride = s.tms.zoneOverride ∧
    (tmsPair s).reg.limited = s.reg.limited ∧ (tmsPair s).drv.state = s.drv.state ∧
    (tmsPair s).drv.window = s.drv.window ∧ (tmsPair s).drv.limited = s.drv.limited ∧
    (tmsPair s).drv.last = s.drv.last ∧ (tmsPair s).drv.overPresent = s.drv.overPresent ∧
    (tmsPair s).drv.stuckPresent = s.drv.stuckPresent ∧ (tmsPair s).bli.attempt = s.bli.attempt ∧
    (tmsPair s).bli.output = s.bli.output ∧ (tmsPair s).bli.frame = s.bli.frame ∧
    (tmsPair s).bli.errors = s.bli.errors ∧ (tmsPair s).bli.unreliable = s.bli.unreliable ∧
    (tmsPair s).bli.lineHeld = s.bli.lineHeld ∧ (tmsPair s).bli.txStuck = s.bli.txStuck ∧
    (tmsPair s).bli.numberConflict = s.bli.numberConflict ∧ (tmsPair s).bli.silent = s.bli.silent ∧
    (tmsPair s).bli.periodTimer = s.bli.periodTimer ∧ (tmsPair s).bli.departureTimer = s.bli.departureTimer ∧
    (tmsPair s).shr.state = s.shr.state ∧ (tmsPair s).shr.listenTimer = s.shr.listenTimer ∧
    (tmsPair s).shr.causes = s.shr.causes ∧ (tmsPair s).shr.solo = s.shr.solo ∧ (tmsPair s).shr.sums = s.shr.sums ∧
    (tmsPair s).prt.blindRunning = s.prt.blindRunning ∧ (tmsPair s).prt.blindCount = s.prt.blindCount ∧
    (tmsPair s).prt.secondMs = s.prt.secondMs ∧ (tmsPair s).alk.items = s.alk.items ∧
    (tmsPair s).alk.committed = s.alk.committed ∧ (tmsPair s).alk.seconds = s.alk.seconds ∧
    (tmsPair s).alk.resetPending = s.alk.resetPending ∧ (tmsPair s).alk.link = s.alk.link ∧
    (tmsPair s).tms.due = s.tms.due := by
  simp only [tmsPair]
  repeat' split
  all_goals simp

@[simp] theorem tmsHotCount_frame (s : State) :
    (tmsHotCount s).cyc = s.cyc ∧ (tmsHotCount s).prf = s.prf ∧ (tmsHotCount s).ramp = s.ramp ∧
    (tmsHotCount s).lck = s.lck ∧ (tmsHotCount s).reg = s.reg ∧ (tmsHotCount s).drv = s.drv ∧
    (tmsHotCount s).bli = s.bli ∧ (tmsHotCount s).ptb = s.ptb ∧ (tmsHotCount s).shr = s.shr ∧
    (tmsHotCount s).prt = s.prt ∧ (tmsHotCount s).alk = s.alk ∧ (tmsHotCount s).pending = s.pending ∧
    (tmsHotCount s).draws = s.draws ∧ (tmsHotCount s).tms.a = s.tms.a ∧ (tmsHotCount s).tms.b = s.tms.b ∧
    (tmsHotCount s).tms.l = s.tms.l ∧ (tmsHotCount s).tms.disagreePresent = s.tms.disagreePresent ∧
    (tmsHotCount s).tms.overtempPresent = s.tms.overtempPresent ∧
    (tmsHotCount s).tms.latchHotPresent = s.tms.latchHotPresent ∧
    (tmsHotCount s).tms.zoneOverride = s.tms.zoneOverride ∧ (tmsHotCount s).tms.due = s.tms.due := by
  simp only [tmsHotCount]
  repeat' split
  all_goals simp

@[simp] theorem tmsHot_frame (s : State) :
    (tmsHot s).prf = s.prf ∧ (tmsHot s).ptb = s.ptb ∧ (tmsHot s).pending = s.pending ∧ (tmsHot s).draws = s.draws ∧
    (tmsHot s).ramp.segIndex = s.ramp.segIndex ∧ (tmsHot s).ramp.sp = s.ramp.sp ∧
    (tmsHot s).ramp.holdTimer = s.ramp.holdTimer ∧ (tmsHot s).ramp.segTimer = s.ramp.segTimer ∧
    (tmsHot s).ramp.slotWait = s.ramp.slotWait ∧ (tmsHot s).lck.attempts = s.lck.attempts ∧
    (tmsHot s).lck.motor = s.lck.motor ∧ (tmsHot s).lck.startUp = s.lck.startUp ∧ (tmsHot s).lck.door = s.lck.door ∧
    (tmsHot s).lck.latch = s.lck.latch ∧ (tmsHot s).lck.stage = s.lck.stage ∧
    (tmsHot s).lck.testPass = s.lck.testPass ∧ (tmsHot s).tms.a = s.tms.a ∧ (tmsHot s).tms.b = s.tms.b ∧
    (tmsHot s).tms.l = s.tms.l ∧ (tmsHot s).tms.disagreePresent = s.tms.disagreePresent ∧
    (tmsHot s).tms.overtempPresent = s.tms.overtempPresent ∧ (tmsHot s).tms.zoneOverride = s.tms.zoneOverride ∧
    (tmsHot s).reg.limited = s.reg.limited ∧ (tmsHot s).drv.state = s.drv.state ∧
    (tmsHot s).drv.window = s.drv.window ∧ (tmsHot s).drv.limited = s.drv.limited ∧
    (tmsHot s).drv.last = s.drv.last ∧ (tmsHot s).drv.overPresent = s.drv.overPresent ∧
    (tmsHot s).drv.stuckPresent = s.drv.stuckPresent ∧ (tmsHot s).bli.attempt = s.bli.attempt ∧
    (tmsHot s).bli.output = s.bli.output ∧ (tmsHot s).bli.frame = s.bli.frame ∧
    (tmsHot s).bli.errors = s.bli.errors ∧ (tmsHot s).bli.unreliable = s.bli.unreliable ∧
    (tmsHot s).bli.lineHeld = s.bli.lineHeld ∧ (tmsHot s).bli.txStuck = s.bli.txStuck ∧
    (tmsHot s).bli.numberConflict = s.bli.numberConflict ∧ (tmsHot s).bli.silent = s.bli.silent ∧
    (tmsHot s).bli.periodTimer = s.bli.periodTimer ∧ (tmsHot s).bli.departureTimer = s.bli.departureTimer ∧
    (tmsHot s).shr.state = s.shr.state ∧ (tmsHot s).shr.listenTimer = s.shr.listenTimer ∧
    (tmsHot s).shr.causes = s.shr.causes ∧ (tmsHot s).shr.solo = s.shr.solo ∧ (tmsHot s).shr.sums = s.shr.sums ∧
    (tmsHot s).prt.blindRunning = s.prt.blindRunning ∧ (tmsHot s).prt.blindCount = s.prt.blindCount ∧
    (tmsHot s).prt.secondMs = s.prt.secondMs ∧ (tmsHot s).alk.items = s.alk.items ∧
    (tmsHot s).alk.committed = s.alk.committed ∧ (tmsHot s).alk.seconds = s.alk.seconds ∧
    (tmsHot s).alk.resetPending = s.alk.resetPending ∧ (tmsHot s).alk.link = s.alk.link ∧
    (tmsHot s).tms.due = s.tms.due := by
  simp only [tmsHot]
  repeat' split
  all_goals simp

@[simp] theorem tmsCheck_frame (ch : Channel) (s : State) :
    (tmsCheck ch s).prf = s.prf ∧ (tmsCheck ch s).ptb = s.ptb ∧ (tmsCheck ch s).pending = s.pending ∧
    (tmsCheck ch s).draws = s.draws ∧ (tmsCheck ch s).ramp.segIndex = s.ramp.segIndex ∧
    (tmsCheck ch s).ramp.sp = s.ramp.sp ∧ (tmsCheck ch s).ramp.holdTimer = s.ramp.holdTimer ∧
    (tmsCheck ch s).ramp.segTimer = s.ramp.segTimer ∧ (tmsCheck ch s).ramp.slotWait = s.ramp.slotWait ∧
    (tmsCheck ch s).lck.attempts = s.lck.attempts ∧ (tmsCheck ch s).lck.motor = s.lck.motor ∧
    (tmsCheck ch s).lck.startUp = s.lck.startUp ∧ (tmsCheck ch s).lck.door = s.lck.door ∧
    (tmsCheck ch s).lck.latch = s.lck.latch ∧ (tmsCheck ch s).lck.stage = s.lck.stage ∧
    (tmsCheck ch s).lck.testPass = s.lck.testPass ∧ (tmsCheck ch s).tms.a = s.tms.a ∧
    (tmsCheck ch s).tms.b = s.tms.b ∧ (tmsCheck ch s).tms.l = s.tms.l ∧
    (tmsCheck ch s).tms.overtempPresent = s.tms.overtempPresent ∧
    (tmsCheck ch s).tms.zoneOverride = s.tms.zoneOverride ∧ (tmsCheck ch s).reg.limited = s.reg.limited ∧
    (tmsCheck ch s).drv.state = s.drv.state ∧ (tmsCheck ch s).drv.window = s.drv.window ∧
    (tmsCheck ch s).drv.limited = s.drv.limited ∧ (tmsCheck ch s).drv.last = s.drv.last ∧
    (tmsCheck ch s).drv.overPresent = s.drv.overPresent ∧ (tmsCheck ch s).drv.stuckPresent = s.drv.stuckPresent ∧
    (tmsCheck ch s).bli.attempt = s.bli.attempt ∧ (tmsCheck ch s).bli.output = s.bli.output ∧
    (tmsCheck ch s).bli.frame = s.bli.frame ∧ (tmsCheck ch s).bli.errors = s.bli.errors ∧
    (tmsCheck ch s).bli.unreliable = s.bli.unreliable ∧ (tmsCheck ch s).bli.lineHeld = s.bli.lineHeld ∧
    (tmsCheck ch s).bli.txStuck = s.bli.txStuck ∧ (tmsCheck ch s).bli.numberConflict = s.bli.numberConflict ∧
    (tmsCheck ch s).bli.silent = s.bli.silent ∧ (tmsCheck ch s).bli.periodTimer = s.bli.periodTimer ∧
    (tmsCheck ch s).bli.departureTimer = s.bli.departureTimer ∧ (tmsCheck ch s).shr.state = s.shr.state ∧
    (tmsCheck ch s).shr.listenTimer = s.shr.listenTimer ∧ (tmsCheck ch s).shr.causes = s.shr.causes ∧
    (tmsCheck ch s).shr.solo = s.shr.solo ∧ (tmsCheck ch s).shr.sums = s.shr.sums ∧
    (tmsCheck ch s).prt.blindRunning = s.prt.blindRunning ∧ (tmsCheck ch s).prt.blindCount = s.prt.blindCount ∧
    (tmsCheck ch s).prt.secondMs = s.prt.secondMs ∧ (tmsCheck ch s).alk.items = s.alk.items ∧
    (tmsCheck ch s).alk.committed = s.alk.committed ∧ (tmsCheck ch s).alk.seconds = s.alk.seconds ∧
    (tmsCheck ch s).alk.resetPending = s.alk.resetPending ∧ (tmsCheck ch s).alk.link = s.alk.link ∧
    (tmsCheck ch s).tms.due = s.tms.due := by
  simp only [tmsCheck]
  repeat' split
  all_goals simp

@[simp] theorem tmsConvert_frame (ch : Channel) (raw : Int) (s : State) :
    (tmsConvert ch raw s).prf = s.prf ∧ (tmsConvert ch raw s).ptb = s.ptb ∧
    (tmsConvert ch raw s).pending = s.pending ∧ (tmsConvert ch raw s).draws = s.draws ∧
    (tmsConvert ch raw s).ramp.segIndex = s.ramp.segIndex ∧ (tmsConvert ch raw s).ramp.sp = s.ramp.sp ∧
    (tmsConvert ch raw s).ramp.holdTimer = s.ramp.holdTimer ∧
    (tmsConvert ch raw s).ramp.segTimer = s.ramp.segTimer ∧ (tmsConvert ch raw s).ramp.slotWait = s.ramp.slotWait ∧
    (tmsConvert ch raw s).lck.startUp = s.lck.startUp ∧ (tmsConvert ch raw s).lck.door = s.lck.door ∧
    (tmsConvert ch raw s).lck.latch = s.lck.latch ∧ (tmsConvert ch raw s).reg.limited = s.reg.limited ∧
    (tmsConvert ch raw s).drv.state = s.drv.state ∧ (tmsConvert ch raw s).drv.window = s.drv.window ∧
    (tmsConvert ch raw s).drv.limited = s.drv.limited ∧ (tmsConvert ch raw s).drv.last = s.drv.last ∧
    (tmsConvert ch raw s).drv.overPresent = s.drv.overPresent ∧
    (tmsConvert ch raw s).drv.stuckPresent = s.drv.stuckPresent ∧
    (tmsConvert ch raw s).bli.attempt = s.bli.attempt ∧ (tmsConvert ch raw s).bli.output = s.bli.output ∧
    (tmsConvert ch raw s).bli.frame = s.bli.frame ∧ (tmsConvert ch raw s).bli.errors = s.bli.errors ∧
    (tmsConvert ch raw s).bli.unreliable = s.bli.unreliable ∧ (tmsConvert ch raw s).bli.lineHeld = s.bli.lineHeld ∧
    (tmsConvert ch raw s).bli.txStuck = s.bli.txStuck ∧
    (tmsConvert ch raw s).bli.numberConflict = s.bli.numberConflict ∧
    (tmsConvert ch raw s).bli.silent = s.bli.silent ∧ (tmsConvert ch raw s).bli.periodTimer = s.bli.periodTimer ∧
    (tmsConvert ch raw s).bli.departureTimer = s.bli.departureTimer ∧
    (tmsConvert ch raw s).shr.state = s.shr.state ∧ (tmsConvert ch raw s).shr.listenTimer = s.shr.listenTimer ∧
    (tmsConvert ch raw s).shr.causes = s.shr.causes ∧ (tmsConvert ch raw s).shr.solo = s.shr.solo ∧
    (tmsConvert ch raw s).shr.sums = s.shr.sums ∧ (tmsConvert ch raw s).alk.items = s.alk.items ∧
    (tmsConvert ch raw s).alk.committed = s.alk.committed ∧ (tmsConvert ch raw s).alk.seconds = s.alk.seconds ∧
    (tmsConvert ch raw s).alk.resetPending = s.alk.resetPending ∧ (tmsConvert ch raw s).alk.link = s.alk.link ∧
    (tmsConvert ch raw s).tms.due = s.tms.due := by
  simp [tmsConvert]

@[simp] theorem tmsComplete_frame (ch : Channel) (raw : Int) (s : State) :
    (tmsComplete ch raw s).prf = s.prf ∧ (tmsComplete ch raw s).ptb = s.ptb ∧
    (tmsComplete ch raw s).pending = s.pending ∧ (tmsComplete ch raw s).draws = s.draws ∧
    (tmsComplete ch raw s).ramp.segIndex = s.ramp.segIndex ∧ (tmsComplete ch raw s).ramp.sp = s.ramp.sp ∧
    (tmsComplete ch raw s).ramp.holdTimer = s.ramp.holdTimer ∧
    (tmsComplete ch raw s).ramp.segTimer = s.ramp.segTimer ∧ (tmsComplete ch raw s).ramp.slotWait = s.ramp.slotWait ∧
    (tmsComplete ch raw s).lck.startUp = s.lck.startUp ∧ (tmsComplete ch raw s).lck.door = s.lck.door ∧
    (tmsComplete ch raw s).lck.latch = s.lck.latch ∧ (tmsComplete ch raw s).reg.limited = s.reg.limited ∧
    (tmsComplete ch raw s).drv.state = s.drv.state ∧ (tmsComplete ch raw s).drv.window = s.drv.window ∧
    (tmsComplete ch raw s).drv.limited = s.drv.limited ∧ (tmsComplete ch raw s).drv.last = s.drv.last ∧
    (tmsComplete ch raw s).drv.overPresent = s.drv.overPresent ∧
    (tmsComplete ch raw s).drv.stuckPresent = s.drv.stuckPresent ∧
    (tmsComplete ch raw s).bli.attempt = s.bli.attempt ∧ (tmsComplete ch raw s).bli.output = s.bli.output ∧
    (tmsComplete ch raw s).bli.frame = s.bli.frame ∧ (tmsComplete ch raw s).bli.errors = s.bli.errors ∧
    (tmsComplete ch raw s).bli.unreliable = s.bli.unreliable ∧ (tmsComplete ch raw s).bli.lineHeld = s.bli.lineHeld ∧
    (tmsComplete ch raw s).bli.txStuck = s.bli.txStuck ∧
    (tmsComplete ch raw s).bli.numberConflict = s.bli.numberConflict ∧
    (tmsComplete ch raw s).bli.silent = s.bli.silent ∧ (tmsComplete ch raw s).bli.periodTimer = s.bli.periodTimer ∧
    (tmsComplete ch raw s).bli.departureTimer = s.bli.departureTimer ∧
    (tmsComplete ch raw s).shr.state = s.shr.state ∧ (tmsComplete ch raw s).shr.listenTimer = s.shr.listenTimer ∧
    (tmsComplete ch raw s).shr.causes = s.shr.causes ∧ (tmsComplete ch raw s).shr.solo = s.shr.solo ∧
    (tmsComplete ch raw s).shr.sums = s.shr.sums ∧ (tmsComplete ch raw s).alk.items = s.alk.items ∧
    (tmsComplete ch raw s).alk.committed = s.alk.committed ∧ (tmsComplete ch raw s).alk.seconds = s.alk.seconds ∧
    (tmsComplete ch raw s).alk.resetPending = s.alk.resetPending ∧ (tmsComplete ch raw s).alk.link = s.alk.link := by
  unfold tmsComplete
  split_ifs <;> simp

/-- A completion of the channel that is due. -/
theorem tmsComplete_of_due (ch : Channel) (raw : Int) (s : State) (h : s.tms.due = ch) :
    tmsComplete ch raw s = tmsConvert ch raw (s.modTms fun t => { t with due := nextDue ch }) := by
  simp [tmsComplete, h]

theorem tmsComplete_of_not_due (ch : Channel) (raw : Int) (s : State) (h : s.tms.due ≠ ch) :
    tmsComplete ch raw s = s := by
  simp [tmsComplete, h]

@[simp] theorem tmsComplete_due (ch : Channel) (raw : Int) (s : State) :
    (tmsComplete ch raw s).tms.due = if s.tms.due = ch then nextDue ch else s.tms.due := by
  unfold tmsComplete
  split_ifs <;> simp

end Sys2Proof.Machine
end

