-- ==== Sys2Proof/Laws/FrameDrive.lean ====
section
/-! SUPPORT. What the element drive operations leave as they were. -/

namespace Sys2Proof.Machine

@[simp] theorem drvBegin_frame (s : State) :
    (drvBegin s).cyc = s.cyc ∧ (drvBegin s).prf = s.prf ∧ (drvBegin s).ramp = s.ramp ∧ (drvBegin s).lck = s.lck ∧
    (drvBegin s).tms = s.tms ∧ (drvBegin s).reg = s.reg ∧ (drvBegin s).bli = s.bli ∧ (drvBegin s).ptb = s.ptb ∧
    (drvBegin s).shr = s.shr ∧ (drvBegin s).alk = s.alk ∧ (drvBegin s).pending = s.pending ∧
    (drvBegin s).draws = s.draws ∧ (drvBegin s).drv.state = s.drv.state ∧
    (drvBegin s).drv.limited = s.drv.limited ∧ (drvBegin s).drv.last = s.drv.last ∧
    (drvBegin s).drv.overPresent = s.drv.overPresent ∧ (drvBegin s).drv.stuckPresent = s.drv.stuckPresent ∧
    (drvBegin s).drv.main = s.drv.main ∧ (drvBegin s).drv.permitted = s.drv.permitted ∧
    (drvBegin s).prt.faults = s.prt.faults ∧ (drvBegin s).prt.blindRunning = s.prt.blindRunning ∧
    (drvBegin s).prt.blindCount = s.prt.blindCount ∧ (drvBegin s).prt.secondMs = s.prt.secondMs := by
  simp only [drvBegin]
  repeat' split
  all_goals simp

@[simp] theorem drvSwitch_frame (s : State) :
    (drvSwitch s).cyc = s.cyc ∧ (drvSwitch s).prf = s.prf ∧ (drvSwitch s).ramp = s.ramp ∧
    (drvSwitch s).lck = s.lck ∧ (drvSwitch s).tms = s.tms ∧ (drvSwitch s).reg = s.reg ∧ (drvSwitch s).bli = s.bli ∧
    (drvSwitch s).ptb = s.ptb ∧ (drvSwitch s).shr = s.shr ∧ (drvSwitch s).alk = s.alk ∧
    (drvSwitch s).pending = s.pending ∧ (drvSwitch s).draws = s.draws ∧ (drvSwitch s).drv.state = s.drv.state ∧
    (drvSwitch s).drv.window = s.drv.window ∧ (drvSwitch s).drv.limited = s.drv.limited ∧
    (drvSwitch s).drv.last = s.drv.last ∧ (drvSwitch s).drv.overPresent = s.drv.overPresent ∧
    (drvSwitch s).drv.stuckPresent = s.drv.stuckPresent ∧ (drvSwitch s).drv.main = s.drv.main ∧
    (drvSwitch s).drv.permitted = s.drv.permitted ∧ (drvSwitch s).prt.faults = s.prt.faults ∧
    (drvSwitch s).prt.blindRunning = s.prt.blindRunning ∧ (drvSwitch s).prt.blindCount = s.prt.blindCount ∧
    (drvSwitch s).prt.secondMs = s.prt.secondMs := by
  simp only [drvSwitch]
  repeat' split
  all_goals simp

@[simp] theorem drvIndicate_frame (limited : Bool) (s : State) :
    (drvIndicate limited s).cyc = s.cyc ∧ (drvIndicate limited s).prf = s.prf ∧
    (drvIndicate limited s).ramp = s.ramp ∧ (drvIndicate limited s).lck = s.lck ∧
    (drvIndicate limited s).tms = s.tms ∧ (drvIndicate limited s).bli = s.bli ∧
    (drvIndicate limited s).ptb = s.ptb ∧ (drvIndicate limited s).shr = s.shr ∧
    (drvIndicate limited s).prt = s.prt ∧ (drvIndicate limited s).alk = s.alk ∧
    (drvIndicate limited s).pending = s.pending ∧ (drvIndicate limited s).draws = s.draws ∧
    (drvIndicate limited s).reg.demand = s.reg.demand ∧ (drvIndicate limited s).reg.integral = s.reg.integral ∧
    (drvIndicate limited s).reg.fan = s.reg.fan ∧ (drvIndicate limited s).reg.ruleLevel = s.reg.ruleLevel ∧
    (drvIndicate limited s).reg.coolTimer = s.reg.coolTimer ∧ (drvIndicate limited s).drv.state = s.drv.state ∧
    (drvIndicate limited s).drv.window = s.drv.window ∧ (drvIndicate limited s).drv.last = s.drv.last ∧
    (drvIndicate limited s).drv.overPresent = s.drv.overPresent ∧
    (drvIndicate limited s).drv.stuckPresent = s.drv.stuckPresent ∧ (drvIndicate limited s).drv.main = s.drv.main ∧
    (drvIndicate limited s).drv.permitted = s.drv.permitted ∧
    (drvIndicate limited s).drv.outputs = s.drv.outputs := by
  simp [drvIndicate]

@[simp] theorem drvOverCheck_frame (measured expected : Nat) (s : State) :
    (drvOverCheck measured expected s).prf = s.prf ∧ (drvOverCheck measured expected s).tms = s.tms ∧
    (drvOverCheck measured expected s).ptb = s.ptb ∧ (drvOverCheck measured expected s).pending = s.pending ∧
    (drvOverCheck measured expected s).draws = s.draws ∧
    (drvOverCheck measured expected s).ramp.segIndex = s.ramp.segIndex ∧
    (drvOverCheck measured expected s).ramp.sp = s.ramp.sp ∧
    (drvOverCheck measured expected s).ramp.holdTimer = s.ramp.holdTimer ∧
    (drvOverCheck measured expected s).ramp.segTimer = s.ramp.segTimer ∧
    (drvOverCheck measured expected s).ramp.slotWait = s.ramp.slotWait ∧
    (drvOverCheck measured expected s).lck.attempts = s.lck.attempts ∧
    (drvOverCheck measured expected s).lck.motor = s.lck.motor ∧
    (drvOverCheck measured expected s).lck.startUp = s.lck.startUp ∧
    (drvOverCheck measured expected s).lck.door = s.lck.door ∧
    (drvOverCheck measured expected s).lck.latch = s.lck.latch ∧
    (drvOverCheck measured expected s).lck.stage = s.lck.stage ∧
    (drvOverCheck measured expected s).lck.testPass = s.lck.testPass ∧
    (drvOverCheck measured expected s).reg.limited = s.reg.limited ∧
    (drvOverCheck measured expected s).drv.state = s.drv.state ∧
    (drvOverCheck measured expected s).drv.window = s.drv.window ∧
    (drvOverCheck measured expected s).drv.limited = s.drv.limited ∧
    (drvOverCheck measured expected s).drv.last = s.drv.last ∧
    (drvOverCheck measured expected s).drv.stuckPresent = s.drv.stuckPresent ∧
    (drvOverCheck measured expected s).bli.attempt = s.bli.attempt ∧
    (drvOverCheck measured expected s).bli.output = s.bli.output ∧
    (drvOverCheck measured expected s).bli.frame = s.bli.frame ∧
    (drvOverCheck measured expected s).bli.errors = s.bli.errors ∧
    (drvOverCheck measured expected s).bli.unreliable = s.bli.unreliable ∧
    (drvOverCheck measured expected s).bli.lineHeld = s.bli.lineHeld ∧
    (drvOverCheck measured expected s).bli.txStuck = s.bli.txStuck ∧
    (drvOverCheck measured expected s).bli.numberConflict = s.bli.numberConflict ∧
    (drvOverCheck measured expected s).bli.silent = s.bli.silent ∧
    (drvOverCheck measured expected s).bli.periodTimer = s.bli.periodTimer ∧
    (drvOverCheck measured expected s).bli.departureTimer = s.bli.departureTimer ∧
    (drvOverCheck measured expected s).shr.state = s.shr.state ∧
    (drvOverCheck measured expected s).shr.listenTimer = s.shr.listenTimer ∧
    (drvOverCheck measured expected s).shr.causes = s.shr.causes ∧
    (drvOverCheck measured expected s).shr.solo = s.shr.solo ∧
    (drvOverCheck measured expected s).shr.sums = s.shr.sums ∧
    (drvOverCheck measured expected s).prt.blindRunning = s.prt.blindRunning ∧
    (drvOverCheck measured expected s).prt.blindCount = s.prt.blindCount ∧
    (drvOverCheck measured expected s).prt.secondMs = s.prt.secondMs ∧
    (drvOverCheck measured expected s).alk.items = s.alk.items ∧
    (drvOverCheck measured expected s).alk.committed = s.alk.committed ∧
    (drvOverCheck measured expected s).alk.seconds = s.alk.seconds ∧
    (drvOverCheck measured expected s).alk.resetPending = s.alk.resetPending ∧
    (drvOverCheck measured expected s).alk.link = s.alk.link := by
  simp only [drvOverCheck]
  repeat' split
  all_goals simp

@[simp] theorem drvStuckCheck_frame (measured : Nat) (s : State) :
    (drvStuckCheck measured s).prf = s.prf ∧ (drvStuckCheck measured s).tms = s.tms ∧
    (drvStuckCheck measured s).ptb = s.ptb ∧ (drvStuckCheck measured s).pending = s.pending ∧
    (drvStuckCheck measured s).draws = s.draws ∧ (drvStuckCheck measured s).ramp.segIndex = s.ramp.segIndex ∧
    (drvStuckCheck measured s).ramp.sp = s.ramp.sp ∧ (drvStuckCheck measured s).ramp.holdTimer = s.ramp.holdTimer ∧
    (drvStuckCheck measured s).ramp.segTimer = s.ramp.segTimer ∧
    (drvStuckCheck measured s).ramp.slotWait = s.ramp.slotWait ∧
    (drvStuckCheck measured s).lck.attempts = s.lck.attempts ∧ (drvStuckCheck measured s).lck.motor = s.lck.motor ∧
    (drvStuckCheck measured s).lck.startUp = s.lck.startUp ∧ (drvStuckCheck measured s).lck.door = s.lck.door ∧
    (drvStuckCheck measured s).lck.latch = s.lck.latch ∧ (drvStuckCheck measured s).lck.stage = s.lck.stage ∧
    (drvStuckCheck measured s).lck.testPass = s.lck.testPass ∧
    (drvStuckCheck measured s).reg.limited = s.reg.limited ∧ (drvStuckCheck measured s).drv.state = s.drv.state ∧
    (drvStuckCheck measured s).drv.window = s.drv.window ∧ (drvStuckCheck measured s).drv.limited = s.drv.limited ∧
    (drvStuckCheck measured s).drv.last = s.drv.last ∧
    (drvStuckCheck measured s).drv.overPresent = s.drv.overPresent ∧
    (drvStuckCheck measured s).bli.attempt = s.bli.attempt ∧ (drvStuckCheck measured s).bli.output = s.bli.output ∧
    (drvStuckCheck measured s).bli.frame = s.bli.frame ∧ (drvStuckCheck measured s).bli.errors = s.bli.errors ∧
    (drvStuckCheck measured s).bli.unreliable = s.bli.unreliable ∧
    (drvStuckCheck measured s).bli.lineHeld = s.bli.lineHeld ∧
    (drvStuckCheck measured s).bli.txStuck = s.bli.txStuck ∧
    (drvStuckCheck measured s).bli.numberConflict = s.bli.numberConflict ∧
    (drvStuckCheck measured s).bli.silent = s.bli.silent ∧
    (drvStuckCheck measured s).bli.periodTimer = s.bli.periodTimer ∧
    (drvStuckCheck measured s).bli.departureTimer = s.bli.departureTimer ∧
    (drvStuckCheck measured s).shr.state = s.shr.state ∧
    (drvStuckCheck measured s).shr.listenTimer = s.shr.listenTimer ∧
    (drvStuckCheck measured s).shr.causes = s.shr.causes ∧ (drvStuckCheck measured s).shr.solo = s.shr.solo ∧
    (drvStuckCheck measured s).shr.sums = s.shr.sums ∧
    (drvStuckCheck measured s).prt.blindRunning = s.prt.blindRunning ∧
    (drvStuckCheck measured s).prt.blindCount = s.prt.blindCount ∧
    (drvStuckCheck measured s).prt.secondMs = s.prt.secondMs ∧ (drvStuckCheck measured s).alk.items = s.alk.items ∧
    (drvStuckCheck measured s).alk.committed = s.alk.committed ∧
    (drvStuckCheck measured s).alk.seconds = s.alk.seconds ∧
    (drvStuckCheck measured s).alk.resetPending = s.alk.resetPending ∧
    (drvStuckCheck measured s).alk.link = s.alk.link := by
  simp only [drvStuckCheck]
  repeat' split
  all_goals simp

@[simp] theorem drvLowCheck_frame (measured expected : Nat) (s : State) :
    (drvLowCheck measured expected s).prf = s.prf ∧ (drvLowCheck measured expected s).tms = s.tms ∧
    (drvLowCheck measured expected s).ptb = s.ptb ∧ (drvLowCheck measured expected s).pending = s.pending ∧
    (drvLowCheck measured expected s).draws = s.draws ∧
    (drvLowCheck measured expected s).ramp.segIndex = s.ramp.segIndex ∧
    (drvLowCheck measured expected s).ramp.sp = s.ramp.sp ∧
    (drvLowCheck measured expected s).ramp.holdTimer = s.ramp.holdTimer ∧
    (drvLowCheck measured expected s).ramp.segTimer = s.ramp.segTimer ∧
    (drvLowCheck measured expected s).ramp.slotWait = s.ramp.slotWait ∧
    (drvLowCheck measured expected s).lck.attempts = s.lck.attempts ∧
    (drvLowCheck measured expected s).lck.motor = s.lck.motor ∧
    (drvLowCheck measured expected s).lck.startUp = s.lck.startUp ∧
    (drvLowCheck measured expected s).lck.door = s.lck.door ∧
    (drvLowCheck measured expected s).lck.latch = s.lck.latch ∧
    (drvLowCheck measured expected s).lck.stage = s.lck.stage ∧
    (drvLowCheck measured expected s).lck.testPass = s.lck.testPass ∧
    (drvLowCheck measured expected s).reg.limited = s.reg.limited ∧
    (drvLowCheck measured expected s).drv.state = s.drv.state ∧
    (drvLowCheck measured expected s).drv.window = s.drv.window ∧
    (drvLowCheck measured expected s).drv.limited = s.drv.limited ∧
    (drvLowCheck measured expected s).drv.last = s.drv.last ∧
    (drvLowCheck measured expected s).drv.overPresent = s.drv.overPresent ∧
    (drvLowCheck measured expected s).drv.stuckPresent = s.drv.stuckPresent ∧
    (drvLowCheck measured expected s).bli.attempt = s.bli.attempt ∧
    (drvLowCheck measured expected s).bli.output = s.bli.output ∧
    (drvLowCheck measured expected s).bli.frame = s.bli.frame ∧
    (drvLowCheck measured expected s).bli.errors = s.bli.errors ∧
    (drvLowCheck measured expected s).bli.unreliable = s.bli.unreliable ∧
    (drvLowCheck measured expected s).bli.lineHeld = s.bli.lineHeld ∧
    (drvLowCheck measured expected s).bli.txStuck = s.bli.txStuck ∧
    (drvLowCheck measured expected s).bli.numberConflict = s.bli.numberConflict ∧
    (drvLowCheck measured expected s).bli.silent = s.bli.silent ∧
    (drvLowCheck measured expected s).bli.periodTimer = s.bli.periodTimer ∧
    (drvLowCheck measured expected s).bli.departureTimer = s.bli.departureTimer ∧
    (drvLowCheck measured expected s).shr.state = s.shr.state ∧
    (drvLowCheck measured expected s).shr.listenTimer = s.shr.listenTimer ∧
    (drvLowCheck measured expected s).shr.causes = s.shr.causes ∧
    (drvLowCheck measured expected s).shr.solo = s.shr.solo ∧
    (drvLowCheck measured expected s).shr.sums = s.shr.sums ∧
    (drvLowCheck measured expected s).prt.blindRunning = s.prt.blindRunning ∧
    (drvLowCheck measured expected s).prt.blindCount = s.prt.blindCount ∧
    (drvLowCheck measured expected s).prt.secondMs = s.prt.secondMs ∧
    (drvLowCheck measured expected s).alk.items = s.alk.items ∧
    (drvLowCheck measured expected s).alk.committed = s.alk.committed ∧
    (drvLowCheck measured expected s).alk.seconds = s.alk.seconds ∧
    (drvLowCheck measured expected s).alk.resetPending = s.alk.resetPending ∧
    (drvLowCheck measured expected s).alk.link = s.alk.link := by
  simp only [drvLowCheck]
  repeat' split
  all_goals simp

@[simp] theorem drvComplete_frame (s : State) :
    (drvComplete s).prf = s.prf ∧ (drvComplete s).tms = s.tms ∧ (drvComplete s).ptb = s.ptb ∧
    (drvComplete s).pending = s.pending ∧ (drvComplete s).draws = s.draws ∧
    (drvComplete s).ramp.segIndex = s.ramp.segIndex ∧ (drvComplete s).ramp.sp = s.ramp.sp ∧
    (drvComplete s).ramp.holdTimer = s.ramp.holdTimer ∧ (drvComplete s).ramp.segTimer = s.ramp.segTimer ∧
    (drvComplete s).ramp.slotWait = s.ramp.slotWait ∧ (drvComplete s).lck.attempts = s.lck.attempts ∧
    (drvComplete s).lck.motor = s.lck.motor ∧ (drvComplete s).lck.startUp = s.lck.startUp ∧
    (drvComplete s).lck.door = s.lck.door ∧ (drvComplete s).lck.latch = s.lck.latch ∧
    (drvComplete s).lck.stage = s.lck.stage ∧ (drvComplete s).lck.testPass = s.lck.testPass ∧
    (drvComplete s).drv.state = s.drv.state ∧ (drvComplete s).drv.window = s.drv.window ∧
    (drvComplete s).bli.attempt = s.bli.attempt ∧ (drvComplete s).bli.output = s.bli.output ∧
    (drvComplete s).bli.frame = s.bli.frame ∧ (drvComplete s).bli.errors = s.bli.errors ∧
    (drvComplete s).bli.unreliable = s.bli.unreliable ∧ (drvComplete s).bli.lineHeld = s.bli.lineHeld ∧
    (drvComplete s).bli.txStuck = s.bli.txStuck ∧ (drvComplete s).bli.numberConflict = s.bli.numberConflict ∧
    (drvComplete s).bli.silent = s.bli.silent ∧ (drvComplete s).bli.periodTimer = s.bli.periodTimer ∧
    (drvComplete s).bli.departureTimer = s.bli.departureTimer ∧ (drvComplete s).shr.state = s.shr.state ∧
    (drvComplete s).shr.listenTimer = s.shr.listenTimer ∧ (drvComplete s).shr.causes = s.shr.causes ∧
    (drvComplete s).shr.solo = s.shr.solo ∧ (drvComplete s).shr.sums = s.shr.sums ∧
    (drvComplete s).prt.blindRunning = s.prt.blindRunning ∧ (drvComplete s).prt.blindCount = s.prt.blindCount ∧
    (drvComplete s).prt.secondMs = s.prt.secondMs ∧ (drvComplete s).alk.items = s.alk.items ∧
    (drvComplete s).alk.committed = s.alk.committed ∧ (drvComplete s).alk.seconds = s.alk.seconds ∧
    (drvComplete s).alk.resetPending = s.alk.resetPending ∧ (drvComplete s).alk.link = s.alk.link := by
  simp [drvComplete]

@[simp] theorem drvBoundary_frame (sample : Nat) (s : State) :
    (drvBoundary sample s).prf = s.prf ∧ (drvBoundary sample s).tms = s.tms ∧ (drvBoundary sample s).ptb = s.ptb ∧
    (drvBoundary sample s).pending = s.pending ∧ (drvBoundary sample s).draws = s.draws ∧
    (drvBoundary sample s).ramp.segIndex = s.ramp.segIndex ∧ (drvBoundary sample s).ramp.sp = s.ramp.sp ∧
    (drvBoundary sample s).ramp.holdTimer = s.ramp.holdTimer ∧
    (drvBoundary sample s).ramp.segTimer = s.ramp.segTimer ∧
    (drvBoundary sample s).ramp.slotWait = s.ramp.slotWait ∧ (drvBoundary sample s).lck.attempts = s.lck.attempts ∧
    (drvBoundary sample s).lck.motor = s.lck.motor ∧ (drvBoundary sample s).lck.startUp = s.lck.startUp ∧
    (drvBoundary sample s).lck.door = s.lck.door ∧ (drvBoundary sample s).lck.latch = s.lck.latch ∧
    (drvBoundary sample s).lck.stage = s.lck.stage ∧ (drvBoundary sample s).lck.testPass = s.lck.testPass ∧
    (drvBoundary sample s).drv.state = s.drv.state ∧ (drvBoundary sample s).bli.attempt = s.bli.attempt ∧
    (drvBoundary sample s).bli.output = s.bli.output ∧ (drvBoundary sample s).bli.frame = s.bli.frame ∧
    (drvBoundary sample s).bli.errors = s.bli.errors ∧ (drvBoundary sample s).bli.unreliable = s.bli.unreliable ∧
    (drvBoundary sample s).bli.lineHeld = s.bli.lineHeld ∧ (drvBoundary sample s).bli.txStuck = s.bli.txStuck ∧
    (drvBoundary sample s).bli.numberConflict = s.bli.numberConflict ∧
    (drvBoundary sample s).bli.silent = s.bli.silent ∧ (drvBoundary sample s).bli.periodTimer = s.bli.periodTimer ∧
    (drvBoundary sample s).bli.departureTimer = s.bli.departureTimer ∧
    (drvBoundary sample s).shr.state = s.shr.state ∧ (drvBoundary sample s).shr.listenTimer = s.shr.listenTimer ∧
    (drvBoundary sample s).shr.causes = s.shr.causes ∧ (drvBoundary sample s).shr.solo = s.shr.solo ∧
    (drvBoundary sample s).shr.sums = s.shr.sums ∧ (drvBoundary sample s).prt.blindRunning = s.prt.blindRunning ∧
    (drvBoundary sample s).prt.blindCount = s.prt.blindCount ∧
    (drvBoundary sample s).prt.secondMs = s.prt.secondMs ∧ (drvBoundary sample s).alk.items = s.alk.items ∧
    (drvBoundary sample s).alk.committed = s.alk.committed ∧ (drvBoundary sample s).alk.seconds = s.alk.seconds ∧
    (drvBoundary sample s).alk.resetPending = s.alk.resetPending ∧ (drvBoundary sample s).alk.link = s.alk.link := by
  simp only [drvBoundary]
  repeat' split
  all_goals simp

@[simp] theorem drvMainsBack_frame (s : State) :
    (drvMainsBack s).cyc = s.cyc ∧ (drvMainsBack s).prf = s.prf ∧ (drvMainsBack s).ramp = s.ramp ∧
    (drvMainsBack s).lck = s.lck ∧ (drvMainsBack s).tms = s.tms ∧ (drvMainsBack s).reg = s.reg ∧
    (drvMainsBack s).bli = s.bli ∧ (drvMainsBack s).ptb = s.ptb ∧ (drvMainsBack s).shr = s.shr ∧
    (drvMainsBack s).pending = s.pending ∧ (drvMainsBack s).draws = s.draws ∧
    (drvMainsBack s).drv.state = s.drv.state ∧ (drvMainsBack s).drv.window = s.drv.window ∧
    (drvMainsBack s).drv.limited = s.drv.limited ∧ (drvMainsBack s).drv.last = s.drv.last ∧
    (drvMainsBack s).drv.overPresent = s.drv.overPresent ∧ (drvMainsBack s).drv.stuckPresent = s.drv.stuckPresent ∧
    (drvMainsBack s).drv.main = s.drv.main ∧ (drvMainsBack s).drv.permitted = s.drv.permitted ∧
    (drvMainsBack s).drv.outputs = s.drv.outputs ∧ (drvMainsBack s).prt.blindRunning = s.prt.blindRunning ∧
    (drvMainsBack s).prt.blindCount = s.prt.blindCount ∧ (drvMainsBack s).prt.secondMs = s.prt.secondMs ∧
    (drvMainsBack s).alk.items = s.alk.items ∧ (drvMainsBack s).alk.committed = s.alk.committed ∧
    (drvMainsBack s).alk.seconds = s.alk.seconds ∧ (drvMainsBack s).alk.resetPending = s.alk.resetPending ∧
    (drvMainsBack s).alk.link = s.alk.link := by
  simp only [drvMainsBack]
  repeat' split
  all_goals simp

@[simp] theorem drvZeroCross_frame (sample : Nat) (s : State) :
    (drvZeroCross sample s).prf = s.prf ∧ (drvZeroCross sample s).tms = s.tms ∧
    (drvZeroCross sample s).ptb = s.ptb ∧ (drvZeroCross sample s).pending = s.pending ∧
    (drvZeroCross sample s).draws = s.draws ∧ (drvZeroCross sample s).ramp.segIndex = s.ramp.segIndex ∧
    (drvZeroCross sample s).ramp.sp = s.ramp.sp ∧ (drvZeroCross sample s).ramp.holdTimer = s.ramp.holdTimer ∧
    (drvZeroCross sample s).ramp.segTimer = s.ramp.segTimer ∧
    (drvZeroCross sample s).ramp.slotWait = s.ramp.slotWait ∧
    (drvZeroCross sample s).lck.attempts = s.lck.attempts ∧ (drvZeroCross sample s).lck.motor = s.lck.motor ∧
    (drvZeroCross sample s).lck.startUp = s.lck.startUp ∧ (drvZeroCross sample s).lck.door = s.lck.door ∧
    (drvZeroCross sample s).lck.latch = s.lck.latch ∧ (drvZeroCross sample s).lck.stage = s.lck.stage ∧
    (drvZeroCross sample s).lck.testPass = s.lck.testPass ∧ (drvZeroCross sample s).bli.attempt = s.bli.attempt ∧
    (drvZeroCross sample s).bli.output = s.bli.output ∧ (drvZeroCross sample s).bli.frame = s.bli.frame ∧
    (drvZeroCross sample s).bli.errors = s.bli.errors ∧ (drvZeroCross sample s).bli.unreliable = s.bli.unreliable ∧
    (drvZeroCross sample s).bli.lineHeld = s.bli.lineHeld ∧ (drvZeroCross sample s).bli.txStuck = s.bli.txStuck ∧
    (drvZeroCross sample s).bli.numberConflict = s.bli.numberConflict ∧
    (drvZeroCross sample s).bli.silent = s.bli.silent ∧
    (drvZeroCross sample s).bli.periodTimer = s.bli.periodTimer ∧
    (drvZeroCross sample s).bli.departureTimer = s.bli.departureTimer ∧
    (drvZeroCross sample s).shr.state = s.shr.state ∧ (drvZeroCross sample s).shr.listenTimer = s.shr.listenTimer ∧
    (drvZeroCross sample s).shr.causes = s.shr.causes ∧ (drvZeroCross sample s).shr.solo = s.shr.solo ∧
    (drvZeroCross sample s).shr.sums = s.shr.sums ∧ (drvZeroCross sample s).prt.blindRunning = s.prt.blindRunning ∧
    (drvZeroCross sample s).prt.blindCount = s.prt.blindCount ∧
    (drvZeroCross sample s).prt.secondMs = s.prt.secondMs ∧ (drvZeroCross sample s).alk.items = s.alk.items ∧
    (drvZeroCross sample s).alk.committed = s.alk.committed ∧ (drvZeroCross sample s).alk.seconds = s.alk.seconds ∧
    (drvZeroCross sample s).alk.resetPending = s.alk.resetPending ∧ (drvZeroCross sample s).alk.link = s.alk.link := by
  simp only [drvZeroCross]
  repeat' split
  all_goals simp

@[simp] theorem drvSuspend_frame (s : State) :
    (drvSuspend s).cyc = s.cyc ∧ (drvSuspend s).prf = s.prf ∧ (drvSuspend s).ramp = s.ramp ∧
    (drvSuspend s).lck = s.lck ∧ (drvSuspend s).tms = s.tms ∧ (drvSuspend s).bli = s.bli ∧
    (drvSuspend s).ptb = s.ptb ∧ (drvSuspend s).shr = s.shr ∧ (drvSuspend s).alk = s.alk ∧
    (drvSuspend s).pending = s.pending ∧ (drvSuspend s).draws = s.draws ∧
    (drvSuspend s).reg.demand = s.reg.demand ∧ (drvSuspend s).reg.integral = s.reg.integral ∧
    (drvSuspend s).reg.fan = s.reg.fan ∧ (drvSuspend s).reg.ruleLevel = s.reg.ruleLevel ∧
    (drvSuspend s).reg.coolTimer = s.reg.coolTimer ∧ (drvSuspend s).drv.window = s.drv.window ∧
    (drvSuspend s).drv.last = s.drv.last ∧ (drvSuspend s).drv.overPresent = s.drv.overPresent ∧
    (drvSuspend s).drv.stuckPresent = s.drv.stuckPresent ∧ (drvSuspend s).drv.main = s.drv.main ∧
    (drvSuspend s).drv.permitted = s.drv.permitted ∧ (drvSuspend s).prt.faults = s.prt.faults ∧
    (drvSuspend s).prt.blindRunning = s.prt.blindRunning ∧ (drvSuspend s).prt.blindCount = s.prt.blindCount ∧
    (drvSuspend s).prt.secondMs = s.prt.secondMs := by
  simp only [drvSuspend]
  repeat' split
  all_goals simp

end Sys2Proof.Machine
end

