-- ==== Sys2Proof/Laws/FrameBank.lean ====
section
/-! SUPPORT. What the bank line and peer table operations leave as they were. -/

namespace Sys2Proof.Machine

@[simp] theorem bliBegin_frame (k : FrameKind) (s : State) :
    (bliBegin k s).cyc = s.cyc ∧ (bliBegin k s).prf = s.prf ∧ (bliBegin k s).ramp = s.ramp ∧
    (bliBegin k s).lck = s.lck ∧ (bliBegin k s).tms = s.tms ∧ (bliBegin k s).reg = s.reg ∧
    (bliBegin k s).drv = s.drv ∧ (bliBegin k s).ptb = s.ptb ∧ (bliBegin k s).shr = s.shr ∧
    (bliBegin k s).prt = s.prt ∧ (bliBegin k s).alk = s.alk ∧ (bliBegin k s).pending = s.pending ∧
    (bliBegin k s).bli.errors = s.bli.errors ∧ (bliBegin k s).bli.unreliable = s.bli.unreliable ∧
    (bliBegin k s).bli.lineHeld = s.bli.lineHeld ∧ (bliBegin k s).bli.txStuck = s.bli.txStuck ∧
    (bliBegin k s).bli.numberConflict = s.bli.numberConflict ∧ (bliBegin k s).bli.silent = s.bli.silent ∧
    (bliBegin k s).bli.periodTimer = s.bli.periodTimer ∧
    (bliBegin k s).bli.departureTimer = s.bli.departureTimer := by
  simp [bliBegin]

@[simp] theorem bliPeriod_frame (s : State) :
    (bliPeriod s).cyc = s.cyc ∧ (bliPeriod s).prf = s.prf ∧ (bliPeriod s).ramp = s.ramp ∧
    (bliPeriod s).lck = s.lck ∧ (bliPeriod s).tms = s.tms ∧ (bliPeriod s).reg = s.reg ∧ (bliPeriod s).drv = s.drv ∧
    (bliPeriod s).ptb = s.ptb ∧ (bliPeriod s).shr = s.shr ∧ (bliPeriod s).prt = s.prt ∧ (bliPeriod s).alk = s.alk ∧
    (bliPeriod s).pending = s.pending ∧ (bliPeriod s).bli.attempt = s.bli.attempt ∧
    (bliPeriod s).bli.output = s.bli.output ∧ (bliPeriod s).bli.frame = s.bli.frame ∧
    (bliPeriod s).bli.errors = s.bli.errors ∧ (bliPeriod s).bli.unreliable = s.bli.unreliable ∧
    (bliPeriod s).bli.lineHeld = s.bli.lineHeld ∧ (bliPeriod s).bli.txStuck = s.bli.txStuck ∧
    (bliPeriod s).bli.numberConflict = s.bli.numberConflict ∧ (bliPeriod s).bli.silent = s.bli.silent ∧
    (bliPeriod s).bli.departureTimer = s.bli.departureTimer := by
  simp [bliPeriod]

@[simp] theorem bliLost_frame (s : State) :
    (bliLost s).cyc = s.cyc ∧ (bliLost s).prf = s.prf ∧ (bliLost s).ramp = s.ramp ∧ (bliLost s).lck = s.lck ∧
    (bliLost s).tms = s.tms ∧ (bliLost s).reg = s.reg ∧ (bliLost s).drv = s.drv ∧ (bliLost s).ptb = s.ptb ∧
    (bliLost s).shr = s.shr ∧ (bliLost s).prt = s.prt ∧ (bliLost s).alk = s.alk ∧ (bliLost s).pending = s.pending ∧
    (bliLost s).bli.errors = s.bli.errors ∧ (bliLost s).bli.unreliable = s.bli.unreliable ∧
    (bliLost s).bli.lineHeld = s.bli.lineHeld ∧ (bliLost s).bli.txStuck = s.bli.txStuck ∧
    (bliLost s).bli.numberConflict = s.bli.numberConflict ∧ (bliLost s).bli.silent = s.bli.silent ∧
    (bliLost s).bli.periodTimer = s.bli.periodTimer ∧ (bliLost s).bli.departureTimer = s.bli.departureTimer := by
  simp [bliLost]

@[simp] theorem shrCompletion_frame (f : Frame) (s : State) :
    (shrCompletion f s).cyc = s.cyc ∧ (shrCompletion f s).prf = s.prf ∧ (shrCompletion f s).ramp = s.ramp ∧
    (shrCompletion f s).lck = s.lck ∧ (shrCompletion f s).tms = s.tms ∧ (shrCompletion f s).reg = s.reg ∧
    (shrCompletion f s).drv = s.drv ∧ (shrCompletion f s).bli = s.bli ∧ (shrCompletion f s).ptb = s.ptb ∧
    (shrCompletion f s).prt = s.prt ∧ (shrCompletion f s).alk = s.alk ∧ (shrCompletion f s).pending = s.pending ∧
    (shrCompletion f s).draws = s.draws ∧ (shrCompletion f s).shr.state = s.shr.state ∧
    (shrCompletion f s).shr.listenTimer = s.shr.listenTimer ∧ (shrCompletion f s).shr.causes = s.shr.causes ∧
    (shrCompletion f s).shr.solo = s.shr.solo ∧ (shrCompletion f s).shr.ho = s.shr.ho ∧
    (shrCompletion f s).shr.wo = s.shr.wo ∧ (shrCompletion f s).shr.co = s.shr.co ∧
    (shrCompletion f s).shr.sums = s.shr.sums ∧ (shrCompletion f s).shr.slot = s.shr.slot ∧
    (shrCompletion f s).shr.request = s.shr.request ∧ (shrCompletion f s).shr.valve = s.shr.valve := by
  simp only [shrCompletion]
  repeat' split
  all_goals simp

@[simp] theorem alkDeparture_frame (d : Departure) (s : State) :
    (alkDeparture d s).cyc = s.cyc ∧ (alkDeparture d s).prf = s.prf ∧ (alkDeparture d s).ramp = s.ramp ∧
    (alkDeparture d s).lck = s.lck ∧ (alkDeparture d s).tms = s.tms ∧ (alkDeparture d s).reg = s.reg ∧
    (alkDeparture d s).drv = s.drv ∧ (alkDeparture d s).bli = s.bli ∧ (alkDeparture d s).ptb = s.ptb ∧
    (alkDeparture d s).shr = s.shr ∧ (alkDeparture d s).prt = s.prt ∧ (alkDeparture d s).pending = s.pending ∧
    (alkDeparture d s).draws = s.draws ∧ (alkDeparture d s).alk.items = s.alk.items ∧
    (alkDeparture d s).alk.committed = s.alk.committed ∧ (alkDeparture d s).alk.seconds = s.alk.seconds ∧
    (alkDeparture d s).alk.link = s.alk.link := by
  simp [alkDeparture]

@[simp] theorem bliDepartSent_frame (s : State) :
    (bliDepartSent s).cyc = s.cyc ∧ (bliDepartSent s).prf = s.prf ∧ (bliDepartSent s).ramp = s.ramp ∧
    (bliDepartSent s).lck = s.lck ∧ (bliDepartSent s).tms = s.tms ∧ (bliDepartSent s).reg = s.reg ∧
    (bliDepartSent s).drv = s.drv ∧ (bliDepartSent s).ptb = s.ptb ∧ (bliDepartSent s).shr = s.shr ∧
    (bliDepartSent s).prt = s.prt ∧ (bliDepartSent s).pending = s.pending ∧ (bliDepartSent s).draws = s.draws ∧
    (bliDepartSent s).bli.attempt = s.bli.attempt ∧ (bliDepartSent s).bli.output = s.bli.output ∧
    (bliDepartSent s).bli.frame = s.bli.frame ∧ (bliDepartSent s).bli.errors = s.bli.errors ∧
    (bliDepartSent s).bli.unreliable = s.bli.unreliable ∧ (bliDepartSent s).bli.lineHeld = s.bli.lineHeld ∧
    (bliDepartSent s).bli.txStuck = s.bli.txStuck ∧ (bliDepartSent s).bli.numberConflict = s.bli.numberConflict ∧
    (bliDepartSent s).bli.silent = s.bli.silent ∧ (bliDepartSent s).bli.periodTimer = s.bli.periodTimer ∧
    (bliDepartSent s).alk.items = s.alk.items ∧ (bliDepartSent s).alk.committed = s.alk.committed ∧
    (bliDepartSent s).alk.seconds = s.alk.seconds ∧ (bliDepartSent s).alk.link = s.alk.link := by
  simp [bliDepartSent]

@[simp] theorem bliAfter_frame (s : State) :
    (bliAfter s).cyc = s.cyc ∧ (bliAfter s).prf = s.prf ∧ (bliAfter s).ramp = s.ramp ∧ (bliAfter s).lck = s.lck ∧
    (bliAfter s).tms = s.tms ∧ (bliAfter s).reg = s.reg ∧ (bliAfter s).drv = s.drv ∧ (bliAfter s).ptb = s.ptb ∧
    (bliAfter s).shr = s.shr ∧ (bliAfter s).prt = s.prt ∧ (bliAfter s).alk = s.alk ∧
    (bliAfter s).pending = s.pending ∧ (bliAfter s).draws = s.draws ∧ (bliAfter s).bli.attempt = s.bli.attempt ∧
    (bliAfter s).bli.output = s.bli.output ∧ (bliAfter s).bli.frame = s.bli.frame ∧
    (bliAfter s).bli.errors = s.bli.errors ∧ (bliAfter s).bli.unreliable = s.bli.unreliable ∧
    (bliAfter s).bli.lineHeld = s.bli.lineHeld ∧ (bliAfter s).bli.txStuck = s.bli.txStuck ∧
    (bliAfter s).bli.numberConflict = s.bli.numberConflict ∧ (bliAfter s).bli.silent = s.bli.silent ∧
    (bliAfter s).bli.periodTimer = s.bli.periodTimer ∧ (bliAfter s).bli.departureTimer = s.bli.departureTimer := by
  simp [bliAfter]

@[simp] theorem bliSucceed_frame (a : Attempt) (s : State) :
    (bliSucceed a s).cyc = s.cyc ∧ (bliSucceed a s).prf = s.prf ∧ (bliSucceed a s).ramp = s.ramp ∧
    (bliSucceed a s).lck = s.lck ∧ (bliSucceed a s).tms = s.tms ∧ (bliSucceed a s).reg = s.reg ∧
    (bliSucceed a s).drv = s.drv ∧ (bliSucceed a s).ptb = s.ptb ∧ (bliSucceed a s).prt = s.prt ∧
    (bliSucceed a s).pending = s.pending ∧ (bliSucceed a s).bli.errors = s.bli.errors ∧
    (bliSucceed a s).bli.unreliable = s.bli.unreliable ∧ (bliSucceed a s).bli.lineHeld = s.bli.lineHeld ∧
    (bliSucceed a s).bli.txStuck = s.bli.txStuck ∧ (bliSucceed a s).bli.numberConflict = s.bli.numberConflict ∧
    (bliSucceed a s).bli.silent = s.bli.silent ∧ (bliSucceed a s).shr.state = s.shr.state ∧
    (bliSucceed a s).shr.listenTimer = s.shr.listenTimer ∧ (bliSucceed a s).shr.causes = s.shr.causes ∧
    (bliSucceed a s).shr.solo = s.shr.solo ∧ (bliSucceed a s).shr.ho = s.shr.ho ∧
    (bliSucceed a s).shr.wo = s.shr.wo ∧ (bliSucceed a s).shr.co = s.shr.co ∧
    (bliSucceed a s).shr.sums = s.shr.sums ∧ (bliSucceed a s).shr.slot = s.shr.slot ∧
    (bliSucceed a s).shr.request = s.shr.request ∧ (bliSucceed a s).shr.valve = s.shr.valve ∧
    (bliSucceed a s).alk.items = s.alk.items ∧ (bliSucceed a s).alk.committed = s.alk.committed ∧
    (bliSucceed a s).alk.seconds = s.alk.seconds ∧ (bliSucceed a s).alk.link = s.alk.link := by
  simp only [bliSucceed]
  repeat' split
  all_goals simp

@[simp] theorem bliDepart_frame (s : State) :
    (bliDepart s).cyc = s.cyc ∧ (bliDepart s).prf = s.prf ∧ (bliDepart s).ramp = s.ramp ∧
    (bliDepart s).lck = s.lck ∧ (bliDepart s).tms = s.tms ∧ (bliDepart s).reg = s.reg ∧ (bliDepart s).drv = s.drv ∧
    (bliDepart s).ptb = s.ptb ∧ (bliDepart s).shr = s.shr ∧ (bliDepart s).prt = s.prt ∧
    (bliDepart s).pending = s.pending ∧ (bliDepart s).draws = s.draws ∧ (bliDepart s).bli.attempt = s.bli.attempt ∧
    (bliDepart s).bli.output = s.bli.output ∧ (bliDepart s).bli.frame = s.bli.frame ∧
    (bliDepart s).bli.errors = s.bli.errors ∧ (bliDepart s).bli.unreliable = s.bli.unreliable ∧
    (bliDepart s).bli.lineHeld = s.bli.lineHeld ∧ (bliDepart s).bli.txStuck = s.bli.txStuck ∧
    (bliDepart s).bli.numberConflict = s.bli.numberConflict ∧ (bliDepart s).bli.silent = s.bli.silent ∧
    (bliDepart s).bli.periodTimer = s.bli.periodTimer ∧ (bliDepart s).alk.items = s.alk.items ∧
    (bliDepart s).alk.committed = s.alk.committed ∧ (bliDepart s).alk.seconds = s.alk.seconds ∧
    (bliDepart s).alk.link = s.alk.link := by
  simp only [bliDepart]
  repeat' split
  all_goals simp

@[simp] theorem lineRecord_frame (cond : Nat) (standing : Bool) (s : State) :
    (lineRecord cond standing s).cyc = s.cyc ∧ (lineRecord cond standing s).prf = s.prf ∧
    (lineRecord cond standing s).ramp = s.ramp ∧ (lineRecord cond standing s).lck = s.lck ∧
    (lineRecord cond standing s).tms = s.tms ∧ (lineRecord cond standing s).reg = s.reg ∧
    (lineRecord cond standing s).drv = s.drv ∧ (lineRecord cond standing s).bli = s.bli ∧
    (lineRecord cond standing s).ptb = s.ptb ∧ (lineRecord cond standing s).shr = s.shr ∧
    (lineRecord cond standing s).prt = s.prt ∧ (lineRecord cond standing s).pending = s.pending ∧
    (lineRecord cond standing s).draws = s.draws ∧ (lineRecord cond standing s).alk.items = s.alk.items ∧
    (lineRecord cond standing s).alk.committed = s.alk.committed ∧
    (lineRecord cond standing s).alk.seconds = s.alk.seconds ∧
    (lineRecord cond standing s).alk.resetPending = s.alk.resetPending ∧
    (lineRecord cond standing s).alk.link = s.alk.link := by
  simp only [lineRecord]
  repeat' split
  all_goals simp

@[simp] theorem bliReliability_frame (s : State) :
    (bliReliability s).prf = s.prf ∧ (bliReliability s).tms = s.tms ∧ (bliReliability s).ptb = s.ptb ∧
    (bliReliability s).pending = s.pending ∧ (bliReliability s).draws = s.draws ∧
    (bliReliability s).ramp.segIndex = s.ramp.segIndex ∧ (bliReliability s).ramp.sp = s.ramp.sp ∧
    (bliReliability s).ramp.slotWait = s.ramp.slotWait ∧ (bliReliability s).lck.attempts = s.lck.attempts ∧
    (bliReliability s).lck.motor = s.lck.motor ∧ (bliReliability s).lck.startUp = s.lck.startUp ∧
    (bliReliability s).lck.door = s.lck.door ∧ (bliReliability s).lck.latch = s.lck.latch ∧
    (bliReliability s).lck.stage = s.lck.stage ∧ (bliReliability s).lck.testPass = s.lck.testPass ∧
    (bliReliability s).reg.limited = s.reg.limited ∧ (bliReliability s).drv.state = s.drv.state ∧
    (bliReliability s).drv.window = s.drv.window ∧ (bliReliability s).drv.limited = s.drv.limited ∧
    (bliReliability s).drv.last = s.drv.last ∧ (bliReliability s).drv.overPresent = s.drv.overPresent ∧
    (bliReliability s).drv.stuckPresent = s.drv.stuckPresent ∧ (bliReliability s).bli.attempt = s.bli.attempt ∧
    (bliReliability s).bli.output = s.bli.output ∧ (bliReliability s).bli.frame = s.bli.frame ∧
    (bliReliability s).bli.errors = s.bli.errors ∧ (bliReliability s).bli.lineHeld = s.bli.lineHeld ∧
    (bliReliability s).bli.txStuck = s.bli.txStuck ∧ (bliReliability s).bli.numberConflict = s.bli.numberConflict ∧
    (bliReliability s).bli.silent = s.bli.silent ∧ (bliReliability s).bli.periodTimer = s.bli.periodTimer ∧
    (bliReliability s).bli.departureTimer = s.bli.departureTimer ∧ (bliReliability s).shr.solo = s.shr.solo ∧
    (bliReliability s).shr.sums = s.shr.sums ∧ (bliReliability s).prt.blindRunning = s.prt.blindRunning ∧
    (bliReliability s).prt.blindCount = s.prt.blindCount ∧ (bliReliability s).prt.secondMs = s.prt.secondMs ∧
    (bliReliability s).alk.items = s.alk.items ∧ (bliReliability s).alk.committed = s.alk.committed ∧
    (bliReliability s).alk.seconds = s.alk.seconds ∧ (bliReliability s).alk.resetPending = s.alk.resetPending ∧
    (bliReliability s).alk.link = s.alk.link := by
  simp only [bliReliability]
  repeat' split
  all_goals simp

@[simp] theorem bliBad_frame (s : State) :
    (bliBad s).prf = s.prf ∧ (bliBad s).tms = s.tms ∧ (bliBad s).ptb = s.ptb ∧ (bliBad s).pending = s.pending ∧
    (bliBad s).draws = s.draws ∧ (bliBad s).ramp.segIndex = s.ramp.segIndex ∧ (bliBad s).ramp.sp = s.ramp.sp ∧
    (bliBad s).ramp.slotWait = s.ramp.slotWait ∧ (bliBad s).lck.attempts = s.lck.attempts ∧
    (bliBad s).lck.motor = s.lck.motor ∧ (bliBad s).lck.startUp = s.lck.startUp ∧ (bliBad s).lck.door = s.lck.door ∧
    (bliBad s).lck.latch = s.lck.latch ∧ (bliBad s).lck.stage = s.lck.stage ∧
    (bliBad s).lck.testPass = s.lck.testPass ∧ (bliBad s).reg.limited = s.reg.limited ∧
    (bliBad s).drv.state = s.drv.state ∧ (bliBad s).drv.window = s.drv.window ∧
    (bliBad s).drv.limited = s.drv.limited ∧ (bliBad s).drv.last = s.drv.last ∧
    (bliBad s).drv.overPresent = s.drv.overPresent ∧ (bliBad s).drv.stuckPresent = s.drv.stuckPresent ∧
    (bliBad s).bli.attempt = s.bli.attempt ∧ (bliBad s).bli.output = s.bli.output ∧
    (bliBad s).bli.frame = s.bli.frame ∧ (bliBad s).bli.lineHeld = s.bli.lineHeld ∧
    (bliBad s).bli.txStuck = s.bli.txStuck ∧ (bliBad s).bli.numberConflict = s.bli.numberConflict ∧
    (bliBad s).bli.silent = s.bli.silent ∧ (bliBad s).bli.periodTimer = s.bli.periodTimer ∧
    (bliBad s).bli.departureTimer = s.bli.departureTimer ∧ (bliBad s).shr.solo = s.shr.solo ∧
    (bliBad s).shr.sums = s.shr.sums ∧ (bliBad s).prt.blindRunning = s.prt.blindRunning ∧
    (bliBad s).prt.blindCount = s.prt.blindCount ∧ (bliBad s).prt.secondMs = s.prt.secondMs ∧
    (bliBad s).alk.items = s.alk.items ∧ (bliBad s).alk.committed = s.alk.committed ∧
    (bliBad s).alk.seconds = s.alk.seconds ∧ (bliBad s).alk.resetPending = s.alk.resetPending ∧
    (bliBad s).alk.link = s.alk.link := by
  simp [bliBad]

@[simp] theorem bliHeard_frame (s : State) :
    (bliHeard s).cyc = s.cyc ∧ (bliHeard s).prf = s.prf ∧ (bliHeard s).ramp = s.ramp ∧ (bliHeard s).lck = s.lck ∧
    (bliHeard s).tms = s.tms ∧ (bliHeard s).reg = s.reg ∧ (bliHeard s).drv = s.drv ∧ (bliHeard s).ptb = s.ptb ∧
    (bliHeard s).prt = s.prt ∧ (bliHeard s).pending = s.pending ∧ (bliHeard s).draws = s.draws ∧
    (bliHeard s).bli.attempt = s.bli.attempt ∧ (bliHeard s).bli.output = s.bli.output ∧
    (bliHeard s).bli.frame = s.bli.frame ∧ (bliHeard s).bli.errors = s.bli.errors ∧
    (bliHeard s).bli.unreliable = s.bli.unreliable ∧ (bliHeard s).bli.lineHeld = s.bli.lineHeld ∧
    (bliHeard s).bli.txStuck = s.bli.txStuck ∧ (bliHeard s).bli.numberConflict = s.bli.numberConflict ∧
    (bliHeard s).bli.periodTimer = s.bli.periodTimer ∧ (bliHeard s).bli.departureTimer = s.bli.departureTimer ∧
    (bliHeard s).shr.solo = s.shr.solo ∧ (bliHeard s).shr.ho = s.shr.ho ∧ (bliHeard s).shr.wo = s.shr.wo ∧
    (bliHeard s).shr.co = s.shr.co ∧ (bliHeard s).shr.claim = s.shr.claim ∧
    (bliHeard s).shr.claimTimer = s.shr.claimTimer ∧ (bliHeard s).shr.sums = s.shr.sums ∧
    (bliHeard s).shr.slot = s.shr.slot ∧ (bliHeard s).shr.request = s.shr.request ∧
    (bliHeard s).shr.valve = s.shr.valve ∧ (bliHeard s).alk.items = s.alk.items ∧
    (bliHeard s).alk.committed = s.alk.committed ∧ (bliHeard s).alk.seconds = s.alk.seconds ∧
    (bliHeard s).alk.resetPending = s.alk.resetPending ∧ (bliHeard s).alk.link = s.alk.link := by
  simp only [bliHeard]
  repeat' split
  all_goals simp

@[simp] theorem bliGood_frame (s : State) :
    (bliGood s).prf = s.prf ∧ (bliGood s).tms = s.tms ∧ (bliGood s).ptb = s.ptb ∧ (bliGood s).pending = s.pending ∧
    (bliGood s).draws = s.draws ∧ (bliGood s).ramp.segIndex = s.ramp.segIndex ∧ (bliGood s).ramp.sp = s.ramp.sp ∧
    (bliGood s).ramp.slotWait = s.ramp.slotWait ∧ (bliGood s).lck.attempts = s.lck.attempts ∧
    (bliGood s).lck.motor = s.lck.motor ∧ (bliGood s).lck.startUp = s.lck.startUp ∧
    (bliGood s).lck.door = s.lck.door ∧ (bliGood s).lck.latch = s.lck.latch ∧ (bliGood s).lck.stage = s.lck.stage ∧
    (bliGood s).lck.testPass = s.lck.testPass ∧ (bliGood s).reg.limited = s.reg.limited ∧
    (bliGood s).drv.state = s.drv.state ∧ (bliGood s).drv.window = s.drv.window ∧
    (bliGood s).drv.limited = s.drv.limited ∧ (bliGood s).drv.last = s.drv.last ∧
    (bliGood s).drv.overPresent = s.drv.overPresent ∧ (bliGood s).drv.stuckPresent = s.drv.stuckPresent ∧
    (bliGood s).bli.attempt = s.bli.attempt ∧ (bliGood s).bli.output = s.bli.output ∧
    (bliGood s).bli.frame = s.bli.frame ∧ (bliGood s).bli.lineHeld = s.bli.lineHeld ∧
    (bliGood s).bli.txStuck = s.bli.txStuck ∧ (bliGood s).bli.numberConflict = s.bli.numberConflict ∧
    (bliGood s).bli.periodTimer = s.bli.periodTimer ∧ (bliGood s).bli.departureTimer = s.bli.departureTimer ∧
    (bliGood s).shr.solo = s.shr.solo ∧ (bliGood s).shr.sums = s.shr.sums ∧
    (bliGood s).prt.blindRunning = s.prt.blindRunning ∧ (bliGood s).prt.blindCount = s.prt.blindCount ∧
    (bliGood s).prt.secondMs = s.prt.secondMs ∧ (bliGood s).alk.items = s.alk.items ∧
    (bliGood s).alk.committed = s.alk.committed ∧ (bliGood s).alk.seconds = s.alk.seconds ∧
    (bliGood s).alk.resetPending = s.alk.resetPending ∧ (bliGood s).alk.link = s.alk.link := by
  simp [bliGood]

@[simp] theorem bliConflict_frame (s : State) :
    (bliConflict s).prf = s.prf ∧ (bliConflict s).tms = s.tms ∧ (bliConflict s).ptb = s.ptb ∧
    (bliConflict s).pending = s.pending ∧ (bliConflict s).draws = s.draws ∧
    (bliConflict s).ramp.segIndex = s.ramp.segIndex ∧ (bliConflict s).ramp.sp = s.ramp.sp ∧
    (bliConflict s).ramp.slotWait = s.ramp.slotWait ∧ (bliConflict s).lck.attempts = s.lck.attempts ∧
    (bliConflict s).lck.motor = s.lck.motor ∧ (bliConflict s).lck.startUp = s.lck.startUp ∧
    (bliConflict s).lck.door = s.lck.door ∧ (bliConflict s).lck.latch = s.lck.latch ∧
    (bliConflict s).lck.stage = s.lck.stage ∧ (bliConflict s).lck.testPass = s.lck.testPass ∧
    (bliConflict s).reg.limited = s.reg.limited ∧ (bliConflict s).drv.state = s.drv.state ∧
    (bliConflict s).drv.window = s.drv.window ∧ (bliConflict s).drv.limited = s.drv.limited ∧
    (bliConflict s).drv.last = s.drv.last ∧ (bliConflict s).drv.overPresent = s.drv.overPresent ∧
    (bliConflict s).drv.stuckPresent = s.drv.stuckPresent ∧ (bliConflict s).bli.attempt = s.bli.attempt ∧
    (bliConflict s).bli.output = s.bli.output ∧ (bliConflict s).bli.frame = s.bli.frame ∧
    (bliConflict s).bli.errors = s.bli.errors ∧ (bliConflict s).bli.unreliable = s.bli.unreliable ∧
    (bliConflict s).bli.lineHeld = s.bli.lineHeld ∧ (bliConflict s).bli.txStuck = s.bli.txStuck ∧
    (bliConflict s).bli.silent = s.bli.silent ∧ (bliConflict s).bli.periodTimer = s.bli.periodTimer ∧
    (bliConflict s).bli.departureTimer = s.bli.departureTimer ∧ (bliConflict s).shr.solo = s.shr.solo ∧
    (bliConflict s).shr.sums = s.shr.sums ∧ (bliConflict s).prt.blindRunning = s.prt.blindRunning ∧
    (bliConflict s).prt.blindCount = s.prt.blindCount ∧ (bliConflict s).prt.secondMs = s.prt.secondMs ∧
    (bliConflict s).alk.items = s.alk.items ∧ (bliConflict s).alk.committed = s.alk.committed ∧
    (bliConflict s).alk.seconds = s.alk.seconds ∧ (bliConflict s).alk.resetPending = s.alk.resetPending ∧
    (bliConflict s).alk.link = s.alk.link := by
  simp only [bliConflict]
  repeat' split
  all_goals simp

@[simp] theorem bliDepartFails_frame (s : State) :
    (bliDepartFails s).cyc = s.cyc ∧ (bliDepartFails s).prf = s.prf ∧ (bliDepartFails s).ramp = s.ramp ∧
    (bliDepartFails s).lck = s.lck ∧ (bliDepartFails s).tms = s.tms ∧ (bliDepartFails s).reg = s.reg ∧
    (bliDepartFails s).drv = s.drv ∧ (bliDepartFails s).ptb = s.ptb ∧ (bliDepartFails s).shr = s.shr ∧
    (bliDepartFails s).prt = s.prt ∧ (bliDepartFails s).pending = s.pending ∧ (bliDepartFails s).draws = s.draws ∧
    (bliDepartFails s).bli.attempt = s.bli.attempt ∧ (bliDepartFails s).bli.output = s.bli.output ∧
    (bliDepartFails s).bli.frame = s.bli.frame ∧ (bliDepartFails s).bli.errors = s.bli.errors ∧
    (bliDepartFails s).bli.unreliable = s.bli.unreliable ∧ (bliDepartFails s).bli.lineHeld = s.bli.lineHeld ∧
    (bliDepartFails s).bli.txStuck = s.bli.txStuck ∧ (bliDepartFails s).bli.numberConflict = s.bli.numberConflict ∧
    (bliDepartFails s).bli.silent = s.bli.silent ∧ (bliDepartFails s).bli.periodTimer = s.bli.periodTimer ∧
    (bliDepartFails s).alk.items = s.alk.items ∧ (bliDepartFails s).alk.committed = s.alk.committed ∧
    (bliDepartFails s).alk.seconds = s.alk.seconds ∧ (bliDepartFails s).alk.link = s.alk.link := by
  simp [bliDepartFails]

@[simp] theorem bliStuck_frame (s : State) :
    (bliStuck s).prf = s.prf ∧ (bliStuck s).tms = s.tms ∧ (bliStuck s).ptb = s.ptb ∧
    (bliStuck s).pending = s.pending ∧ (bliStuck s).draws = s.draws ∧
    (bliStuck s).ramp.segIndex = s.ramp.segIndex ∧ (bliStuck s).ramp.sp = s.ramp.sp ∧
    (bliStuck s).ramp.slotWait = s.ramp.slotWait ∧ (bliStuck s).lck.attempts = s.lck.attempts ∧
    (bliStuck s).lck.motor = s.lck.motor ∧ (bliStuck s).lck.startUp = s.lck.startUp ∧
    (bliStuck s).lck.door = s.lck.door ∧ (bliStuck s).lck.latch = s.lck.latch ∧
    (bliStuck s).lck.stage = s.lck.stage ∧ (bliStuck s).lck.testPass = s.lck.testPass ∧
    (bliStuck s).reg.limited = s.reg.limited ∧ (bliStuck s).drv.state = s.drv.state ∧
    (bliStuck s).drv.window = s.drv.window ∧ (bliStuck s).drv.limited = s.drv.limited ∧
    (bliStuck s).drv.last = s.drv.last ∧ (bliStuck s).drv.overPresent = s.drv.overPresent ∧
    (bliStuck s).drv.stuckPresent = s.drv.stuckPresent ∧ (bliStuck s).bli.errors = s.bli.errors ∧
    (bliStuck s).bli.unreliable = s.bli.unreliable ∧ (bliStuck s).bli.lineHeld = s.bli.lineHeld ∧
    (bliStuck s).bli.numberConflict = s.bli.numberConflict ∧ (bliStuck s).bli.silent = s.bli.silent ∧
    (bliStuck s).shr.solo = s.shr.solo ∧ (bliStuck s).shr.sums = s.shr.sums ∧
    (bliStuck s).prt.blindRunning = s.prt.blindRunning ∧ (bliStuck s).prt.blindCount = s.prt.blindCount ∧
    (bliStuck s).prt.secondMs = s.prt.secondMs ∧ (bliStuck s).alk.items = s.alk.items ∧
    (bliStuck s).alk.committed = s.alk.committed ∧ (bliStuck s).alk.seconds = s.alk.seconds ∧
    (bliStuck s).alk.link = s.alk.link := by
  simp [bliStuck]

@[simp] theorem bliHeld_frame (s : State) :
    (bliHeld s).prf = s.prf ∧ (bliHeld s).tms = s.tms ∧ (bliHeld s).ptb = s.ptb ∧ (bliHeld s).pending = s.pending ∧
    (bliHeld s).draws = s.draws ∧ (bliHeld s).ramp.segIndex = s.ramp.segIndex ∧ (bliHeld s).ramp.sp = s.ramp.sp ∧
    (bliHeld s).ramp.slotWait = s.ramp.slotWait ∧ (bliHeld s).lck.attempts = s.lck.attempts ∧
    (bliHeld s).lck.motor = s.lck.motor ∧ (bliHeld s).lck.startUp = s.lck.startUp ∧
    (bliHeld s).lck.door = s.lck.door ∧ (bliHeld s).lck.latch = s.lck.latch ∧ (bliHeld s).lck.stage = s.lck.stage ∧
    (bliHeld s).lck.testPass = s.lck.testPass ∧ (bliHeld s).reg.limited = s.reg.limited ∧
    (bliHeld s).drv.state = s.drv.state ∧ (bliHeld s).drv.window = s.drv.window ∧
    (bliHeld s).drv.limited = s.drv.limited ∧ (bliHeld s).drv.last = s.drv.last ∧
    (bliHeld s).drv.overPresent = s.drv.overPresent ∧ (bliHeld s).drv.stuckPresent = s.drv.stuckPresent ∧
    (bliHeld s).bli.attempt = s.bli.attempt ∧ (bliHeld s).bli.output = s.bli.output ∧
    (bliHeld s).bli.frame = s.bli.frame ∧ (bliHeld s).bli.errors = s.bli.errors ∧
    (bliHeld s).bli.unreliable = s.bli.unreliable ∧ (bliHeld s).bli.txStuck = s.bli.txStuck ∧
    (bliHeld s).bli.numberConflict = s.bli.numberConflict ∧ (bliHeld s).bli.silent = s.bli.silent ∧
    (bliHeld s).bli.periodTimer = s.bli.periodTimer ∧ (bliHeld s).bli.departureTimer = s.bli.departureTimer ∧
    (bliHeld s).shr.solo = s.shr.solo ∧ (bliHeld s).shr.sums = s.shr.sums ∧
    (bliHeld s).prt.blindRunning = s.prt.blindRunning ∧ (bliHeld s).prt.blindCount = s.prt.blindCount ∧
    (bliHeld s).prt.secondMs = s.prt.secondMs ∧ (bliHeld s).alk.items = s.alk.items ∧
    (bliHeld s).alk.committed = s.alk.committed ∧ (bliHeld s).alk.seconds = s.alk.seconds ∧
    (bliHeld s).alk.resetPending = s.alk.resetPending ∧ (bliHeld s).alk.link = s.alk.link := by
  simp only [bliHeld]
  repeat' split
  all_goals simp

@[simp] theorem bliIdle_frame (s : State) :
    (bliIdle s).cyc = s.cyc ∧ (bliIdle s).prf = s.prf ∧ (bliIdle s).ramp = s.ramp ∧ (bliIdle s).lck = s.lck ∧
    (bliIdle s).tms = s.tms ∧ (bliIdle s).reg = s.reg ∧ (bliIdle s).drv = s.drv ∧ (bliIdle s).ptb = s.ptb ∧
    (bliIdle s).prt = s.prt ∧ (bliIdle s).pending = s.pending ∧ (bliIdle s).draws = s.draws ∧
    (bliIdle s).bli.attempt = s.bli.attempt ∧ (bliIdle s).bli.output = s.bli.output ∧
    (bliIdle s).bli.errors = s.bli.errors ∧ (bliIdle s).bli.unreliable = s.bli.unreliable ∧
    (bliIdle s).bli.txStuck = s.bli.txStuck ∧ (bliIdle s).bli.numberConflict = s.bli.numberConflict ∧
    (bliIdle s).bli.silent = s.bli.silent ∧ (bliIdle s).bli.periodTimer = s.bli.periodTimer ∧
    (bliIdle s).bli.departureTimer = s.bli.departureTimer ∧ (bliIdle s).shr.solo = s.shr.solo ∧
    (bliIdle s).shr.ho = s.shr.ho ∧ (bliIdle s).shr.wo = s.shr.wo ∧ (bliIdle s).shr.co = s.shr.co ∧
    (bliIdle s).shr.claim = s.shr.claim ∧ (bliIdle s).shr.claimTimer = s.shr.claimTimer ∧
    (bliIdle s).shr.sums = s.shr.sums ∧ (bliIdle s).shr.slot = s.shr.slot ∧
    (bliIdle s).shr.request = s.shr.request ∧ (bliIdle s).shr.valve = s.shr.valve ∧
    (bliIdle s).alk.items = s.alk.items ∧ (bliIdle s).alk.committed = s.alk.committed ∧
    (bliIdle s).alk.seconds = s.alk.seconds ∧ (bliIdle s).alk.resetPending = s.alk.resetPending ∧
    (bliIdle s).alk.link = s.alk.link := by
  simp only [bliIdle]
  repeat' split
  all_goals simp

@[simp] theorem ptbSet_frame (l : List Peer) (s : State) :
    (ptbSet l s).cyc = s.cyc ∧ (ptbSet l s).prf = s.prf ∧ (ptbSet l s).ramp = s.ramp ∧ (ptbSet l s).lck = s.lck ∧
    (ptbSet l s).tms = s.tms ∧ (ptbSet l s).reg = s.reg ∧ (ptbSet l s).drv = s.drv ∧ (ptbSet l s).bli = s.bli ∧
    (ptbSet l s).shr = s.shr ∧ (ptbSet l s).prt = s.prt ∧ (ptbSet l s).alk = s.alk ∧
    (ptbSet l s).pending = s.pending ∧ (ptbSet l s).draws = s.draws ∧
    (ptbSet l s).ptb.overflow = s.ptb.overflow := by
  simp [ptbSet]

@[simp] theorem ptbSignal_frame (s : State) :
    (ptbSignal s).prf = s.prf ∧ (ptbSignal s).ramp = s.ramp ∧ (ptbSignal s).lck = s.lck ∧
    (ptbSignal s).tms = s.tms ∧ (ptbSignal s).reg = s.reg ∧ (ptbSignal s).drv = s.drv ∧ (ptbSignal s).ptb = s.ptb ∧
    (ptbSignal s).prt = s.prt ∧ (ptbSignal s).alk = s.alk ∧ (ptbSignal s).pending = s.pending ∧
    (ptbSignal s).draws = s.draws ∧ (ptbSignal s).cyc.phase = s.cyc.phase ∧
    (ptbSignal s).cyc.abortPending = s.cyc.abortPending ∧ (ptbSignal s).bli.attempt = s.bli.attempt ∧
    (ptbSignal s).bli.output = s.bli.output ∧ (ptbSignal s).bli.frame = s.bli.frame ∧
    (ptbSignal s).bli.errors = s.bli.errors ∧ (ptbSignal s).bli.unreliable = s.bli.unreliable ∧
    (ptbSignal s).bli.lineHeld = s.bli.lineHeld ∧ (ptbSignal s).bli.txStuck = s.bli.txStuck ∧
    (ptbSignal s).bli.numberConflict = s.bli.numberConflict ∧ (ptbSignal s).bli.silent = s.bli.silent ∧
    (ptbSignal s).bli.periodTimer = s.bli.periodTimer ∧ (ptbSignal s).bli.departureTimer = s.bli.departureTimer ∧
    (ptbSignal s).shr.state = s.shr.state ∧ (ptbSignal s).shr.listenTimer = s.shr.listenTimer ∧
    (ptbSignal s).shr.causes = s.shr.causes ∧ (ptbSignal s).shr.solo = s.shr.solo ∧
    (ptbSignal s).shr.wo = s.shr.wo ∧ (ptbSignal s).shr.slot = s.shr.slot ∧
    (ptbSignal s).shr.request = s.shr.request ∧ (ptbSignal s).shr.valve = s.shr.valve := by
  simp [ptbSignal]

@[simp] theorem ptbOverflowGone_frame (s : State) :
    (ptbOverflowGone s).cyc = s.cyc ∧ (ptbOverflowGone s).prf = s.prf ∧ (ptbOverflowGone s).ramp = s.ramp ∧
    (ptbOverflowGone s).lck = s.lck ∧ (ptbOverflowGone s).tms = s.tms ∧ (ptbOverflowGone s).reg = s.reg ∧
    (ptbOverflowGone s).drv = s.drv ∧ (ptbOverflowGone s).prt = s.prt ∧ (ptbOverflowGone s).pending = s.pending ∧
    (ptbOverflowGone s).draws = s.draws ∧ (ptbOverflowGone s).bli.attempt = s.bli.attempt ∧
    (ptbOverflowGone s).bli.output = s.bli.output ∧ (ptbOverflowGone s).bli.frame = s.bli.frame ∧
    (ptbOverflowGone s).bli.errors = s.bli.errors ∧ (ptbOverflowGone s).bli.unreliable = s.bli.unreliable ∧
    (ptbOverflowGone s).bli.lineHeld = s.bli.lineHeld ∧ (ptbOverflowGone s).bli.txStuck = s.bli.txStuck ∧
    (ptbOverflowGone s).bli.numberConflict = s.bli.numberConflict ∧ (ptbOverflowGone s).bli.silent = s.bli.silent ∧
    (ptbOverflowGone s).bli.periodTimer = s.bli.periodTimer ∧
    (ptbOverflowGone s).bli.departureTimer = s.bli.departureTimer ∧
    (ptbOverflowGone s).ptb.records = s.ptb.records ∧ (ptbOverflowGone s).shr.solo = s.shr.solo ∧
    (ptbOverflowGone s).shr.ho = s.shr.ho ∧ (ptbOverflowGone s).shr.wo = s.shr.wo ∧
    (ptbOverflowGone s).shr.co = s.shr.co ∧ (ptbOverflowGone s).shr.claim = s.shr.claim ∧
    (ptbOverflowGone s).shr.claimTimer = s.shr.claimTimer ∧ (ptbOverflowGone s).shr.sums = s.shr.sums ∧
    (ptbOverflowGone s).shr.slot = s.shr.slot ∧ (ptbOverflowGone s).shr.request = s.shr.request ∧
    (ptbOverflowGone s).shr.valve = s.shr.valve ∧ (ptbOverflowGone s).alk.items = s.alk.items ∧
    (ptbOverflowGone s).alk.committed = s.alk.committed ∧ (ptbOverflowGone s).alk.seconds = s.alk.seconds ∧
    (ptbOverflowGone s).alk.resetPending = s.alk.resetPending ∧ (ptbOverflowGone s).alk.link = s.alk.link := by
  simp only [ptbOverflowGone]
  repeat' split
  all_goals simp

@[simp] theorem ptbRemove_frame (cause station : Nat) (s : State) :
    (ptbRemove cause station s).prf = s.prf ∧ (ptbRemove cause station s).ramp = s.ramp ∧
    (ptbRemove cause station s).lck = s.lck ∧ (ptbRemove cause station s).tms = s.tms ∧
    (ptbRemove cause station s).reg = s.reg ∧ (ptbRemove cause station s).drv = s.drv ∧
    (ptbRemove cause station s).prt = s.prt ∧ (ptbRemove cause station s).pending = s.pending ∧
    (ptbRemove cause station s).draws = s.draws ∧ (ptbRemove cause station s).cyc.phase = s.cyc.phase ∧
    (ptbRemove cause station s).cyc.abortPending = s.cyc.abortPending ∧
    (ptbRemove cause station s).bli.attempt = s.bli.attempt ∧
    (ptbRemove cause station s).bli.output = s.bli.output ∧ (ptbRemove cause station s).bli.frame = s.bli.frame ∧
    (ptbRemove cause station s).bli.errors = s.bli.errors ∧
    (ptbRemove cause station s).bli.unreliable = s.bli.unreliable ∧
    (ptbRemove cause station s).bli.lineHeld = s.bli.lineHeld ∧
    (ptbRemove cause station s).bli.txStuck = s.bli.txStuck ∧
    (ptbRemove cause station s).bli.numberConflict = s.bli.numberConflict ∧
    (ptbRemove cause station s).bli.silent = s.bli.silent ∧
    (ptbRemove cause station s).bli.periodTimer = s.bli.periodTimer ∧
    (ptbRemove cause station s).bli.departureTimer = s.bli.departureTimer ∧
    (ptbRemove cause station s).shr.solo = s.shr.solo ∧ (ptbRemove cause station s).shr.wo = s.shr.wo ∧
    (ptbRemove cause station s).shr.slot = s.shr.slot ∧ (ptbRemove cause station s).shr.request = s.shr.request ∧
    (ptbRemove cause station s).shr.valve = s.shr.valve ∧ (ptbRemove cause station s).alk.items = s.alk.items ∧
    (ptbRemove cause station s).alk.committed = s.alk.committed ∧
    (ptbRemove cause station s).alk.seconds = s.alk.seconds ∧
    (ptbRemove cause station s).alk.resetPending = s.alk.resetPending ∧
    (ptbRemove cause station s).alk.link = s.alk.link := by
  simp [ptbRemove]

@[simp] theorem ptbUpdate_frame (old : Peer) (f : Frame) (s : State) :
    (ptbUpdate old f s).prf = s.prf ∧ (ptbUpdate old f s).ramp = s.ramp ∧ (ptbUpdate old f s).lck = s.lck ∧
    (ptbUpdate old f s).tms = s.tms ∧ (ptbUpdate old f s).reg = s.reg ∧ (ptbUpdate old f s).drv = s.drv ∧
    (ptbUpdate old f s).prt = s.prt ∧ (ptbUpdate old f s).pending = s.pending ∧
    (ptbUpdate old f s).draws = s.draws ∧ (ptbUpdate old f s).cyc.phase = s.cyc.phase ∧
    (ptbUpdate old f s).cyc.abortPending = s.cyc.abortPending ∧ (ptbUpdate old f s).bli.attempt = s.bli.attempt ∧
    (ptbUpdate old f s).bli.output = s.bli.output ∧ (ptbUpdate old f s).bli.frame = s.bli.frame ∧
    (ptbUpdate old f s).bli.errors = s.bli.errors ∧ (ptbUpdate old f s).bli.unreliable = s.bli.unreliable ∧
    (ptbUpdate old f s).bli.lineHeld = s.bli.lineHeld ∧ (ptbUpdate old f s).bli.txStuck = s.bli.txStuck ∧
    (ptbUpdate old f s).bli.numberConflict = s.bli.numberConflict ∧ (ptbUpdate old f s).bli.silent = s.bli.silent ∧
    (ptbUpdate old f s).bli.periodTimer = s.bli.periodTimer ∧
    (ptbUpdate old f s).bli.departureTimer = s.bli.departureTimer ∧
    (ptbUpdate old f s).ptb.overflow = s.ptb.overflow ∧ (ptbUpdate old f s).shr.state = s.shr.state ∧
    (ptbUpdate old f s).shr.listenTimer = s.shr.listenTimer ∧ (ptbUpdate old f s).shr.causes = s.shr.causes ∧
    (ptbUpdate old f s).shr.solo = s.shr.solo ∧ (ptbUpdate old f s).shr.wo = s.shr.wo ∧
    (ptbUpdate old f s).shr.slot = s.shr.slot ∧ (ptbUpdate old f s).shr.request = s.shr.request ∧
    (ptbUpdate old f s).shr.valve = s.shr.valve ∧ (ptbUpdate old f s).alk.items = s.alk.items ∧
    (ptbUpdate old f s).alk.committed = s.alk.committed ∧ (ptbUpdate old f s).alk.seconds = s.alk.seconds ∧
    (ptbUpdate old f s).alk.resetPending = s.alk.resetPending ∧ (ptbUpdate old f s).alk.link = s.alk.link := by
  simp only [ptbUpdate]
  repeat' split
  all_goals simp

@[simp] theorem ptbInsert_frame (f : Frame) (s : State) :
    (ptbInsert f s).prf = s.prf ∧ (ptbInsert f s).tms = s.tms ∧ (ptbInsert f s).pending = s.pending ∧
    (ptbInsert f s).draws = s.draws ∧ (ptbInsert f s).ramp.segIndex = s.ramp.segIndex ∧
    (ptbInsert f s).ramp.sp = s.ramp.sp ∧ (ptbInsert f s).ramp.slotWait = s.ramp.slotWait ∧
    (ptbInsert f s).lck.attempts = s.lck.attempts ∧ (ptbInsert f s).lck.motor = s.lck.motor ∧
    (ptbInsert f s).lck.startUp = s.lck.startUp ∧ (ptbInsert f s).lck.door = s.lck.door ∧
    (ptbInsert f s).lck.latch = s.lck.latch ∧ (ptbInsert f s).lck.stage = s.lck.stage ∧
    (ptbInsert f s).lck.testPass = s.lck.testPass ∧ (ptbInsert f s).reg.limited = s.reg.limited ∧
    (ptbInsert f s).drv.state = s.drv.state ∧ (ptbInsert f s).drv.window = s.drv.window ∧
    (ptbInsert f s).drv.limited = s.drv.limited ∧ (ptbInsert f s).drv.last = s.drv.last ∧
    (ptbInsert f s).drv.overPresent = s.drv.overPresent ∧ (ptbInsert f s).drv.stuckPresent = s.drv.stuckPresent ∧
    (ptbInsert f s).bli.attempt = s.bli.attempt ∧ (ptbInsert f s).bli.output = s.bli.output ∧
    (ptbInsert f s).bli.frame = s.bli.frame ∧ (ptbInsert f s).bli.errors = s.bli.errors ∧
    (ptbInsert f s).bli.unreliable = s.bli.unreliable ∧ (ptbInsert f s).bli.lineHeld = s.bli.lineHeld ∧
    (ptbInsert f s).bli.txStuck = s.bli.txStuck ∧ (ptbInsert f s).bli.numberConflict = s.bli.numberConflict ∧
    (ptbInsert f s).bli.silent = s.bli.silent ∧ (ptbInsert f s).bli.periodTimer = s.bli.periodTimer ∧
    (ptbInsert f s).bli.departureTimer = s.bli.departureTimer ∧ (ptbInsert f s).shr.solo = s.shr.solo ∧
    (ptbInsert f s).prt.blindRunning = s.prt.blindRunning ∧ (ptbInsert f s).prt.blindCount = s.prt.blindCount ∧
    (ptbInsert f s).prt.secondMs = s.prt.secondMs ∧ (ptbInsert f s).alk.items = s.alk.items ∧
    (ptbInsert f s).alk.committed = s.alk.committed ∧ (ptbInsert f s).alk.seconds = s.alk.seconds ∧
    (ptbInsert f s).alk.resetPending = s.alk.resetPending ∧ (ptbInsert f s).alk.link = s.alk.link := by
  simp only [ptbInsert]
  repeat' split
  all_goals simp

@[simp] theorem ptbTake_frame (f : Frame) (s : State) :
    (ptbTake f s).prf = s.prf ∧ (ptbTake f s).tms = s.tms ∧ (ptbTake f s).pending = s.pending ∧
    (ptbTake f s).draws = s.draws ∧ (ptbTake f s).ramp.segIndex = s.ramp.segIndex ∧
    (ptbTake f s).ramp.sp = s.ramp.sp ∧ (ptbTake f s).ramp.slotWait = s.ramp.slotWait ∧
    (ptbTake f s).lck.attempts = s.lck.attempts ∧ (ptbTake f s).lck.motor = s.lck.motor ∧
    (ptbTake f s).lck.startUp = s.lck.startUp ∧ (ptbTake f s).lck.door = s.lck.door ∧
    (ptbTake f s).lck.latch = s.lck.latch ∧ (ptbTake f s).lck.stage = s.lck.stage ∧
    (ptbTake f s).lck.testPass = s.lck.testPass ∧ (ptbTake f s).reg.limited = s.reg.limited ∧
    (ptbTake f s).drv.state = s.drv.state ∧ (ptbTake f s).drv.window = s.drv.window ∧
    (ptbTake f s).drv.limited = s.drv.limited ∧ (ptbTake f s).drv.last = s.drv.last ∧
    (ptbTake f s).drv.overPresent = s.drv.overPresent ∧ (ptbTake f s).drv.stuckPresent = s.drv.stuckPresent ∧
    (ptbTake f s).bli.attempt = s.bli.attempt ∧ (ptbTake f s).bli.output = s.bli.output ∧
    (ptbTake f s).bli.frame = s.bli.frame ∧ (ptbTake f s).bli.errors = s.bli.errors ∧
    (ptbTake f s).bli.unreliable = s.bli.unreliable ∧ (ptbTake f s).bli.lineHeld = s.bli.lineHeld ∧
    (ptbTake f s).bli.txStuck = s.bli.txStuck ∧ (ptbTake f s).bli.numberConflict = s.bli.numberConflict ∧
    (ptbTake f s).bli.silent = s.bli.silent ∧ (ptbTake f s).bli.periodTimer = s.bli.periodTimer ∧
    (ptbTake f s).bli.departureTimer = s.bli.departureTimer ∧ (ptbTake f s).shr.solo = s.shr.solo ∧
    (ptbTake f s).prt.blindRunning = s.prt.blindRunning ∧ (ptbTake f s).prt.blindCount = s.prt.blindCount ∧
    (ptbTake f s).prt.secondMs = s.prt.secondMs ∧ (ptbTake f s).alk.items = s.alk.items ∧
    (ptbTake f s).alk.committed = s.alk.committed ∧ (ptbTake f s).alk.seconds = s.alk.seconds ∧
    (ptbTake f s).alk.resetPending = s.alk.resetPending ∧ (ptbTake f s).alk.link = s.alk.link := by
  simp only [ptbTake]
  repeat' split
  all_goals simp

@[simp] theorem bliGoodFrame_frame (f : Frame) (s : State) :
    (bliGoodFrame f s).prf = s.prf ∧ (bliGoodFrame f s).tms = s.tms ∧ (bliGoodFrame f s).pending = s.pending ∧
    (bliGoodFrame f s).draws = s.draws ∧ (bliGoodFrame f s).ramp.segIndex = s.ramp.segIndex ∧
    (bliGoodFrame f s).ramp.sp = s.ramp.sp ∧ (bliGoodFrame f s).ramp.slotWait = s.ramp.slotWait ∧
    (bliGoodFrame f s).lck.attempts = s.lck.attempts ∧ (bliGoodFrame f s).lck.motor = s.lck.motor ∧
    (bliGoodFrame f s).lck.startUp = s.lck.startUp ∧ (bliGoodFrame f s).lck.door = s.lck.door ∧
    (bliGoodFrame f s).lck.latch = s.lck.latch ∧ (bliGoodFrame f s).lck.stage = s.lck.stage ∧
    (bliGoodFrame f s).lck.testPass = s.lck.testPass ∧ (bliGoodFrame f s).reg.limited = s.reg.limited ∧
    (bliGoodFrame f s).drv.state = s.drv.state ∧ (bliGoodFrame f s).drv.window = s.drv.window ∧
    (bliGoodFrame f s).drv.limited = s.drv.limited ∧ (bliGoodFrame f s).drv.last = s.drv.last ∧
    (bliGoodFrame f s).drv.overPresent = s.drv.overPresent ∧
    (bliGoodFrame f s).drv.stuckPresent = s.drv.stuckPresent ∧ (bliGoodFrame f s).bli.attempt = s.bli.attempt ∧
    (bliGoodFrame f s).bli.output = s.bli.output ∧ (bliGoodFrame f s).bli.frame = s.bli.frame ∧
    (bliGoodFrame f s).bli.lineHeld = s.bli.lineHeld ∧ (bliGoodFrame f s).bli.txStuck = s.bli.txStuck ∧
    (bliGoodFrame f s).bli.periodTimer = s.bli.periodTimer ∧
    (bliGoodFrame f s).bli.departureTimer = s.bli.departureTimer ∧ (bliGoodFrame f s).shr.solo = s.shr.solo ∧
    (bliGoodFrame f s).prt.blindRunning = s.prt.blindRunning ∧
    (bliGoodFrame f s).prt.blindCount = s.prt.blindCount ∧ (bliGoodFrame f s).prt.secondMs = s.prt.secondMs ∧
    (bliGoodFrame f s).alk.items = s.alk.items ∧ (bliGoodFrame f s).alk.committed = s.alk.committed ∧
    (bliGoodFrame f s).alk.seconds = s.alk.seconds ∧ (bliGoodFrame f s).alk.resetPending = s.alk.resetPending ∧
    (bliGoodFrame f s).alk.link = s.alk.link := by
  simp only [bliGoodFrame]
  repeat' split
  all_goals simp

@[simp] theorem bliClassed_frame (c : RxClass) (s : State) :
    (bliClassed c s).prf = s.prf ∧ (bliClassed c s).tms = s.tms ∧
    (bliClassed c s).pending = s.pending ∧ (bliClassed c s).draws = s.draws ∧
    (bliClassed c s).ramp.segIndex = s.ramp.segIndex ∧ (bliClassed c s).ramp.sp = s.ramp.sp ∧
    (bliClassed c s).ramp.slotWait = s.ramp.slotWait ∧
    (bliClassed c s).lck.attempts = s.lck.attempts ∧ (bliClassed c s).lck.motor = s.lck.motor ∧
    (bliClassed c s).lck.startUp = s.lck.startUp ∧ (bliClassed c s).lck.door = s.lck.door ∧
    (bliClassed c s).lck.latch = s.lck.latch ∧ (bliClassed c s).lck.stage = s.lck.stage ∧
    (bliClassed c s).lck.testPass = s.lck.testPass ∧
    (bliClassed c s).reg.limited = s.reg.limited ∧ (bliClassed c s).drv.state = s.drv.state ∧
    (bliClassed c s).drv.window = s.drv.window ∧ (bliClassed c s).drv.limited = s.drv.limited ∧
    (bliClassed c s).drv.last = s.drv.last ∧
    (bliClassed c s).drv.overPresent = s.drv.overPresent ∧
    (bliClassed c s).drv.stuckPresent = s.drv.stuckPresent ∧
    (bliClassed c s).bli.attempt = s.bli.attempt ∧ (bliClassed c s).bli.output = s.bli.output ∧
    (bliClassed c s).bli.lineHeld = s.bli.lineHeld ∧
    (bliClassed c s).bli.txStuck = s.bli.txStuck ∧
    (bliClassed c s).bli.periodTimer = s.bli.periodTimer ∧
    (bliClassed c s).bli.departureTimer = s.bli.departureTimer ∧
    (bliClassed c s).shr.solo = s.shr.solo ∧
    (bliClassed c s).prt.blindRunning = s.prt.blindRunning ∧
    (bliClassed c s).prt.blindCount = s.prt.blindCount ∧
    (bliClassed c s).prt.secondMs = s.prt.secondMs ∧ (bliClassed c s).alk.items = s.alk.items ∧
    (bliClassed c s).alk.committed = s.alk.committed ∧
    (bliClassed c s).alk.seconds = s.alk.seconds ∧
    (bliClassed c s).alk.resetPending = s.alk.resetPending ∧
    (bliClassed c s).alk.link = s.alk.link := by
  simp only [bliClassed]
  repeat' split
  all_goals simp

@[simp] theorem bliReceive_frame (nbits : Nat) (bits : BitVec 64) (s : State) :
    (bliReceive nbits bits s).prf = s.prf ∧ (bliReceive nbits bits s).tms = s.tms ∧
    (bliReceive nbits bits s).pending = s.pending ∧ (bliReceive nbits bits s).draws = s.draws ∧
    (bliReceive nbits bits s).ramp.segIndex = s.ramp.segIndex ∧ (bliReceive nbits bits s).ramp.sp = s.ramp.sp ∧
    (bliReceive nbits bits s).ramp.slotWait = s.ramp.slotWait ∧
    (bliReceive nbits bits s).lck.attempts = s.lck.attempts ∧ (bliReceive nbits bits s).lck.motor = s.lck.motor ∧
    (bliReceive nbits bits s).lck.startUp = s.lck.startUp ∧ (bliReceive nbits bits s).lck.door = s.lck.door ∧
    (bliReceive nbits bits s).lck.latch = s.lck.latch ∧ (bliReceive nbits bits s).lck.stage = s.lck.stage ∧
    (bliReceive nbits bits s).lck.testPass = s.lck.testPass ∧
    (bliReceive nbits bits s).reg.limited = s.reg.limited ∧ (bliReceive nbits bits s).drv.state = s.drv.state ∧
    (bliReceive nbits bits s).drv.window = s.drv.window ∧ (bliReceive nbits bits s).drv.limited = s.drv.limited ∧
    (bliReceive nbits bits s).drv.last = s.drv.last ∧
    (bliReceive nbits bits s).drv.overPresent = s.drv.overPresent ∧
    (bliReceive nbits bits s).drv.stuckPresent = s.drv.stuckPresent ∧
    (bliReceive nbits bits s).bli.attempt = s.bli.attempt ∧ (bliReceive nbits bits s).bli.output = s.bli.output ∧
    (bliReceive nbits bits s).bli.lineHeld = s.bli.lineHeld ∧
    (bliReceive nbits bits s).bli.txStuck = s.bli.txStuck ∧
    (bliReceive nbits bits s).bli.periodTimer = s.bli.periodTimer ∧
    (bliReceive nbits bits s).bli.departureTimer = s.bli.departureTimer ∧
    (bliReceive nbits bits s).shr.solo = s.shr.solo ∧
    (bliReceive nbits bits s).prt.blindRunning = s.prt.blindRunning ∧
    (bliReceive nbits bits s).prt.blindCount = s.prt.blindCount ∧
    (bliReceive nbits bits s).prt.secondMs = s.prt.secondMs ∧ (bliReceive nbits bits s).alk.items = s.alk.items ∧
    (bliReceive nbits bits s).alk.committed = s.alk.committed ∧
    (bliReceive nbits bits s).alk.seconds = s.alk.seconds ∧
    (bliReceive nbits bits s).alk.resetPending = s.alk.resetPending ∧
    (bliReceive nbits bits s).alk.link = s.alk.link := by
  simp [bliReceive]

/-- A reception leaves no frame under way and a released run of 0. -/
@[simp] theorem bliReceive_line (nbits : Nat) (bits : BitVec 64) (s : State) :
    (bliReceive nbits bits s).bli.frame = .none ∧ (bliReceive nbits bits s).bli.releasedRun = 0 := by
  simp [bliReceive]

end Sys2Proof.Machine
end

