-- ==== Sys2Proof/Laws/FrameLink.lean ====
section
/-! SUPPORT. What the appliance link operations leave as they were. -/

namespace Sys2Proof.Machine

@[simp] theorem linkOpen_frame (params : Nat) (s : State) :
    (linkOpen params s).cyc = s.cyc ∧ (linkOpen params s).prf = s.prf ∧ (linkOpen params s).ramp = s.ramp ∧ (linkOpen params s).lck = s.lck ∧
    (linkOpen params s).tms = s.tms ∧ (linkOpen params s).reg = s.reg ∧ (linkOpen params s).drv = s.drv ∧ (linkOpen params s).bli = s.bli ∧
    (linkOpen params s).ptb = s.ptb ∧ (linkOpen params s).shr = s.shr ∧ (linkOpen params s).prt = s.prt ∧
    (linkOpen params s).pending = s.pending ∧ (linkOpen params s).draws = s.draws := by
  simp [linkOpen]

@[simp] theorem linkAnswer_frame (c : ResultCode) (bytes : List Byte) (s : State) :
    (linkAnswer c bytes s).cyc = s.cyc ∧ (linkAnswer c bytes s).prf = s.prf ∧
    (linkAnswer c bytes s).ramp = s.ramp ∧ (linkAnswer c bytes s).lck = s.lck ∧
    (linkAnswer c bytes s).tms = s.tms ∧ (linkAnswer c bytes s).reg = s.reg ∧ (linkAnswer c bytes s).drv = s.drv ∧
    (linkAnswer c bytes s).bli = s.bli ∧ (linkAnswer c bytes s).ptb = s.ptb ∧ (linkAnswer c bytes s).shr = s.shr ∧
    (linkAnswer c bytes s).prt = s.prt ∧ (linkAnswer c bytes s).pending = s.pending ∧
    (linkAnswer c bytes s).draws = s.draws ∧ (linkAnswer c bytes s).alk.items = s.alk.items ∧
    (linkAnswer c bytes s).alk.committed = s.alk.committed ∧ (linkAnswer c bytes s).alk.seconds = s.alk.seconds ∧
    (linkAnswer c bytes s).alk.resetPending = s.alk.resetPending := by
  simp [linkAnswer]

@[simp] theorem linkRise_frame (s : State) :
    (linkRise s).cyc = s.cyc ∧ (linkRise s).prf = s.prf ∧ (linkRise s).ramp = s.ramp ∧ (linkRise s).lck = s.lck ∧
    (linkRise s).tms = s.tms ∧ (linkRise s).reg = s.reg ∧ (linkRise s).drv = s.drv ∧ (linkRise s).bli = s.bli ∧
    (linkRise s).ptb = s.ptb ∧ (linkRise s).shr = s.shr ∧ (linkRise s).prt = s.prt ∧
    (linkRise s).pending = s.pending ∧ (linkRise s).draws = s.draws := by
  simp [linkRise]

@[simp] theorem prfSeek_frame (index : Nat) (m : PointerMode) (s : State) :
    (prfSeek index m s).cyc = s.cyc ∧ (prfSeek index m s).ramp = s.ramp ∧ (prfSeek index m s).lck = s.lck ∧
    (prfSeek index m s).tms = s.tms ∧ (prfSeek index m s).reg = s.reg ∧ (prfSeek index m s).drv = s.drv ∧
    (prfSeek index m s).bli = s.bli ∧ (prfSeek index m s).ptb = s.ptb ∧ (prfSeek index m s).shr = s.shr ∧
    (prfSeek index m s).prt = s.prt ∧ (prfSeek index m s).alk = s.alk ∧ (prfSeek index m s).pending = s.pending ∧
    (prfSeek index m s).draws = s.draws ∧ (prfSeek index m s).prf.table = s.prf.table := by
  simp [prfSeek]

@[simp] theorem prfStage_frame (w : Half) (s : State) :
    (prfStage w s).cyc = s.cyc ∧ (prfStage w s).ramp = s.ramp ∧ (prfStage w s).lck = s.lck ∧
    (prfStage w s).tms = s.tms ∧ (prfStage w s).reg = s.reg ∧ (prfStage w s).drv = s.drv ∧
    (prfStage w s).bli = s.bli ∧ (prfStage w s).ptb = s.ptb ∧ (prfStage w s).shr = s.shr ∧
    (prfStage w s).prt = s.prt ∧ (prfStage w s).alk = s.alk ∧ (prfStage w s).pending = s.pending ∧
    (prfStage w s).draws = s.draws := by
  simp only [prfStage]
  repeat' split
  all_goals simp

@[simp] theorem prfNext_frame (s : State) :
    (prfNext s).cyc = s.cyc ∧ (prfNext s).ramp = s.ramp ∧ (prfNext s).lck = s.lck ∧ (prfNext s).tms = s.tms ∧
    (prfNext s).reg = s.reg ∧ (prfNext s).drv = s.drv ∧ (prfNext s).bli = s.bli ∧ (prfNext s).ptb = s.ptb ∧
    (prfNext s).shr = s.shr ∧ (prfNext s).prt = s.prt ∧ (prfNext s).alk = s.alk ∧ (prfNext s).pending = s.pending ∧
    (prfNext s).draws = s.draws := by
  simp [prfNext]

@[simp] theorem cycStart_frame (s : State) :
    (cycStart s).prf = s.prf ∧ (cycStart s).tms = s.tms ∧ (cycStart s).ptb = s.ptb ∧
    (cycStart s).pending = s.pending ∧ (cycStart s).draws = s.draws ∧ (cycStart s).ramp.segIndex = s.ramp.segIndex ∧
    (cycStart s).ramp.sp = s.ramp.sp ∧ (cycStart s).ramp.holdTimer = s.ramp.holdTimer ∧
    (cycStart s).ramp.segTimer = s.ramp.segTimer ∧ (cycStart s).ramp.slotWait = s.ramp.slotWait ∧
    (cycStart s).lck.startUp = s.lck.startUp ∧ (cycStart s).lck.door = s.lck.door ∧
    (cycStart s).lck.latch = s.lck.latch ∧ (cycStart s).lck.testPass = s.lck.testPass ∧
    (cycStart s).reg.limited = s.reg.limited ∧ (cycStart s).drv.state = s.drv.state ∧
    (cycStart s).drv.window = s.drv.window ∧ (cycStart s).drv.limited = s.drv.limited ∧
    (cycStart s).drv.last = s.drv.last ∧ (cycStart s).drv.overPresent = s.drv.overPresent ∧
    (cycStart s).drv.stuckPresent = s.drv.stuckPresent ∧ (cycStart s).bli.attempt = s.bli.attempt ∧
    (cycStart s).bli.output = s.bli.output ∧ (cycStart s).bli.frame = s.bli.frame ∧
    (cycStart s).bli.errors = s.bli.errors ∧ (cycStart s).bli.unreliable = s.bli.unreliable ∧
    (cycStart s).bli.lineHeld = s.bli.lineHeld ∧ (cycStart s).bli.txStuck = s.bli.txStuck ∧
    (cycStart s).bli.numberConflict = s.bli.numberConflict ∧ (cycStart s).bli.silent = s.bli.silent ∧
    (cycStart s).bli.periodTimer = s.bli.periodTimer ∧ (cycStart s).bli.departureTimer = s.bli.departureTimer ∧
    (cycStart s).shr.state = s.shr.state ∧ (cycStart s).shr.listenTimer = s.shr.listenTimer ∧
    (cycStart s).shr.causes = s.shr.causes ∧ (cycStart s).shr.solo = s.shr.solo ∧
    (cycStart s).shr.sums = s.shr.sums ∧ (cycStart s).prt.blindRunning = s.prt.blindRunning ∧
    (cycStart s).prt.blindCount = s.prt.blindCount ∧ (cycStart s).prt.secondMs = s.prt.secondMs ∧
    (cycStart s).alk.items = s.alk.items ∧ (cycStart s).alk.committed = s.alk.committed ∧
    (cycStart s).alk.seconds = s.alk.seconds ∧ (cycStart s).alk.resetPending = s.alk.resetPending ∧
    (cycStart s).alk.link = s.alk.link := by
  simp [cycStart]

@[simp] theorem cycMoveOn_frame (s : State) :
    (cycMoveOn s).prf = s.prf ∧ (cycMoveOn s).ramp = s.ramp ∧ (cycMoveOn s).tms = s.tms ∧
    (cycMoveOn s).bli = s.bli ∧ (cycMoveOn s).ptb = s.ptb ∧ (cycMoveOn s).shr = s.shr ∧
    (cycMoveOn s).pending = s.pending ∧ (cycMoveOn s).draws = s.draws ∧ (cycMoveOn s).cyc.record = s.cyc.record ∧
    (cycMoveOn s).lck.startUp = s.lck.startUp ∧ (cycMoveOn s).lck.door = s.lck.door ∧
    (cycMoveOn s).lck.latch = s.lck.latch ∧ (cycMoveOn s).lck.testPass = s.lck.testPass ∧
    (cycMoveOn s).reg.demand = s.reg.demand ∧ (cycMoveOn s).reg.integral = s.reg.integral ∧
    (cycMoveOn s).reg.limited = s.reg.limited ∧ (cycMoveOn s).drv.state = s.drv.state ∧
    (cycMoveOn s).drv.window = s.drv.window ∧ (cycMoveOn s).drv.limited = s.drv.limited ∧
    (cycMoveOn s).drv.last = s.drv.last ∧ (cycMoveOn s).drv.overPresent = s.drv.overPresent ∧
    (cycMoveOn s).drv.stuckPresent = s.drv.stuckPresent ∧ (cycMoveOn s).drv.permitted = s.drv.permitted ∧
    (cycMoveOn s).prt.blindRunning = s.prt.blindRunning ∧ (cycMoveOn s).prt.blindCount = s.prt.blindCount ∧
    (cycMoveOn s).prt.secondMs = s.prt.secondMs ∧ (cycMoveOn s).alk.items = s.alk.items ∧
    (cycMoveOn s).alk.committed = s.alk.committed ∧ (cycMoveOn s).alk.seconds = s.alk.seconds ∧
    (cycMoveOn s).alk.resetPending = s.alk.resetPending ∧ (cycMoveOn s).alk.link = s.alk.link := by
  simp only [cycMoveOn]
  repeat' split
  all_goals simp

@[simp] theorem bliCommit_frame (s : State) :
    (bliCommit s).cyc = s.cyc ∧ (bliCommit s).prf = s.prf ∧ (bliCommit s).ramp = s.ramp ∧
    (bliCommit s).lck = s.lck ∧ (bliCommit s).tms = s.tms ∧ (bliCommit s).reg = s.reg ∧ (bliCommit s).drv = s.drv ∧
    (bliCommit s).ptb = s.ptb ∧ (bliCommit s).shr = s.shr ∧ (bliCommit s).prt = s.prt ∧ (bliCommit s).alk = s.alk ∧
    (bliCommit s).pending = s.pending ∧ (bliCommit s).bli.attempt = s.bli.attempt ∧
    (bliCommit s).bli.output = s.bli.output ∧ (bliCommit s).bli.frame = s.bli.frame ∧
    (bliCommit s).bli.errors = s.bli.errors ∧ (bliCommit s).bli.unreliable = s.bli.unreliable ∧
    (bliCommit s).bli.lineHeld = s.bli.lineHeld ∧ (bliCommit s).bli.txStuck = s.bli.txStuck ∧
    (bliCommit s).bli.numberConflict = s.bli.numberConflict ∧ (bliCommit s).bli.silent = s.bli.silent ∧
    (bliCommit s).bli.departureTimer = s.bli.departureTimer := by
  simp only [bliCommit]
  repeat' split
  all_goals simp

@[simp] theorem shrCommit_frame (s : State) :
    (shrCommit s).prf = s.prf ∧ (shrCommit s).tms = s.tms ∧ (shrCommit s).ptb = s.ptb ∧
    (shrCommit s).pending = s.pending ∧ (shrCommit s).draws = s.draws ∧
    (shrCommit s).ramp.segIndex = s.ramp.segIndex ∧ (shrCommit s).ramp.sp = s.ramp.sp ∧
    (shrCommit s).ramp.slotWait = s.ramp.slotWait ∧ (shrCommit s).lck.attempts = s.lck.attempts ∧
    (shrCommit s).lck.motor = s.lck.motor ∧ (shrCommit s).lck.startUp = s.lck.startUp ∧
    (shrCommit s).lck.door = s.lck.door ∧ (shrCommit s).lck.latch = s.lck.latch ∧
    (shrCommit s).lck.stage = s.lck.stage ∧ (shrCommit s).lck.testPass = s.lck.testPass ∧
    (shrCommit s).reg.limited = s.reg.limited ∧ (shrCommit s).drv.state = s.drv.state ∧
    (shrCommit s).drv.window = s.drv.window ∧ (shrCommit s).drv.limited = s.drv.limited ∧
    (shrCommit s).drv.last = s.drv.last ∧ (shrCommit s).drv.overPresent = s.drv.overPresent ∧
    (shrCommit s).drv.stuckPresent = s.drv.stuckPresent ∧ (shrCommit s).bli.attempt = s.bli.attempt ∧
    (shrCommit s).bli.output = s.bli.output ∧ (shrCommit s).bli.frame = s.bli.frame ∧
    (shrCommit s).bli.errors = s.bli.errors ∧ (shrCommit s).bli.unreliable = s.bli.unreliable ∧
    (shrCommit s).bli.lineHeld = s.bli.lineHeld ∧ (shrCommit s).bli.txStuck = s.bli.txStuck ∧
    (shrCommit s).bli.numberConflict = s.bli.numberConflict ∧ (shrCommit s).bli.silent = s.bli.silent ∧
    (shrCommit s).bli.periodTimer = s.bli.periodTimer ∧ (shrCommit s).bli.departureTimer = s.bli.departureTimer ∧
    (shrCommit s).shr.causes = s.shr.causes ∧ (shrCommit s).shr.sums = s.shr.sums ∧
    (shrCommit s).prt.blindRunning = s.prt.blindRunning ∧ (shrCommit s).prt.blindCount = s.prt.blindCount ∧
    (shrCommit s).prt.secondMs = s.prt.secondMs ∧ (shrCommit s).alk.items = s.alk.items ∧
    (shrCommit s).alk.committed = s.alk.committed ∧ (shrCommit s).alk.seconds = s.alk.seconds ∧
    (shrCommit s).alk.resetPending = s.alk.resetPending ∧ (shrCommit s).alk.link = s.alk.link := by
  simp only [shrCommit]
  repeat' split
  all_goals simp

@[simp] theorem cycCommit_frame (s : State) :
    (cycCommit s).prf = s.prf ∧ (cycCommit s).ramp = s.ramp ∧ (cycCommit s).tms = s.tms ∧
    (cycCommit s).bli = s.bli ∧ (cycCommit s).ptb = s.ptb ∧ (cycCommit s).shr = s.shr ∧
    (cycCommit s).pending = s.pending ∧ (cycCommit s).draws = s.draws ∧
    (cycCommit s).lck.attempts = s.lck.attempts ∧ (cycCommit s).lck.motor = s.lck.motor ∧
    (cycCommit s).lck.startUp = s.lck.startUp ∧ (cycCommit s).lck.door = s.lck.door ∧
    (cycCommit s).lck.latch = s.lck.latch ∧ (cycCommit s).lck.stage = s.lck.stage ∧
    (cycCommit s).lck.testPass = s.lck.testPass ∧ (cycCommit s).reg.demand = s.reg.demand ∧
    (cycCommit s).reg.integral = s.reg.integral ∧ (cycCommit s).reg.limited = s.reg.limited ∧
    (cycCommit s).drv.state = s.drv.state ∧ (cycCommit s).drv.window = s.drv.window ∧
    (cycCommit s).drv.limited = s.drv.limited ∧ (cycCommit s).drv.last = s.drv.last ∧
    (cycCommit s).drv.overPresent = s.drv.overPresent ∧ (cycCommit s).drv.stuckPresent = s.drv.stuckPresent ∧
    (cycCommit s).drv.permitted = s.drv.permitted ∧ (cycCommit s).prt.blindRunning = s.prt.blindRunning ∧
    (cycCommit s).prt.blindCount = s.prt.blindCount ∧ (cycCommit s).prt.secondMs = s.prt.secondMs ∧
    (cycCommit s).alk.items = s.alk.items ∧ (cycCommit s).alk.committed = s.alk.committed ∧
    (cycCommit s).alk.seconds = s.alk.seconds ∧ (cycCommit s).alk.resetPending = s.alk.resetPending ∧
    (cycCommit s).alk.link = s.alk.link := by
  simp only [cycCommit]
  repeat' split
  all_goals simp

@[simp] theorem commitAll_frame (s : State) :
    (commitAll s).prf = s.prf ∧ (commitAll s).ptb = s.ptb ∧ (commitAll s).pending = s.pending ∧
    (commitAll s).ramp.segIndex = s.ramp.segIndex ∧ (commitAll s).ramp.sp = s.ramp.sp ∧
    (commitAll s).ramp.slotWait = s.ramp.slotWait ∧ (commitAll s).lck.startUp = s.lck.startUp ∧
    (commitAll s).lck.door = s.lck.door ∧ (commitAll s).lck.latch = s.lck.latch ∧ (commitAll s).tms.a = s.tms.a ∧
    (commitAll s).tms.b = s.tms.b ∧ (commitAll s).tms.l = s.tms.l ∧
    (commitAll s).tms.disagreePresent = s.tms.disagreePresent ∧
    (commitAll s).tms.latchHotPresent = s.tms.latchHotPresent ∧
    (commitAll s).tms.zoneOverride = s.tms.zoneOverride ∧ (commitAll s).reg.limited = s.reg.limited ∧
    (commitAll s).drv.state = s.drv.state ∧ (commitAll s).drv.window = s.drv.window ∧
    (commitAll s).drv.limited = s.drv.limited ∧ (commitAll s).drv.last = s.drv.last ∧
    (commitAll s).drv.overPresent = s.drv.overPresent ∧ (commitAll s).drv.stuckPresent = s.drv.stuckPresent ∧
    (commitAll s).bli.attempt = s.bli.attempt ∧ (commitAll s).bli.output = s.bli.output ∧
    (commitAll s).bli.frame = s.bli.frame ∧ (commitAll s).bli.errors = s.bli.errors ∧
    (commitAll s).bli.unreliable = s.bli.unreliable ∧ (commitAll s).bli.lineHeld = s.bli.lineHeld ∧
    (commitAll s).bli.txStuck = s.bli.txStuck ∧ (commitAll s).bli.numberConflict = s.bli.numberConflict ∧
    (commitAll s).bli.silent = s.bli.silent ∧ (commitAll s).bli.departureTimer = s.bli.departureTimer ∧
    (commitAll s).shr.causes = s.shr.causes ∧ (commitAll s).shr.sums = s.shr.sums ∧
    (commitAll s).prt.blindRunning = s.prt.blindRunning ∧ (commitAll s).prt.blindCount = s.prt.blindCount ∧
    (commitAll s).prt.secondMs = s.prt.secondMs ∧ (commitAll s).alk.items = s.alk.items ∧
    (commitAll s).alk.seconds = s.alk.seconds ∧ (commitAll s).alk.resetPending = s.alk.resetPending ∧
    (commitAll s).alk.link = s.alk.link ∧ (commitAll s).tms.due = s.tms.due := by
  simp [commitAll]

@[simp] theorem resetAll_frame (cause : ResetCause) (s : State) :
    (resetAll cause s).pending = s.pending ∧ (resetAll cause s).draws = s.draws + 1 := by
  simp [resetAll]

@[simp] theorem alkScheduleReset_frame (s : State) :
    (alkScheduleReset s).cyc = s.cyc ∧ (alkScheduleReset s).prf = s.prf ∧ (alkScheduleReset s).ramp = s.ramp ∧
    (alkScheduleReset s).lck = s.lck ∧ (alkScheduleReset s).tms = s.tms ∧ (alkScheduleReset s).reg = s.reg ∧
    (alkScheduleReset s).drv = s.drv ∧ (alkScheduleReset s).ptb = s.ptb ∧ (alkScheduleReset s).shr = s.shr ∧
    (alkScheduleReset s).prt = s.prt ∧ (alkScheduleReset s).pending = s.pending ∧
    (alkScheduleReset s).draws = s.draws ∧ (alkScheduleReset s).bli.attempt = s.bli.attempt ∧
    (alkScheduleReset s).bli.output = s.bli.output ∧ (alkScheduleReset s).bli.frame = s.bli.frame ∧
    (alkScheduleReset s).bli.errors = s.bli.errors ∧ (alkScheduleReset s).bli.unreliable = s.bli.unreliable ∧
    (alkScheduleReset s).bli.lineHeld = s.bli.lineHeld ∧ (alkScheduleReset s).bli.txStuck = s.bli.txStuck ∧
    (alkScheduleReset s).bli.numberConflict = s.bli.numberConflict ∧
    (alkScheduleReset s).bli.silent = s.bli.silent ∧ (alkScheduleReset s).bli.periodTimer = s.bli.periodTimer ∧
    (alkScheduleReset s).alk.items = s.alk.items ∧ (alkScheduleReset s).alk.committed = s.alk.committed ∧
    (alkScheduleReset s).alk.seconds = s.alk.seconds ∧ (alkScheduleReset s).alk.link = s.alk.link := by
  simp only [alkScheduleReset]
  repeat' split
  all_goals simp

end Sys2Proof.Machine
end

