-- ==== Sys2Proof/Laws/Effects.lean ====
section
/-! SUPPORT. What the shared operations do, once each: the event list, the notice lines, reasons, the fault set, MAIN, the
fan, the phase, the lock state, the slot, answers and resets; and how a whole event is taken. -/

namespace Sys2Proof.Machine

/-! ## Values that depend on the configuration alone -/

theorem State.cfg_congr {s t : State} (hi : t.alk.items = s.alk.items) (hc : t.alk.committed = s.alk.committed)
    (i : Item) : t.cfg i = s.cfg i := by
  simp [State.cfg, hi, hc]

theorem State.routing_congr {s t : State} (hi : t.alk.items = s.alk.items) (hc : t.alk.committed = s.alk.committed)
    (c : EventClass) : t.routing c = s.routing c := by
  simp [State.routing, State.cfg_congr hi hc]

theorem State.attnDue_congr {s t : State} (hi : t.alk.items = s.alk.items) (hc : t.alk.committed = s.alk.committed)
    (he : t.alk.events = s.alk.events) : t.attnDue = s.attnDue := by
  simp [State.attnDue, State.routing_congr hi hc, he]

theorem State.alertDue_congr {s t : State} (hi : t.alk.items = s.alk.items) (hc : t.alk.committed = s.alk.committed)
    (he : t.alk.events = s.alk.events) : t.alertDue = s.alertDue := by
  simp [State.alertDue, State.routing_congr hi hc, he]

/-! ## The event list (R177, R179) -/

@[simp] theorem alkLines_attn (s : State) : (alkLines s).alk.attn = s.attnDue := rfl

@[simp] theorem alkLines_alert (s : State) : (alkLines s).alk.alert = s.alertDue := rfl

@[simp] theorem alkLines_events (s : State) : (alkLines s).alk.events = s.alk.events := rfl

@[simp] theorem alkLines_lost (s : State) : (alkLines s).alk.lost = s.alk.lost := rfl

theorem alkRecord_events (k : EventKind) (d : Half) (s : State) :
    (alkRecord k d s).alk.events =
      if s.routing k.cls = 0 ∨ 32 ≤ s.alk.events.length then s.alk.events else s.alk.events ++ [s.stamp k d] := by
  unfold alkRecord
  by_cases h1 : s.routing k.cls = 0
  · simp [h1]
  · by_cases h2 : s.alk.events.length < 32
    · simp [h1, h2, Nat.not_le.mpr h2]
    · simp [h1, h2, Nat.le_of_not_lt h2]

theorem alkRecord_lost (k : EventKind) (d : Half) (s : State) :
    (alkRecord k d s).alk.lost = (s.alk.lost || (s.routing k.cls != 0 && decide (32 ≤ s.alk.events.length))) := by
  unfold alkRecord
  by_cases h1 : s.routing k.cls = 0
  · simp [h1]
  · by_cases h2 : s.alk.events.length < 32
    · simp [h1, h2, Nat.not_le.mpr h2]
    · simp [h1, h2, Nat.le_of_not_lt h2]

/-! ## Reasons to send (R109) -/

theorem bliSetReason_reasons (k : FrameKind) (s : State) :
    (bliSetReason k s).bli.reasons =
      if s.bli.tx = .off ∨ s.bli.tx = .stopped then s.bli.reasons else s.bli.reasons ||| k.bit := by
  unfold bliSetReason
  split <;> simp_all

theorem bliSetReason_tx (k : FrameKind) (s : State) :
    (bliSetReason k s).bli.tx = if s.bli.tx = .quiet then .waiting else s.bli.tx := by
  unfold bliSetReason
  split <;> simp_all

/-! ## The fault set (R158, R159) -/

theorem clearFlag_absent (c : FaultCode) (l : List FaultEntry)
    (h : ¬(l.any fun e => e.code == c && e.present) = true) : clearFlag c l = l := by
  unfold clearFlag
  conv => rhs; rw [← List.map_id l]
  refine List.map_congr_left fun e he => ?_
  by_cases hc : e.code = c
  · have : e.present = false := by
      by_contra hp
      exact h (List.any_eq_true.mpr ⟨e, he, by simp_all⟩)
    cases e
    simp_all
  · simp [hc]

theorem prtGone_faults (c : FaultCode) (s : State) : (prtGone c s).prt.faults = clearFlag c s.prt.faults := by
  unfold prtGone
  split_ifs with h
  · simp
  · exact (clearFlag_absent c _ h).symm

theorem prtRaise_present (c : FaultCode) (s : State) (h : (s.prt.faults.any fun e => e.code == c && e.present) = true) :
    prtRaise c s = s := by
  simp [prtRaise, h]

/-! ## MAIN and the fan (R82, R96) -/

@[simp] theorem drvMain_main (s : State) : (drvMain s).drv.main = s.mainAllowed := by
  unfold drvMain
  split_ifs <;> simp_all

@[simp] theorem regFan_fan (s : State) : (regFan s).reg.fan = s.fanLevel := rfl

/-! ## The phase and the lock state -/

@[simp] theorem cycSetPhase_phase (p : Phase) (s : State) : (cycSetPhase p s).cyc.phase = p := by
  unfold cycSetPhase
  split_ifs <;> simp_all

@[simp] theorem lckSetState_state (st : LockState) (s : State) : (lckSetState st s).lck.state = st := by
  unfold lckSetState
  split_ifs <;> simp_all

@[simp] theorem lckSetJammed_state (v : Bool) (s : State) : (lckSetJammed v s).lck.state = .jammed := by
  unfold lckSetJammed
  split_ifs <;> simp_all

@[simp] theorem lckSetJammed_carried (v : Bool) (s : State) : (lckSetJammed v s).lck.carried = v := by
  unfold lckSetJammed
  split_ifs <;> simp_all

/-! ## The slot (R149, R155) -/

@[simp] theorem shrSetSlot_slot (st : SlotState) (s : State) : (shrSetSlot st s).shr.slot = st := by
  unfold shrSetSlot
  split_ifs <;> simp_all

@[simp] theorem shrSetSlot_valve (st : SlotState) (s : State) (h : s.shr.slot ≠ st) :
    (shrSetSlot st s).shr.valve = (st == .hold) := by
  simp [shrSetSlot, h]

@[simp] theorem shrRelease_slot (s : State) : (shrRelease s).shr.slot = .none := by
  simp [shrRelease]

@[simp] theorem shrRelease_request (s : State) : (shrRelease s).shr.request = .none := by
  simp [shrRelease]

/-! ## Answers (R171) -/

@[simp] theorem linkAnswer_answer (c : ResultCode) (bytes : List Byte) (s : State) :
    (linkAnswer c bytes s).alk.link.answer = byteOf c.code :: bytes := rfl

/-- A command's transaction changes the port, and a rise of CSN that a waiting reset sees; nothing else. -/
theorem linkOpen_eq (params : Nat) (s : State) :
    linkOpen params s = { s with alk := { s.alk with
      resetPending := (linkOpen params s).alk.resetPending, link := { csnLow := true, lead := params + 2, answer := [], sdoCut := false } } } := by
  unfold linkOpen
  simp only [State.modAlk]
  split_ifs <;> rfl

@[simp] theorem linkOpen_alk (params : Nat) (s : State) :
    (linkOpen params s).alk.items = s.alk.items ∧ (linkOpen params s).alk.committed = s.alk.committed ∧
    (linkOpen params s).alk.events = s.alk.events ∧ (linkOpen params s).alk.lost = s.alk.lost ∧
    (linkOpen params s).alk.seconds = s.alk.seconds ∧ (linkOpen params s).alk.secondMs = s.alk.secondMs ∧
    (linkOpen params s).alk.attn = s.alk.attn ∧ (linkOpen params s).alk.alert = s.alk.alert ∧
    (linkOpen params s).alk.link = { csnLow := true, lead := params + 2, answer := [], sdoCut := false } := by
  rw [linkOpen_eq]
  simp

@[simp] theorem linkOpen_resetPending_none (params : Nat) (s : State) (h : s.alk.resetPending = none) :
    (linkOpen params s).alk.resetPending = none := by
  unfold linkOpen alkRisen
  simp only [State.modAlk]
  split_ifs <;> simp [h]

theorem linkCommand_ready (params n : Nat) (f : State → State) (s : State) (h : s.alk.resetPending = none) :
    linkCommand params n f s = f (linkOpen params s) := by
  simp [linkCommand, h]

theorem linkCommand_waiting (params n : Nat) (f : State → State) (s : State) (h : s.alk.resetPending ≠ none) :
    linkCommand params n f s = linkAnswer .wrongPhase (zeroBytes n) (linkOpen params s) := by
  cases hr : s.alk.resetPending with
  | none => exact absurd hr h
  | some r => simp [linkCommand, hr]

@[simp] theorem linkRise_alk (s : State) :
    (linkRise s).alk.items = s.alk.items ∧ (linkRise s).alk.committed = s.alk.committed ∧
    (linkRise s).alk.events = s.alk.events ∧ (linkRise s).alk.lost = s.alk.lost ∧
    (linkRise s).alk.seconds = s.alk.seconds ∧ (linkRise s).alk.secondMs = s.alk.secondMs ∧
    (linkRise s).alk.attn = s.alk.attn ∧ (linkRise s).alk.alert = s.alk.alert := by
  simp [linkRise, alkRisen]

/-! ## CLEAR's removals (R166, R167) -/

/-- A row of removals records events and touches ALK alone. -/
theorem foldl_alkRecord (k : EventKind) (d : FaultEntry → Half) (l : List FaultEntry) (s : State) :
    ∃ a : Alk, l.foldl (fun t e => alkRecord k (d e) t) s = { s with alk := a } ∧
      a.items = s.alk.items ∧ a.committed = s.alk.committed ∧ a.seconds = s.alk.seconds ∧
      a.resetPending = s.alk.resetPending ∧ a.link = s.alk.link := by
  induction l generalizing s with
  | nil => exact ⟨s.alk, rfl, rfl, rfl, rfl, rfl, rfl⟩
  | cons e l ih =>
    obtain ⟨a, h, h1, h2, h3, h4, h5⟩ := ih (alkRecord k (d e) s)
    refine ⟨a, ?_, by simp [h1], by simp [h2], by simp [h3], by simp [h4], by simp [h5]⟩
    rw [List.foldl_cons, h]
    have : alkRecord k (d e) s = { s with alk := (alkRecord k (d e) s).alk } := by
      unfold alkRecord alkLines State.modAlk
      split_ifs <;> rfl
    rw [this]

/-- CLEAR removes the entries of the listed classes whose flag is gone, and keeps every other one in its place. -/
theorem prtRemove_faults (classes : List FaultClass) (s : State) :
    (prtRemove classes s).prt.faults.map FaultEntry.code =
      (s.prt.faults.filter fun e => !(classes.contains e.code.cls && !e.present)).map FaultEntry.code := by
  obtain ⟨a, h, -⟩ := foldl_alkRecord .faultRemoved (fun e => detail 0 e.code.code)
    (s.prt.faults.filter fun e => classes.contains e.code.cls && !e.present)
    (s.modPrt fun p => { p with faults := p.faults.filter fun e => !(classes.contains e.code.cls && !e.present) })
  simp only [prtRemove]
  rw [h]
  unfold drvMain drvLowGone
  split_ifs <;> simp [prtGone_faults, clearFlag]
  intros
  split_ifs <;> rfl

/-! ## Taking a whole event -/

/-- An event ends as its operation leaves it, or with the unlock travel that CYC asks for in TRIPPED (R13). -/
theorem takeEvent_cases (f : State → State) (s : State) :
    takeEvent f s = f s ∨
      takeEvent f s = lckUnlock (f s) ∧ (f s).cyc.phase = .tripped ∧ (f s).lck.state = .locked := by
  unfold takeEvent
  simp only
  split_ifs with h
  · unfold cycTrippedExam
    split_ifs with h2
    · refine .inr ⟨rfl, ?_⟩
      simp only [State.trippedRelease, Bool.and_eq_true, beq_iff_eq] at h2
      exact ⟨h2.1.1.1.1.1, h2.1.1.1.1.2⟩
    · exact .inl rfl
  · exact .inl rfl

theorem takeEvent_of_phase (f : State → State) (s : State) (h : (f s).cyc.phase ≠ .tripped) : takeEvent f s = f s := by
  rcases takeEvent_cases f s with h1 | ⟨-, h1, -⟩
  · exact h1
  · exact absurd h1 h

@[simp] theorem takeEvent_frame (f : State → State) (s : State) :
    (takeEvent f s).cyc = (f s).cyc ∧ (takeEvent f s).prf = (f s).prf ∧ (takeEvent f s).ramp = (f s).ramp ∧
    (takeEvent f s).tms = (f s).tms ∧ (takeEvent f s).reg = (f s).reg ∧ (takeEvent f s).bli = (f s).bli ∧
    (takeEvent f s).ptb = (f s).ptb ∧ (takeEvent f s).shr = (f s).shr ∧ (takeEvent f s).pending = (f s).pending ∧
    (takeEvent f s).draws = (f s).draws ∧ (takeEvent f s).alk.items = (f s).alk.items ∧
    (takeEvent f s).alk.committed = (f s).alk.committed ∧ (takeEvent f s).alk.seconds = (f s).alk.seconds ∧
    (takeEvent f s).alk.link = (f s).alk.link ∧ (takeEvent f s).alk.resetPending = (f s).alk.resetPending := by
  rcases takeEvent_cases f s with h | ⟨h, -⟩ <;> simp [h]

theorem onlyWhen_cases (p : State → State → Bool) (f : State → State) (s : State) :
    onlyWhen p f s = f s ∧ p s (f s) = true ∨ onlyWhen p f s = s ∧ p s (f s) = false := by
  unfold onlyWhen
  split_ifs with h
  · exact .inl ⟨rfl, h⟩
  · exact .inr ⟨rfl, by simpa using h⟩

end Sys2Proof.Machine
end

