-- ==== Sys2Proof/Laws/Timebase.lean ====
section
/-! SUPPORT. What a millisecond does to the bank line, and what it leaves. -/

namespace Sys2Proof.Machine

/-- A millisecond finds another station's frame under way as it left it (R110). -/
theorem tickLine_of_other {m : LineMs} {b : Bli} (h : b.frame = .other) : tickLine m b = b := by
  cases b
  simp_all [tickLine, Bli.runAfterMs, Bli.frameAfterMs, Bli.quietLine]

/-- All that a millisecond can do to the line: nothing, 20 bit times more, a restart, or a frame of another station. -/
theorem tickLine_cases (m : LineMs) (b : Bli) :
    tickLine m b = b ∨ tickLine m b = { b with releasedRun := b.releasedRun + 20, frame := .none } ∨
      (∃ run, m = .restarted run ∧ tickLine m b = { b with releasedRun := run, frame := .none }) ∨
      tickLine m b = { b with releasedRun := 0, frame := .other } := by
  by_cases h : b.quietLine
  · cases m <;> simp [tickLine, Bli.runAfterMs, Bli.frameAfterMs, h]
  · exact .inl (by simp [tickLine, Bli.runAfterMs, Bli.frameAfterMs, h])

/-- A restart leaves less than the millisecond's 20 bit times. -/
theorem freeLine_run_lt {k run : Nat} (h : freeLine k = .restarted run) : run < 20 := by
  unfold freeLine at h
  split at h
  · cases h
  · cases h; exact Nat.mod_lt _ (by decide)
  · cases h

/-- No attempt begins while another station's frame is on the line (R110). -/
theorem Bli.mayBegin_of_other {b : Bli} (h : b.frame = .other) : b.mayBegin = false := by
  simp [Bli.mayBegin, h]

@[simp] theorem tickLine_tx (m : LineMs) (b : Bli) : (tickLine m b).tx = b.tx := rfl
@[simp] theorem tickLine_reasons (m : LineMs) (b : Bli) : (tickLine m b).reasons = b.reasons := rfl
@[simp] theorem tickLine_backoff (m : LineMs) (b : Bli) : (tickLine m b).backoff = b.backoff := rfl
@[simp] theorem tickLine_attempt (m : LineMs) (b : Bli) : (tickLine m b).attempt = b.attempt := rfl
@[simp] theorem tickLine_output (m : LineMs) (b : Bli) : (tickLine m b).output = b.output := rfl
@[simp] theorem tickLine_errors (m : LineMs) (b : Bli) : (tickLine m b).errors = b.errors := rfl
@[simp] theorem tickLine_lineHeld (m : LineMs) (b : Bli) : (tickLine m b).lineHeld = b.lineHeld := rfl

@[simp] theorem advanceMs_pending (s : State) : (advanceMs s).pending = s.pending := rfl
@[simp] theorem advanceMs_draws (s : State) : (advanceMs s).draws = s.draws + 2 := rfl
@[simp] theorem advanceMs_tms (s : State) : (advanceMs s).tms = s.tms := rfl
@[simp] theorem advanceMs_prf (s : State) : (advanceMs s).prf = s.prf := rfl

end Sys2Proof.Machine
end

