-- ==== Sys2Proof/WellFormed.lean ====
section
/-! DEFINITION. Which commands and events the spec's interfaces can bring: the operands that each row can carry. `exec` has a
meaning for the others too. -/

namespace Sys2Proof

open Machine

/-- Received bytes that make no whole command yet (R170, R171): none, or a code with parameters still to come. -/
def partCommand (received : List Byte) : Bool := commandOf received == none

/-- A raw reading that the front end can give (R60). -/
def rawInSpan (raw : Int) : Bool := decide (-1000 ≤ raw ∧ raw ≤ 8000)

/-- A current sample within the sense input's full scale (section 12.5). -/
def sampleInScale (sample : Nat) : Bool := decide (sample ≤ 1023)

/-- The operands of a row are ones that the part's interfaces can bring. -/
def Instr.wellFormed : Instr → Bool
  | .badCommand code => !(commandCodes.contains code.toNat)
  | .csnRise received => partCommand received
  | .conversionCompletion _ raw => rawInSpan raw
  | .channelFailure _ raw => rawInSpan raw && classOf raw != .valid
  | .channelRecovery _ raw | .sensorDisagree raw | .disagreeConditionGone raw => classOf raw == .valid
  | .latchHot raw => rawInSpan raw
  | .zeroCross sample | .windowComplete sample | .elementOvercurrent sample | .driveStuck sample
  | .elementLow sample => sampleInScale sample
  | .frameReceived nbits _ _ | .unreliable nbits _ _ => decide (nbits ≤ 64)
  | .peerLapsed station => decide (1 ≤ station ∧ station ≤ 31)
  | .powerOnReset | .resetn | .readStatus | .readTemps | .readShare | .readPeer _ | .readCycle | .readFaults
  | .configPut _ _ | .configGet _ | .configCommit | .profileSeek _ _ | .profilePut _ | .profileGet | .start | .abort
  | .clear | .eventRead | .peerForget _ | .stationReset | .stationResetDone | .secondsTick | .cycleSecond | .coolSlow
  | .rampStep | .holdComplete | .segmentRestart | .heatTimeout | .slotTimeout | .heatingEvaluation
  | .coolingRuleExpiry | .switchEdge _ _ | .switchDebounced _ _ | .lockDriveExpiry | .seatEnd | .lockBackDriveEnd
  | .lockPauseEnd | .unlockDriveExpiry | .clearanceEnd | .unlockBackDriveEnd | .unlockPauseEnd | .blindCoolTick
  | .mainsSuspend | .mainsAbsent | .attemptBegin | .attemptLost | .attemptComplete | .periodExpiry
  | .departureTimeout | .lineHeld _ | .lineIdle | .silent | .listenExpiry | .claimSettle | .slotSettle
  | .slotBackoffExpiry | .glitch => true

end Sys2Proof
end

