-- ==== Sys2Proof/Tests/Slice0.lean ====
section
/-! SUPPORT. The model's own tests: ill-formed terms refused, the spec's worked examples one step at a time, and for each
statement with hypotheses a state that meets them. -/

namespace Sys2Proof.Tests

open Sys2Proof Sys2Proof.Machine

/-! ## Helpers -/

/-- The state after one command. -/
def after (c : Instr) (s : State) : State :=
  match exec c s with
  | .next t => t
  | .fault _ | .refused _ => State.reset

def chanAt (v : Int) : Chan where
  raw := v
  cls := .valid
  history := [v, v, v, v]
  filtered := v
  ready := true
  failed := false
  invalidRun := 0
  validRun := 0

def switchAt (v : Bool) : Switch where
  raw := v
  value := some v
  timer := none

/-- Items stored over a state's. -/
def stores (l : List (Item × Nat)) (s : State) : State :=
  l.foldl (fun t p => storeItem p.1 p.2 t) s

/-- The committed values of the examples of chapters 5, 6 and 9: station 3 of a bank with B = 400 and N = 4, the elements 80, 60,
100 with weights 2, 1, 1. -/
def items : List (Item × Nat) :=
  [(.station, 3), (.group, 2), (.n, 4), (.b, 400), (.i0, 80), (.i1, 60), (.i2, 100), (.w0, 2)]

def rampSeg (target : Nat) : Segment where
  kind := .ramp
  target := target
  burn := false
  rate := 600
  holdMin := 0
  restart := false

def holdSeg (target : Nat) : Segment where
  kind := .hold
  target := target
  burn := false
  rate := 0
  holdMin := 1
  restart := true

/-- A cold cavity in IDLE, committed, UNLOCKED, the door closed, with a RAMP to 3000 and a HOLD of a minute. -/
def bench : State :=
  let s := stores items State.reset
  { s with
    alk := { s.alk with committed := true, events := [], attn := false }
    tms := { s.tms with a := chanAt 230, b := chanAt 228, l := chanAt 250 }
    lck := { s.lck with state := .unlocked, startUp := false, door := switchAt true, latch := switchAt false }
    prf := { s.prf with table := (s.prf.table.set 0 (rampSeg 3000)).set 1 (holdSeg 3000) }
    bli := { s.bli with tx := .quiet, periodTimer := some 1000, silenceTimer := some 0 }
    shr := { s.shr with state := .sharing, solo := 100 } }

/-- The same cavity in HEATING, LOCKED, ramping with Ho = 85. -/
def hot : State :=
  let s := bench
  { s with
    cyc := { s.cyc with phase := .heating }
    lck := { s.lck with state := .locked, latch := switchAt true }
    tms := { s.tms with a := chanAt 2205, b := chanAt 2203 }
    ramp := { s.ramp with state := .ramping, sp := 2500, segStart := 230, stepTimer := some 0 }
    reg := { s.reg with limited := false, fan := 30, evalTimer := some 1000 }
    drv := { s.drv with main := true, permitted := true, state := .running, limited := false }
    shr := { s.shr with ho := 85, wo := 180, go := 85 } }

/-- In HEATING, in the hold at 3000. -/
def holding : State :=
  { hot with
    ramp := { hot.ramp with state := .holding, segIndex := 1, sp := 3000, holdTimer := 59 }
    tms := { hot.tms with a := chanAt 2990 } }

def inPhase (p : Phase) (s : State) : State := { s with cyc := { s.cyc with phase := p } }
def inLock (st : LockState) (g : Stage) (n : Nat) (s : State) : State :=
  { s with lck := { s.lck with state := st, stage := g, attempts := n } }
def latchAt (v : Bool) (s : State) : State := { s with lck := { s.lck with latch := switchAt v } }
def doorAt (v : Bool) (s : State) : State := { s with lck := { s.lck with door := switchAt v } }
def withFault (c : FaultCode) (present : Bool) (s : State) : State :=
  { s with prt := { s.prt with faults := s.prt.faults ++ [{ code := c, first := 0, present := present }] } }
def failedAt (v : Int) : Chan := { chanAt v with failed := true, history := [] }

/-- The window of section 6.4 at its last half-cycle. -/
def window (n0 n1 n2 : Nat) : Window where
  ho := 85
  ir := 240
  ig := 85
  n := { e0 := n0, e1 := n1, e2 := n2, e3 := 0 }

def atEnd (w : Window) (sum : Nat) (s : State) : State :=
  { s with drv := { s.drv with windowRunning := true, position := 63, window := w, sampleSum := sum } }

def peer (n : Nat) (held want claim : Nat) (slot : SlotState) (st : PeerState) : Peer where
  station := n
  state := st
  group := 2
  held := held
  want := want
  claim := claim
  slot := slot
  phase := .heating
  fallback := false
  lastKind := .periodic
  age := 0

def withPeers (l : List Peer) (s : State) : State :=
  { s with ptb := { s.ptb with records := l }, shr := { s.shr with sums := tableSums s.soloAllowance l } }

/-! ## WellFormed refuses each ill-formed operand -/

theorem test_wellFormed_known_code : Instr.wellFormed (.badCommand 0x30) = false := by decide
theorem test_wellFormed_whole_command : Instr.wellFormed (.csnRise [0x41, 0x03]) = false := by decide
theorem test_wellFormed_part_command : Instr.wellFormed (.csnRise [0x10, 0x01]) = true := by decide
theorem test_wellFormed_raw_span : Instr.wellFormed (.conversionCompletion .a 8001) = false := by decide
theorem test_wellFormed_failure_is_invalid : Instr.wellFormed (.channelFailure .b 7000) = false := by decide
theorem test_wellFormed_recovery_is_valid : Instr.wellFormed (.channelRecovery .b 7001) = false := by decide
theorem test_wellFormed_pair_is_valid : Instr.wellFormed (.sensorDisagree (-401)) = false := by decide
theorem test_wellFormed_gone_is_valid : Instr.wellFormed (.disagreeConditionGone 7001) = false := by decide
theorem test_wellFormed_hot_span : Instr.wellFormed (.latchHot (-1001)) = false := by decide
theorem test_wellFormed_sample_scale : Instr.wellFormed (.zeroCross 1024) = false := by decide
theorem test_wellFormed_frame_bits : Instr.wellFormed (.frameReceived 65 0 false) = false := by decide
theorem test_wellFormed_station : Instr.wellFormed (.peerLapsed 32) = false := by decide
theorem test_decode_rows_have_no_bits : decodeTableWord 16 0x30 = none := by decide

/-! ## Resets and reads (R176, R180; section 12.3) -/

theorem test_powerOn_list : (after .powerOnReset hot).alk.events = [{ kind := .powerUp, detail := 0, time := 0 }] := by decide
theorem test_resetn_cause : (after .resetn hot).alk.events = [{ kind := .powerUp, detail := 1, time := 0 }] := by decide
theorem test_stationReset_refused_in_heating : (after .stationReset hot).alk.link.answer = [0x02] := by decide
theorem test_stationReset_departs : (after .stationReset bench).bli.departureTimer = some 50 := by decide
theorem test_stationResetDone_after_departure :
    (after .stationResetDone { bench with alk := { bench.alk with
      resetPending := some { csnRisen := true, departure := .sent } } }).alk.events =
      [{ kind := .powerUp, detail := 2, time := 0 }] := by decide
/-- R176: a reset inside a transaction cuts SDO off until CSN rises. -/
theorem test_reset_in_transaction :
    let s := after .resetn (after .readStatus bench)
    s.alk.link.sdo 0 = none ∧ (after .readStatus (after (.csnRise []) s)).alk.link.sdo 0 = some 0 := by decide
/-- R170, section 12.3: code 04h and its parameter, the turnaround, EMPTY after them. -/
theorem test_transaction_bytes :
    commandOf [0x04, 0x00] = some (.readPeer 0) ∧ commandOf [0x10, 0x10, 0x13] = none ∧
      (List.range 4).map (after (.readPeer 0) bench).alk.link.sdo = [some 0, some 0, some 0, some 0x0C] := by decide
theorem test_status_at_reset :
    (after .readStatus State.reset).alk.link.answer.take 6 = [0x00, 0x00, 0x00, 0x00, 0x00, 0x00] := by decide
theorem test_temps_of_bench : (after .readTemps bench).alk.link.answer.take 8 = [0x00, 0x00, 0xE6, 0x00, 0xE6, 0x00, 0x01, 0x00] := by
  decide
theorem test_share_of_bench : (after .readShare bench).alk.link.answer.take 6 = [0x00, 0x02, 0x00, 0x00, 0x00, 0x64] := by decide
theorem test_peer_empty : (after (.readPeer 0) bench).alk.link.answer.take 2 = [0x0C, 0x00] := by decide
theorem test_cycle_peak_at_reset : ((after .readCycle State.reset).alk.link.answer.drop 9).take 2 = [0xFE, 0x70] := by decide
theorem test_faults_one_entry :
    (after .readFaults (withFault .doorForced true bench)).alk.link.answer.take 10 =
      [0x00, 0x01, 0x00, 0x00, 0x00, 0x07, 0x00, 0x00, 0x00, 0x01] := by decide

/-! ## Configuration, profile and cycle commands -/

theorem test_put_above_range : (after (.configPut 16 5001) State.reset).stored .tmax = 5000 := by decide
/-- 00_scope: temperatures are signed; section 12.3: two's complement. -/
theorem test_put_negative : (after (.configPut 16 0x8000) State.reset).stored .tmax = 4000 := by decide
theorem test_put_frozen : (after (.configPut 16 4900) bench).alk.link.answer = [0x05] := by decide
theorem test_get_default_tmax : (after (.configGet 16) State.reset).alk.link.answer = [0x00, 0x12, 0xC0] := by decide
theorem test_commit_unset_station : (after .configCommit State.reset).alk.link.answer = [0x06, 0x00] := by decide
theorem test_commit_listens : (after .configCommit (stores items State.reset)).shr.state = .listening true := by decide
/-- Section 2.3, steps 2 to 4. -/
theorem test_put_record_two :
    (after (.profilePut 60) (after (.profilePut 5200) (after (.profilePut 0x6000) (after (.profileSeek 2 0) bench)))).segmentAt 2 =
      { kind := .ramp, target := 5000, burn := true, rate := 60, holdMin := 0, restart := false } := by decide
/-- Section 2.3, step 3. -/
theorem test_put_clamped :
    (after (.profilePut 5200) (after (.profilePut 0x6000) (after (.profileSeek 2 0) bench))).alk.link.answer = [0x01] := by decide
theorem test_seek_index : (after (.profileSeek 16 0) bench).alk.link.answer = [0x0E] := by decide
theorem test_get_first_word : (after .profileGet (after (.profileSeek 0 1) bench)).alk.link.answer = [0x00, 0x40, 0x00] := by decide
theorem test_start_locks : (after .start bench).lck.state = .locking := by decide
theorem test_start_hold_first :
    (after .start { bench with prf := { bench.prf with table := bench.prf.table.set 0 (holdSeg 3000) } }).alk.link.answer =
      [0x07, 0x00] := by decide
theorem test_abort_cools : (after .abort hot).cyc.phase = .cooling := by decide
theorem test_abort_in_idle : (after .abort bench).alk.link.answer = [0x02] := by decide
/-- Section 3.6's example: CLEAR before the test passes. -/
theorem test_clear_refused : (after .clear (inPhase .tripped (withFault .lockLost true bench))).alk.link.answer = [0x0A] := by decide
theorem test_clear_to_idle : (after .clear (inPhase .tripped (withFault .lockLost false bench))).cyc.phase = .idle := by decide
theorem test_eventRead_empties : (after .eventRead State.reset).alk.attn = false := by decide
theorem test_eventRead_record :
    (after .eventRead State.reset).alk.link.answer = [0x00, 0x00, 0x01, 0x00, 0x00, 0x00, 0x00, 0x00, 0x00] := by decide
theorem test_forget_live : (after (.peerForget 4) (withPeers [peer 4 60 60 0 .none .live] bench)).alk.link.answer = [0x0E] := by
  decide
theorem test_forget_lapsed : (after (.peerForget 4) (withPeers [peer 4 60 60 0 .none .lapsed] bench)).ptb.records = [] := by decide
theorem test_badCommand : (after (.badCommand 0x7F) bench).alk.link.answer = [0x0D] := by decide
theorem test_csnRise_ends : (after (.csnRise [0x10]) (after .readCycle bench)).alk.link.csnLow = false := by decide

/-! ## Seconds, the ramp engine and the regulator -/

theorem test_seconds_wrap : (after .secondsTick { bench with alk := { bench.alk with seconds := 65535 } }).alk.seconds = 0 := by
  decide
theorem test_cycle_second : (after .cycleSecond hot).cyc.record.heatingTime = 1 := by decide
theorem test_cool_slow :
    (after .coolSlow { inPhase .cooling bench with cyc := { bench.cyc with phase := .cooling, coolingTime := 14399 } }).alk.events =
      [{ kind := .coolSlow, detail := 0, time := 0 }] := by decide
/-- Section 2.8, the lag table, step n. -/
theorem test_ramp_moves : (after .rampStep hot).ramp.sp = 2510 := by decide
/-- Section 2.8, the lag table, step n+1. -/
theorem test_ramp_stalls :
    (after .rampStep { hot with ramp := { hot.ramp with sp := 2510 }, tms := { hot.tms with a := chanAt 2209 } }).ramp.sp = 2510 := by
  decide
theorem test_hold_completes : (after .holdComplete holding).cyc.record.outcome = .completed := by decide
/-- Section 2.11, second 101. -/
theorem test_hold_restarts :
    (after .segmentRestart { holding with
      ramp := { holding.ramp with dropRun := 59 }, tms := { holding.tms with a := chanAt 2890 } }).ramp.holdTimer = 0 := by decide
/-- R36: 2 × 2770 × 60 / 600 + 1800 = 2354. -/
theorem test_heat_timeout :
    (after .heatTimeout { hot with ramp := { hot.ramp with segTimer := 2354 } }).cyc.record.firstFault = some .heatTimeout := by decide
theorem test_heat_not_late :
    (after .heatTimeout { hot with ramp := { hot.ramp with segTimer := 2353 } }).cyc.phase = .heating := by decide
/-- R40 with Ws = 240. -/
theorem test_slot_timeout :
    (after .slotTimeout { hot with ramp := { hot.ramp with state := .waitingSlot, slotWait := 14399 } }).cyc.record.outcome =
      .faultAborted := by decide

/-- Section 5.3's evaluation: e = 80, I = 300. -/
def evaluated : State :=
  after .heatingEvaluation { hot with
    ramp := { hot.ramp with sp := 4200 }, tms := { hot.tms with a := chanAt 4120 }, reg := { hot.reg with integral := 300 } }

theorem test_evaluation_demand : evaluated.reg.demand = 510 := by decide
theorem test_evaluation_want : evaluated.shr.wo = 123 := by decide
/-- R87: a fall of 20 in 30 s is 4.0 °C a minute, below Rc − 5. -/
theorem test_cooling_rule_speeds_up :
    (after .coolingRuleExpiry { inPhase .cooling hot with
      reg := { hot.reg with coolTimer := some 0, base := some (.a, 2225) } }).reg.ruleLevel = 70 := by decide

/-! ## The lock (section 3.4's example) -/

theorem test_switch_edge : (after (.switchEdge .latch true) bench).lck.latch.timer = some 50 := by decide
theorem test_debounced_engaged_at_start_up : (after (.switchDebounced .latch true) State.reset).cyc.phase = .held := by decide
theorem test_forced_door :
    (after (.switchDebounced .door false) (inPhase .cooling (inLock .locked .none 0 hot))).lck.state = .jammed := by decide
theorem test_drive_expiry_backs :
    (after .lockDriveExpiry (inPhase .locking (inLock .locking .lockDrive 1 bench))).lck.stageTimer = some 6000 := by decide
/-- R52: the second drive expires just as the engagement has held 50 ms. -/
def met : State :=
  after .lockDriveExpiry (inPhase .locking (inLock .locking .lockDrive 2 { bench with
    lck := { bench.lck with latch := { raw := true, value := some false, timer := some 0 } } }))

theorem test_met_engagement : (met.lck.state, met.lck.carried, met.cyc.phase) = (.jammed, true, .cooling) := by decide
theorem test_seat_end_heats : (after .seatEnd (latchAt true (inPhase .locking (inLock .locking .seat 2 bench)))).cyc.phase = .heating := by
  decide
theorem test_lock_back_drive : (after .lockBackDriveEnd (inLock .locking .lockBackDrive 1 bench)).lck.stageTimer = some 500 := by decide
theorem test_lock_pause : (after .lockPauseEnd (inLock .locking .lockPause 1 bench)).lck.travelTimer = some 6000 := by decide
theorem test_unlock_expiry_jams :
    (after .unlockDriveExpiry (latchAt true (inPhase .unlocking (inLock .unlocking .unlockDrive 2 bench)))).cyc.phase = .tripped := by
  decide
theorem test_clearance_idle : (after .clearanceEnd (inPhase .unlocking (inLock .unlocking .clearance 1 bench))).cyc.phase = .idle := by
  decide
theorem test_unlock_back_drive : (after .unlockBackDriveEnd (inLock .unlocking .unlockBackDrive 1 bench)).lck.motor = .off := by decide
theorem test_unlock_pause :
    (after .unlockPauseEnd (latchAt true (inPhase .unlocking (inLock .unlocking .unlockPause 1 bench)))).lck.attempts = 2 := by decide
/-- The unlock-test table of section 3.3, Tu = 2500. -/
theorem test_unlock_both_fails : { bench with tms := { bench.tms with a := chanAt 2470, b := chanAt 2512 } }.unlockTest = false := by
  decide
theorem test_unlock_one_passes : { bench with tms := { bench.tms with a := chanAt 2199, b := failedAt 0 } }.unlockTest = true := by decide

/-! ## Temperature (section 4.4's example) and the blind count -/

theorem test_filter_drops_oldest :
    (after (.conversionCompletion .a 2425) { bench with
      tms := { bench.tms with a := { chanAt 2416 with history := [2410, 2414, 2419, 2421] } } }).tms.a.filtered = 2419 := by decide
/-- The open sensor of section 4.4 is bridged; B does not convert before A (R60). -/
theorem test_bad_reading_held :
    let s : State := { bench with tms := { bench.tms with a := chanAt 2416 } }
    (after (.conversionCompletion .a 8000) s).tms.a.filtered = 2416 ∧ (after (.conversionCompletion .a 8000) s).tms.due = .b ∧
      after (.conversionCompletion .b 900) s = s := by decide
theorem test_fourth_bad_fails :
    (after (.channelFailure .a 8000) { bench with
      tms := { bench.tms with a := { chanAt 2419 with invalidRun := 3 } } }).prt.faults =
      [{ code := .sensorAFail, first := 0, present := true }] := by decide
theorem test_recovers_with_mean :
    (after (.channelRecovery .a 2437) { bench with
      tms := { bench.tms with a := { failedAt 2419 with history := [2433, 2434, 2436], validRun := 3 } } }).tms.a.filtered = 2435 := by
  decide
theorem test_disagree_trips :
    (after (.sensorDisagree 4350) (inPhase .heating { hot with
      tms := { hot.tms with due := .b, a := chanAt 4700, b := chanAt 4355, disagreeCount := 9 } })).cyc.phase = .tripped := by decide
theorem test_disagree_gone :
    (after (.disagreeConditionGone 4404) { bench with
      tms := { bench.tms with due := .b, a := chanAt 4702, b := chanAt 4404, agreeCount := 9, disagreePresent := true } }).tms.disagreePresent =
      false := by decide
theorem test_latch_hot :
    (after (.latchHot 1236) { hot with tms := { hot.tms with due := .l, l := chanAt 1230, hotRun := 49 } }).cyc.phase = .tripped := by decide
theorem test_blind_second :
    (after .blindCoolTick { bench with prt := { bench.prt with blindRunning := true, blindCount := 7199 } }).prt.blindCount = 7200 := by
  decide

/-! ## The element drive (sections 6.4, 6.6, 6.9) -/

/-- Section 6.4 with Ho = 85 and D = 1000. -/
theorem test_window_counts : (hot.onCounts 85).toList = [34, 17, 17, 0] := by decide
/-- Section 6.6: the shed to 60 truncates the window. -/
theorem test_zeroCross_truncates :
    (after (.zeroCross 0) { hot with
      reg := { hot.reg with demand := 1000 }, shr := { hot.shr with ho := 60 },
      drv := { hot.drv with windowRunning := true, position := 20, window := window 34 17 17 } }).drv.window.n.toList =
      [24, 12, 12, 0] := by decide
theorem test_window_expected : (after (.windowComplete 85) (atEnd (window 34 17 17) 5355 hot)).drv.lastExpected = 85 := by decide
/-- Section 6.9: measured 140 against a limit of 137. -/
theorem test_overcurrent_trips :
    (after (.elementOvercurrent 140) { atEnd (window 44 22 22) 8880 hot with
      drv := { (atEnd (window 44 22 22) 8880 hot).drv with overRun := 2 } }).drv.main = false := by decide
theorem test_drive_stuck :
    (after (.driveStuck 11) { atEnd (window 0 0 0) 693 hot with
      drv := { (atEnd (window 0 0 0) 693 hot).drv with stuckRun := 2 } }).cyc.phase = .tripped := by decide
/-- Section 6.9, window 13: measured 20 against 110. -/
theorem test_element_low :
    (after (.elementLow 20) { atEnd (window 44 22 22) 1300 hot with
      drv := { (atEnd (window 44 22 22) 1300 hot).drv with lowRun := 7 } }).prt.faults =
      [{ code := .elementLow, first := 0, present := true }] := by decide
theorem test_suspend : (after .mainsSuspend hot).drv.limited = true := by decide
theorem test_mains_absent :
    (after .mainsAbsent { hot with drv := { hot.drv with state := .suspended } }).cyc.record.outcome = .faultAborted := by decide

/-- R103: a cleaning that begins with the mains still absent, MAINS_ABSENT present from the one before. -/
theorem test_mains_absent_again :
    (after .mainsAbsent (withFault .mainsAbsent true { hot with drv := { hot.drv with state := .suspended } })).cyc.phase =
      .cooling := by decide

/-! ## The bank line, peers and sharing -/

/-- WAITING with the reasons `r`, the line idle since 12 bit times. -/
def waiting (r : BitVec 7) (s : State) : State := { s with bli := { s.bli with tx := .waiting, reasons := r, releasedRun := 12 } }

/-- The attempt of section 7.11, begun with CLAIM and SLOT pending. -/
def attempt2 : Attempt where
  frame := { word := 1, station := 3, group := 2, kind := .claim, held := 40, want := 180, claim := 45, slot := .claim,
             phase := .heating, fallback := false }
  check := 0
  sent := 0x22

/-- Section 7.11 at 8.30 ms: PERIODIC came during the attempt. -/
def sent2 : State :=
  after .attemptComplete { hot with
    bli := { hot.bli with tx := .sending, attempt := some attempt2, reasons := 0x23 }
    shr := { hot.shr with ho := 40, co := 45, claim := .announcing, slot := .claim, request := .claiming } }

theorem test_attempt_begin : (after .attemptBegin (waiting 0x22 hot)).bli.tx = .sending := rfl
/-- R110: the back-off is waited out as well. -/
theorem test_attempt_waits_backoff :
    (after .attemptBegin { waiting 0x22 hot with bli := { (waiting 0x22 hot).bli with backoff := 4 } }).bli.tx = .waiting := by decide
/-- R110: the wait does not run while another station's frame is on the line. -/
theorem test_attempt_waits_frame :
    let b := (waiting 1 hot).bli
    (tickLine .frameBegun b).mayBegin = false ∧ (tickLine .released (tickLine .frameBegun b)).mayBegin = false ∧
      (tickLine .released b).mayBegin = true ∧ (tickLine (.restarted 11) b).mayBegin = false := by decide
theorem test_attempt_lost :
    (after .attemptLost { hot with bli := { hot.bli with tx := .sending, attempt := some attempt2, reasons := 2 } }).bli.reasons = 2 := by
  decide
theorem test_attempt_complete_reasons : sent2.bli.reasons = 1 := by decide
theorem test_attempt_complete_timers : (sent2.shr.claimTimer, sent2.shr.settleTimer) = (some 300, some 300) := by decide
theorem test_period : (after .periodExpiry hot).bli.tx = .waiting := by decide
theorem test_departure_timeout :
    (after .departureTimeout { bench with
      bli := { bench.bli with departureTimer := some 0 }
      alk := { bench.alk with resetPending := some { csnRisen := false, departure := .waiting } } }).alk.resetPending =
      some { csnRisen := false, departure := .notSent } := by decide

/-- Section 7.6's SHED frame of station 2, its 64 bits and check written out. -/
def shedOf2 : BitVec 64 := 0x011131E0C8002468#64

/-- Section 8.5 at 1.20 s, before station 1 holds anything. -/
theorem test_frame_sums :
    (after (.frameReceived 64 shedOf2 false)
      (withPeers [peer 1 0 0 0 .none .live, peer 4 60 60 0 .none .live] bench)).shr.sums =
      { held := 180, want := 260, claim := 0, holders := 1 } := by decide +kernel
/-- A wrong check counts; the own number (section 7.11) conflicts where the own station lost on the frame, and not where it
completed it (R117). -/
theorem test_frame_classes :
    let took (f : LineFrame) := after (.frameReceived 64 0x5A1910A0B40B54E7#64 true) { bench with bli := { bench.bli with frame := f } }
    (after (.frameReceived 64 (shedOf2 ^^^ 1#64) false) bench).bli.errors = 1 ∧
      (took .other).bli.numberConflict = true ∧ (took .own).bli.numberConflict = false := by decide +kernel
/-- Section 7.9, frame 6. -/
theorem test_unreliable :
    (after (.unreliable 20 0 false) { hot with bli := { hot.bli with errors := 23 } }).shr.state = .fallback := by decide
theorem test_line_held : (after (.lineHeld false) hot).bli.lineHeld = true := by decide
theorem test_tx_stuck : (after (.lineHeld true) hot).bli.tx = .stopped := by decide
theorem test_line_idle : (after .lineIdle { hot with bli := { hot.bli with lineHeld := true } }).bli.lineHeld = false := by decide
theorem test_silent : (after .silent hot).shr.causes = 2 := by decide
/-- Section 8.5 at 5.35 s. -/
theorem test_lapse_sums :
    (after (.peerLapsed 4) (withPeers [peer 1 150 150 0 .none .live, peer 2 120 200 0 .hold .live,
      peer 4 60 60 0 .none .live] bench)).shr.sums = { held := 370, want := 450, claim := 0, holders := 1 } := by decide
theorem test_listen_expiry :
    (after .listenExpiry { bench with shr := { bench.shr with state := .listening true, listenTimer := some 0 } }).shr.state =
      .sharing := by decide

/-- Section 9.4: station 3 settles, having heard station 2 at `claim2`. -/
def settled (claim2 : Nat) : State :=
  after .claimSettle (withPeers [peer 1 95 150 0 .none .live, peer 2 120 200 claim2 .none .live, peer 4 60 60 0 .none .lapsed]
    { hot with shr := { hot.shr with ho := 40, co := 45, claim := .settling, claimTimer := some 0 } })

theorem test_claim_settles : (settled 0).shr.ho = 85 := by decide
theorem test_claim_settles_late : (settled 6).shr.ho = 79 := by decide

def claiming (holders : Nat) : State :=
  { hot with
    ramp := { hot.ramp with state := .waitingSlot, slotFlag := .requested }
    shr := { hot.shr with slot := .claim, request := .claiming, settleTimer := some 0,
                          sums := { hot.shr.sums with holders := holders } } }

theorem test_slot_settles : (after .slotSettle (claiming 0)).shr.valve = true := by decide
theorem test_slot_given_back : (after .slotSettle (claiming 1)).shr.request = .backingOff := rfl
theorem test_backoff_ends :
    (after .slotBackoffExpiry { hot with shr := { hot.shr with request := .backingOff, backoffTimer := some 0 } }).shr.slot =
      .claim := by decide
theorem test_glitch : (after .glitch { hot with bli := { hot.bli with releasedRun := 9 } }).bli.releasedRun = 0 := by decide

/-! ## A state that meets the hypotheses of each statement, clause by clause -/

def queued : State := hot.setPending [.rampStep]

theorem witness_StepTakesTheFront : State.reset.pending = [] ∧ (advanceMs State.reset).dueRows = [] := by decide
theorem queued_runs : ∃ t, step queued = .next t := ⟨_, rfl⟩
theorem witness_ListLawKept : queued.listSafe ∧ ∃ t, step queued = .next t := ⟨by decide, queued_runs⟩
theorem witness_HeatLawKept : queued.heatSafe ∧ queued.drv.main = true ∧ ∃ t, step queued = .next t :=
  ⟨by decide, by decide, queued_runs⟩
theorem witness_FaultLawKept : queued.faultSafe ∧ ∃ t, step queued = .next t := ⟨by decide, queued_runs⟩
theorem witness_WindowLawKept : queued.windowSafe ∧ ∃ t, step queued = .next t := ⟨by decide, queued_runs⟩
theorem witness_FanLawKept : queued.fanSafe ∧ ∃ t, step queued = .next t := ⟨by decide, queued_runs⟩
theorem witness_SlotLawKept : queued.slotSafe ∧ ∃ t, step queued = .next t := ⟨by decide, queued_runs⟩
theorem witness_ShareLawKept : queued.shareSafe ∧ ∃ t, step queued = .next t := ⟨by decide, queued_runs⟩
theorem witness_PeerLawKept : queued.peerSafe ∧ ∃ t, step queued = .next t := ⟨by decide, queued_runs⟩
theorem witness_BankFrameRoundTrip :
    ∃ f : Frame, f.word = 255 ∧ f.station = 31 ∧ f.group = 15 ∧ f.held = 1023 ∧ f.want = 1023 ∧ f.claim = 1023 :=
  ⟨{ word := 255, station := 31, group := 15, kind := .depart, held := 1023, want := 1023, claim := 1023, slot := .hold,
     phase := .held, fallback := true }, rfl, rfl, rfl, rfl, rfl, rfl⟩
theorem witness_ResetsReturnEveryBlock :
    (Instr.resetn, ResetCause.resetn) ∈ [(Instr.powerOnReset, ResetCause.powerOn), (.resetn, .resetn)] := by decide
theorem witness_StationResetAsked :
    bench.alk.resetPending = none ∧ bench.cyc.phase = .idle ∧ bench.lck.state = .unlocked ∧ bench.alk.committed = true := by decide
theorem witness_StationResetCarriedOut :
    ∃ s : State, s.alk.resetPending = some { csnRisen := true, departure := .notAsked } :=
  ⟨{ bench with alk := { bench.alk with resetPending := some { csnRisen := true, departure := .notAsked } } }, rfl⟩
theorem witness_ReadsAnswer : (withFault .lockLost true bench).prt.faults.length ≤ 18 := by decide
/-- One below the low end, the low end, the high end and one above it, for Tmax; and the last item. -/
theorem witness_ConfigPutStores :
    State.reset.alk.resetPending = none ∧ State.reset.alk.committed = false ∧ Item.ofNumber? 16 = some .tmax ∧
      Item.tmax.range = (4000, 5000) ∧ Item.ofNumber? 33 = some .routeFault ∧ Item.ofNumber? 34 = none := by decide
theorem witness_ConfigCommitFreezes :
    let s := stores items State.reset
    s.alk.resetPending = none ∧ s.shr.causes = 0 ∧ s.stored .station = 3 ∧ s.stored .i0 + s.stored .i1 + s.stored .i2 = 240 ∧
      10 * s.stored .n ≤ s.stored .b ∧ s.stored .tu + 1000 ≤ s.stored .tmax ∧ s.stored .tb < s.stored .tmax ∧
      State.reset.stored .station = 0 := by decide
theorem witness_WaitingResetRefuses :
    commandActs .start = true ∧ (after .stationReset bench).alk.resetPending ≠ none := by decide
theorem witness_SeekSetsThePointer : bench.alk.resetPending = none := rfl
theorem witness_PutRefusals :
    (after (.profileSeek 0 1) bench).prf.mode = .read ∧ (after (.profileSeek 0 1) bench).alk.resetPending = none ∧
      hot.alk.resetPending = none ∧ hot.cyc.phase ≠ .idle ∧
      { bench with prf := { bench.prf with index := 16 } }.prf.index = 16 := by decide
theorem witness_PutsWriteARecord :
    let s := after (.profileSeek 15 0) bench
    s.alk.resetPending = none ∧ s.cyc.phase = .idle ∧ s.prf.mode = .write ∧ s.prf.wordPhase = 0 ∧ s.prf.index = 15 := by decide
theorem witness_StartRefusals_configuration :
    State.reset.alk.resetPending = none ∧ State.reset.alk.committed = false := by decide
theorem witness_StartRefusals_phase_and_door :
    hot.alk.committed = true ∧ hot.cyc.phase ≠ .idle ∧ (doorAt false bench).lck.door.value ≠ some true := by decide
theorem witness_StartRefusals_channels_and_faults :
    { bench with tms := { bench.tms with l := failedAt 250 } }.tms.l.standing ≠ .valid ∧
      (withFault .overtemp false bench).hasTrip = true := by decide
set_option synthInstance.maxSize 2000 in
set_option synthInstance.maxHeartbeats 200000 in
/-- A hold that does not repeat its target, index 1: the smallest blamed one. -/
theorem witness_StartRefusals_profile :
    let s : State := { bench with prf := { bench.prf with table := bench.prf.table.set 1 (holdSeg 2999) } }
    s.blames 1 ∧ ∀ m < 1, ¬ s.blames m := by decide
set_option synthInstance.maxSize 2000 in
set_option synthInstance.maxHeartbeats 200000 in
theorem witness_StartLocks :
    bench.alk.resetPending = none ∧ bench.alk.committed = true ∧ bench.cyc.phase = .idle ∧
      bench.lck.door.value = some true ∧ bench.lck.state = .unlocked ∧ bench.lck.startUp = false ∧
      (bench.tms.a.standing = .valid ∧ bench.tms.b.standing = .valid ∧ bench.tms.l.standing = .valid) ∧
      bench.tms.a.cls = .valid ∧ bench.hasTrip = false ∧ ∀ n ≤ 16, ¬ bench.blames n := by decide
theorem witness_AbortEndsHeating :
    hot.alk.resetPending = none ∧ hot.cyc.phase = .heating ∧ (inPhase .locking bench).cyc.phase = .locking := by decide
theorem witness_ClearInTripped :
    let s := inPhase .tripped (withFault .lockLost false hot)
    s.alk.resetPending = none ∧ s.cyc.phase = .tripped ∧ s.travelling = false ∧ s.hasTripPresent = false := by decide
theorem witness_ClearElsewhere :
    (withFault .elementLow true hot).alk.resetPending = none ∧ (withFault .elementLow true hot).cyc.phase ≠ .tripped ∧
      (withFault .elementLow true hot).heatSafe := by decide
theorem witness_PeerForgetRemoves : bench.alk.resetPending = none := rfl
theorem witness_SecondsAreCounted :
    let s : State := { bench with cyc := { bench.cyc with phase := .cooling, coolingTime := 14399 } }
    s.cyc.phase = .cooling ∧ s.cyc.coolingTime = 14399 ∧ s.cyc.coolSlowRaised = false ∧ s.routing .cycle ≠ 0 ∧
      s.alk.events.length < 32 := by decide

/-- The ramp of section 2.8's end: target 3000, SP 2999, rate 80, accumulator 40, with A at `a`. -/
def nearTarget (sp a : Int) : State :=
  { hot with
    prf := { hot.prf with table := hot.prf.table.set 0 { rampSeg 3000 with rate := 80 } }
    ramp := { hot.ramp with sp := sp, frac := 40 }
    tms := { hot.tms with a := chanAt a } }

theorem witness_RampStepMoves_stall :
    hot.ramp.state = .ramping ∧ hot.ramp.segTimer < rampLimit 3000 hot.ramp.segStart hot.segment.rate ∧
      hot.ramp.up = true ∧ (hot.cfg .lg : Int) < 2510 - 2209 ∧ ¬ (hot.cfg .lg : Int) < 2500 - 2205 := by decide
theorem witness_RampStepMoves_short : (40 + 80) / 60 < ((3000 : Int) - (nearTarget 2997 2961).ramp.sp).natAbs := by decide
theorem witness_RampStepMoves_waits :
    ((3000 : Int) - (nearTarget 2998 2949).ramp.sp).natAbs ≤ (40 + 80) / 60 ∧ 2949 < (3000 : Int) - (nearTarget 2998 2949).cfg .ab := by
  decide
theorem witness_RampStepMoves_completes :
    let s := nearTarget 2999 2950
    s.segment.target = 3000 ∧ (s.ramp.frac + s.segment.rate) / 60 = 2 ∧ (3000 : Int) - s.cfg .ab ≤ s.tms.a.filtered ∧
      s.cyc.phase = .heating ∧ s.ramp.slotFlag = .none ∧ (s.segmentAt 1).burn = false ∧ (s.segmentAt 1).kind = .hold := by decide
/-- R34: SP on the target, Ab = 60 and Lg = 50, A 55 below: the step stalls, and the segment completes all the same. -/
theorem witness_RampStepMoves_stalled_arrival :
    let s := stores [(.ab, 60), (.lg, 50)] (nearTarget 3000 2945)
    (s.ramp.up && decide ((s.cfg .lg : Int) < s.ramp.sp - s.tms.a.filtered)) = true ∧ s.ramp.sp = s.segment.target ∧
      (3000 : Int) - s.cfg .ab ≤ s.tms.a.filtered ∧ (2939 : Int) < 3000 - s.cfg .ab := by decide
/-- A burn-flagged hold follows, in SHARING with one slot free. -/
theorem witness_RampStepMoves_asks :
    let s := nearTarget 2999 2950
    let b : State := { s with prf := { s.prf with table := s.prf.table.set 1 { holdSeg 3000 with burn := true } } }
    b.cyc.phase = .heating ∧ (b.segmentAt 1).burn = true ∧ (b.segmentAt 1).kind = .hold ∧ b.shr.state = .sharing ∧ b.shr.request = .none ∧
      b.shr.slot = .none ∧ b.shr.sums.holders < b.cfg .k := by decide
/-- At the band's edge the second counts and the hold is one short; one tenth below it the drop run advances to 59. -/
theorem witness_RampStepMoves_holds :
    let s : State := { holding with
      ramp := { holding.ramp with holdTimer := 58, dropRun := 58 }, tms := { holding.tms with a := chanAt 2920 } }
    (s.tms.a.filtered - s.segment.target).natAbs = s.cfg .hb ∧ satSucc 65535 s.ramp.holdTimer < s.segment.holdMin * 60 ∧
      (2919 : Int) < (s.segment.target : Int) - s.cfg .hb ∧ ¬ 59 ≤ s.ramp.dropRun := by decide
theorem witness_RampStepMoves_waiting :
    let s : State := { hot with ramp := { hot.ramp with state := .waitingSlot, slotWait := 14398 } }
    s.ramp.state = .waitingSlot ∧ s.ramp.slotWait + 1 ≠ s.cfg .ws * 60 := by decide
theorem witness_HoldCompletes :
    holding.cyc.phase = .heating ∧ holding.ramp.state = .holding ∧ satSucc 65535 holding.ramp.holdTimer = 60 ∧
      (holding.tms.a.filtered - holding.segment.target).natAbs ≤ holding.cfg .hb ∧ holding.segment.holdMin * 60 = 60 ∧
      holding.ramp.dropRun = 0 ∧ (holding.segmentAt 2).kind = .endRec := by decide
theorem witness_HoldRestarts :
    let s : State := { holding with ramp := { holding.ramp with dropRun := 59 }, tms := { holding.tms with a := chanAt 2919 } }
    s.ramp.state = .holding ∧ s.segment.restart = true ∧ s.ramp.dropRun = 59 ∧
      s.tms.a.filtered < (s.segment.target : Int) - s.cfg .hb ∧ s.routing .cycle ≠ 0 ∧ s.alk.events.length < 32 := by decide
theorem witness_TimeoutsAbortHeating_heat :
    let s : State := { hot with ramp := { hot.ramp with segTimer := 2354 } }
    s.cyc.phase = .heating ∧ s.ramp.state = .ramping ∧ min 3000 (s.ramp.sp + (0 + 600) / 60) ≠ 3000 ∧
      rampLimit 3000 s.ramp.segStart s.segment.rate < satSucc 65535 s.ramp.segTimer ∧ s.drv.limited = false ∧
      s.ramp.heatTimeoutRaised = false ∧ ¬ s.holdsFault .heatTimeout true := by decide
theorem witness_TimeoutsAbortHeating_slot :
    let s : State := { hot with ramp := { hot.ramp with state := .waitingSlot, slotWait := 14399 } }
    s.cyc.phase = .heating ∧ s.ramp.slotWait + 1 = s.cfg .ws * 60 ∧ ¬ s.holdsFault .slotTimeout true := by decide
theorem witness_EvaluationSetsDemand :
    hot.cyc.phase = .heating ∧ (295 : Int) = max (-2000) (min 2000 (hot.ramp.sp - hot.tms.a.filtered)) ∧
      (737 : Int) = ((hot.cfg .kp : Int) * 295).tdiv 16 ∧ (36 : Int) = ((hot.cfg .ki : Int) * 295).tdiv 64 ∧
      (36 : Int) = max 0 (min 1000 (hot.reg.integral + 36)) := by decide
theorem witness_CoolingRuleMeasures : { hot with reg := { hot.reg with coolTimer := some 0 } }.reg.coolTimer.isSome = true := rfl
theorem witness_DebouncedValuesAct_first :
    State.reset.lck.startUp = true ∧ State.reset.lck.latch.value = none ∧ State.reset.cyc.phase = .idle := by decide
theorem witness_DebouncedValuesAct_seat :
    let s := inLock .locking .lockDrive 1 bench
    s.lck.startUp = false ∧ s.lck.state = .locking ∧ s.lck.stage = .lockDrive ∧ s.latchEngaged = false := by decide
theorem witness_DebouncedValuesAct_held_door :
    hot.lck.startUp = false ∧ hot.latchEngaged = true ∧ hot.lck.state = .locked ∧ hot.lck.stage = .none ∧
      hot.lck.testPass = false ∧ hot.doorOpen = false ∧ ¬ hot.holdsFault .lockLost true ∧ ¬ hot.holdsFault .doorForced true := by
  decide
theorem witness_DebouncedValuesAct_jam :
    let s := inLock .jammed .none 0 bench
    s.latchEngaged = false ∧ s.doorOpen = false ∧ s.lck.state = .jammed ∧ s.lck.carried = false := by decide
/-- A cold cavity passes the unlock test, one at 250.0 °C does not. -/
theorem witness_DebouncedValuesAct_locking :
    let s := inPhase .locking (inLock .locking .seat 1 bench)
    s.lck.startUp = false ∧ s.doorOpen = false ∧ s.lck.stage ≠ .doorReturn ∧ s.lck.stage ≠ .doorReturnClearance ∧
      s.unlockTest = true ∧ ({ s with tms := { s.tms with a := chanAt 2500 } } : State).unlockTest = false ∧
      ¬ s.holdsFault .lockFail true := by decide
theorem witness_LockDriveExpires :
    let s := inPhase .locking (inLock .locking .lockDrive 2 bench)
    s.lck.stage = .lockDrive ∧ s.lck.state = .locking ∧ s.latchEngaged = false ∧ s.lck.attempts = 2 ∧
      s.lck.startUp = false ∧ s.lck.lockLostPresent = false ∧ s.lck.doorForcedPresent = false ∧
      s.cyc.phase = .locking ∧ ¬ s.holdsFault .lockFail true := by decide
theorem witness_BackDrivesPause :
    (inLock .locking .lockBackDrive 1 bench).lck.stage = .lockBackDrive ∧
      (inLock .unlocking .unlockBackDrive 1 bench).lck.stage = .unlockBackDrive ∧
      (inLock .locking .lockPause 1 bench).lck.stage = .lockPause ∧ bench.routing .lock ≠ 0 ∧ bench.alk.events.length < 32 := by
  decide
theorem witness_SeatEndLocks :
    let s := latchAt true (inPhase .locking (inLock .locking .seat 1 bench))
    s.lck.stage = .seat ∧ s.latchEngaged = true ∧ s.cyc.phase = .locking ∧ (s.segmentAt 0).kind = .ramp ∧
      (s.segmentAt 0).burn = false := by decide
theorem witness_UnlockTravelsEnd :
    (inLock .unlocking .unlockDrive 1 bench).lck.attempts < 2 ∧ bench.lck.startUp = false ∧ bench.lck.lockLostPresent = false ∧
      (inPhase .unlocking (inLock .unlocking .unlockPause 1 bench)).unlockTest = true ∧
      (inPhase .unlocking (inLock .unlocking .unlockPause 1 { bench with
        tms := { bench.tms with a := chanAt 2500 } })).unlockTest = false ∧
      ¬ bench.holdsFault .unlockFail true := by decide
/-- The second attempt at its expiry, and a door return whose latch is about to show free. -/
theorem witness_UnlockTravelsEnd_expiries :
    let s := inPhase .unlocking (inLock .unlocking .unlockDrive 2 (latchAt true bench))
    let r : State := inPhase .locking (inLock .locking .doorReturn 0
      { bench with lck := { bench.lck with latch := { raw := false, value := some true, timer := some 0 } } })
    s.lck.stage = .unlockDrive ∧ 2 ≤ s.lck.attempts ∧ s.lck.startUp = false ∧ s.cyc.phase = .unlocking ∧
      s.latchEngaged = true ∧ ¬ s.holdsFault .unlockFail true ∧ r.lck.stage = .doorReturn ∧ r.lck.startUp = false ∧
      r.lck.latch.timer = some 0 ∧ r.latchEngaged = true ∧ ¬ r.holdsFault .lockFail true := by decide
theorem witness_ClearanceEndUnlocks :
    (inPhase .unlocking (inLock .unlocking .clearance 1 bench)).lck.stage = .clearance := rfl
theorem witness_ReadingsAreFiltered :
    bench.tms.due = .a ∧ (bench.tms.chan .a).failed = false ∧ (bench.tms.chan .a).invalidRun < 3 := by decide
theorem witness_ChannelFailsAndRecovers :
    (({ bench with tms := { bench.tms with a := { chanAt 2419 with invalidRun := 3 } } } : State).tms.chan .a).invalidRun = 3 ∧
      ¬ (-400 ≤ (7001 : Int) ∧ (7001 : Int) ≤ 7000) ∧
      ({ failedAt 2419 with history := [2433, 2434, 2436], validRun := 3 } : Chan).failed = true := by decide
theorem witness_ChecksRaiseAndEnd_pairs :
    let s : State := { hot with tms := { hot.tms with due := .b, a := chanAt 2000, b := chanAt 1699, disagreeCount := 9 } }
    (s.tms.chan .b).failed = false ∧ s.tms.a.standing = .valid ∧ s.tms.a.cls = .valid ∧
      (1699 : Int) = (pushReading s.tms.b.history 1699).sum.tdiv (pushReading s.tms.b.history 1699).length ∧
      300 < (s.tms.a.filtered - 1699).natAbs ∧ (s.tms.a.filtered - 1700).natAbs ≤ 300 ∧
      s.tms.disagreeCount = 9 ∧ s.tms.disagreePresent = false := by decide
theorem witness_ChecksRaiseAndEnd_hot :
    let s : State := { hot with tms := { hot.tms with due := .l, l := chanAt 1201, hotRun := 49 } }
    (s.tms.chan .l).failed = false ∧ (1201 : Int) = (pushReading s.tms.l.history 1201).sum.tdiv 4 ∧ s.tms.hotRun = 49 ∧
      s.tms.latchHotPresent = false ∧ ¬(-400 ≤ (7001 : Int) ∧ (7001 : Int) ≤ 7000) := by decide
/-- R68's example: Tmax = 4800, 5101 above the ceiling and 5100 not. -/
theorem witness_ChecksRaiseAndEnd_ceiling :
    hot.tms.due = .a ∧ hot.alk.committed = true ∧ (hot.cfg .tmax : Int) + 300 < max 5101 hot.tms.b.filtered ∧
      ¬ (hot.cfg .tmax : Int) + 300 < max 5100 hot.tms.b.filtered ∧ hot.tms.overtempPresent = false ∧
      ¬ hot.holdsFault .overtemp true := by decide
/-- R46's edge of the one-sensor case, Tu - 300 = 2200, in TRIPPED; the case of both sensors in COOLING. -/
theorem witness_UnlockTestReleases_values :
    let c := inPhase .cooling { hot with tms := { hot.tms with a := chanAt 2499, b := chanAt 2499 } }
    let s := withFault .sensorBFail true (inPhase .tripped { hot with tms := { hot.tms with a := chanAt 2199, b := failedAt 2199 } })
    c.tms.due = .a ∧ (2499 : Int) = (pushReading c.tms.a.history 2499).sum.tdiv 4 ∧ max 2499 c.tms.b.filtered < (c.cfg .tu : Int) ∧
      s.lck.state = .locked ∧ s.lck.startUp = false ∧ s.lck.testPass = false ∧ s.tms.b.standing = .failed ∧
      (2199 : Int) < (s.cfg .tu : Int) - 300 ∧ (∃ e ∈ s.prt.faults, e.code.cls = .trip ∧ e.present = true) ∧
      ∀ e ∈ s.prt.faults, e.code = .sensorAFail ∨ e.code = .sensorBFail := by decide
theorem witness_UnlockTestReleases_blind :
    let s := withFault .sensorAFail true (withFault .sensorBFail true (inPhase .tripped { hot with
      tms := { hot.tms with a := failedAt 2205, b := failedAt 2203 }
      prt := { hot.prt with blindRunning := true, blindCount := 7199 } }))
    s.alk.committed = true ∧ s.tms.a.failed = true ∧ s.tms.b.failed = true ∧ s.prt.heatSeen = false ∧
      s.prt.blindCount + 1 = s.cfg .bc * 60 ∧ s.lck.testPass = false ∧ s.lck.state = .locked := by decide
theorem witness_ZeroCrossAdvances :
    let s : State := { hot with drv := { hot.drv with windowRunning := true, position := 62, window := window 34 17 17 } }
    s.drv.mainsAbsentPresent = false ∧ s.drv.state = .running ∧ s.drv.windowRunning = true ∧ s.drv.position < 63 ∧
      s.drv.window.ho ≤ s.shr.ho ∧ State.reset.drv.state = .suspended := by decide
/-- The supply returns after MAINS_ABSENT, in COOLING, and in TRIPPED where R13's conditions hold. -/
theorem witness_ZeroCrossAdvances_returns :
    let s := withFault .mainsAbsent true (inPhase .cooling { hot with
      drv := { hot.drv with state := .suspended, mainsAbsentPresent := true } })
    let r := withFault .mainsAbsent true (withFault .sensorBFail true (inPhase .tripped { hot with
      tms := { hot.tms with b := failedAt 2203, a := chanAt 2100 }
      drv := { hot.drv with state := .suspended, mainsAbsentPresent := true, main := false, permitted := false } }))
    s.drv.mainsAbsentPresent = true ∧ s.holdsFault .mainsAbsent true ∧ s.trippedRelease = false ∧ r.trippedRelease = true ∧
      r.lck.startUp = false ∧ r.heatSafe ∧ r.holdsFault .mainsAbsent true := by decide
theorem witness_ZeroCrossAdvances_truncates :
    ({ hot with drv := { hot.drv with window := window 34 17 17 }, shr := { hot.shr with ho := 84 } } : State).shr.ho <
      (window 34 17 17).ho := by decide
theorem witness_WindowCompletes : (atEnd (window 34 17 17) 0 hot).completes = true := by decide
theorem witness_WindowChecksReport_over :
    let s := atEnd (window 44 22 22) 8880 { hot with drv := { hot.drv with overRun := 2 } }
    s.completes = true ∧ s.heatSafe ∧ s.committedCurrent s.drv.window.n / 64 = 110 ∧ (s.drv.sampleSum + 140) / 64 = 140 ∧
      s.drv.window.n.sum ≠ 0 ∧ 110 + max 20 (110 / 4) < 140 ∧ s.drv.overRun = 2 ∧ s.drv.overPresent = false := by decide
theorem witness_WindowChecksReport_stuck :
    let s := atEnd (window 0 0 0) 693 { hot with drv := { hot.drv with stuckRun := 2 } }
    s.completes = true ∧ s.heatSafe ∧ s.drv.window.n.sum = 0 ∧ (s.drv.sampleSum + 11) / 64 = 11 ∧ s.drv.stuckRun = 2 := by decide
theorem witness_WindowChecksReport_low :
    let s := atEnd (window 44 22 22) 1300 { hot with drv := { hot.drv with lowRun := 7 } }
    s.completes = true ∧ s.heatSafe ∧ s.drv.window.n.sum ≠ 0 ∧ (s.drv.sampleSum + 20) / 64 = 20 ∧ 20 * 10 < 110 * 6 ∧
      s.drv.lowRun = 7 ∧ s.drv.lowPresent = false ∧ s.drv.stuckPresent = false ∧ s.drv.mainsAbsentPresent = false := by decide
theorem witness_MainsLossSuspends :
    hot.drv.state = .running ∧ { hot with drv := { hot.drv with state := .suspended } }.drv.state = .suspended ∧
      hot.cyc.phase = .heating := by decide
theorem witness_AttemptRuns_depart :
    let s := (after .stationReset bench)
    (∃ r, s.alk.resetPending = some r ∧ r.departure = .waiting) ∧ s.bli.departureTimer.isSome = true ∧
      s.bli.nextKind = some .depart ∧ (tickLine .frameBegun s.bli).frame = .other := by
  refine ⟨⟨_, rfl, ?_⟩, ?_⟩ <;> decide
theorem witness_AttemptRuns :
    (waiting 0x22 hot).bli.tx = .waiting ∧ (waiting 0x22 hot).bli.frame = .none ∧ 12 + (waiting 0x22 hot).bli.backoff ≤ (waiting 0x22 hot).bli.releasedRun ∧
      (waiting 0x22 hot).bli.nextKind = some .claim ∧ 0 < attempt2.frame.claim ∧ attempt2.frame.slot = .claim := by decide
theorem witness_BankTimersExpire :
    hot.bli.periodTimer.isSome = true ∧ hot.bli.tx = .quiet ∧ hot.bli.silenceTimer.isSome = true ∧ hot.bli.silent = false ∧
      hot.shr.causes = 0 ∧ hot.shr.state = .sharing ∧ (after .stationReset bench).bli.departureTimer.isSome = true := by decide
theorem witness_FramesAreTaken_good :
    classify 64 shedOf2 = .good { word := 1, station := 2, group := 2, kind := .shed, held := 120, want := 200, claim := 0,
                                  slot := .hold, phase := .heating, fallback := false } ∧
      bench.cfg .station = 3 ∧ bench.alk.committed = true ∧ bench.accepts 2 = true ∧ bench.ptb.records.length < 15 := by
  decide +kernel
/-- The frame of section 7.11's attempt 2, sent by another station that has the own number. -/
theorem witness_FramesAreTaken_conflict :
    classify 64 0x5A1910A0B40B54E7#64 =
      .good { word := 0x5A, station := 3, group := 2, kind := .claim, held := 40, want := 180, claim := 45, slot := .claim,
              phase := .heating, fallback := false } ∧
      bench.cfg .station = 3 ∧ bench.bli.numberConflict = false ∧ ¬ bench.holdsFault .numberConflict true := by decide +kernel
/-- A frame of station 2 meets a table with its record, a full table without it, and a counter at 9 with UNRELIABLE set. -/
theorem witness_FramesAreTaken_table :
    (peerOf 2 (withPeers [peer 2 0 0 0 .none .live] bench).ptb.records).isSome = true ∧
      (withPeers ((List.range 15).map fun n => peer (n + 4) 0 0 0 .none .live) bench).ptb.records.length = 15 ∧
      bench.accepts 2 = true ∧ bench.accepts 3 = false := by decide
theorem witness_FramesAreTaken_bad :
    classify 63 shedOf2 = .cutShort ∧ { bench with bli := { bench.bli with errors := 23 } }.bli.errors = 23 ∧
      bench.bli.unreliable = false := by decide
theorem witness_LineConditions :
    hot.bli.lineHeld = false ∧ hot.bli.txStuck = false ∧ ¬ hot.holdsFault .txStuck true := by decide
theorem witness_SharingTimersExpire_peer :
    ∃ p, (withPeers [peer 4 60 60 0 .none .live] bench).ptb.records.find? (fun q => q.station == p.station) = some p ∧
      p.state = .live := ⟨peer 4 60 60 0 .none .live, by decide⟩
theorem witness_SharingTimersExpire_listen :
    let s : State := { bench with shr := { bench.shr with state := .listening false, listenTimer := some 0 } }
    s.shr.state.listens = true ∧ s.shr.listenTimer.isSome = true ∧ s.shr.causes = 0 ∧ s.shr.request ≠ .waiting := by decide
theorem witness_SharingTimersExpire_claim :
    let s : State := { hot with shr := { hot.shr with claim := .settling, claimTimer := some 0, co := 45 } }
    s.shr.claimTimer.isSome = true ∧ s.shr.claim = .settling := by decide
theorem witness_SharingTimersExpire_slot :
    (claiming 0).shr.settleTimer.isSome = true ∧ (claiming 0).shr.request = .claiming ∧ (claiming 0).shr.slot = .claim ∧
      (claiming 0).shr.sums.holders < (claiming 0).cfg .k ∧ (claiming 1).cfg .k ≤ (claiming 1).shr.sums.holders ∧
      (claiming 0).ramp.state = .waitingSlot ∧ (claiming 0).segment.kind = .ramp := by decide
theorem witness_SharingTimersExpire_backOff :
    let s : State := { hot with shr := { hot.shr with request := .backingOff, backoffTimer := some 0 } }
    s.shr.backoffTimer.isSome = true ∧ s.shr.slot = .none ∧ s.shr.state = .sharing ∧ s.shr.sums.holders < s.cfg .k := by decide

end Sys2Proof.Tests
end

section
/-! SUPPORT. General forms for the proofs: equality of states block by block, the fault set seen through the standing of one
code, and what the shared operations do exactly where their frame lemmas leave it open. -/

namespace Sys2Proof.Machine

/-! ## Equality of states, and blocks of the link -/

theorem State.eq_of_blocks {s t : State} (cyc : s.cyc = t.cyc) (prf : s.prf = t.prf) (ramp : s.ramp = t.ramp)
    (lck : s.lck = t.lck) (tms : s.tms = t.tms) (reg : s.reg = t.reg) (drv : s.drv = t.drv) (bli : s.bli = t.bli)
    (ptb : s.ptb = t.ptb) (shr : s.shr = t.shr) (prt : s.prt = t.prt) (alk : s.alk = t.alk)
    (pending : s.pending = t.pending) (draws : s.draws = t.draws) : s = t := by
  cases s; cases t; simp_all

/-- A command that only opens its transaction and answers leaves every block as it was (R171). -/
theorem sameButLink_answer (c : ResultCode) (bytes : List Byte) (params : Nat) (s : State) :
    s.sameButLink (linkAnswer c bytes (linkOpen params s)) := by
  rw [linkOpen_eq]
  rfl

end Sys2Proof.Machine
end

section
/-! CERTIFICATE. The reset state, the resets, the reads and the one-second rows. -/

namespace Sys2Proof.Machine

/-- Settles O3: each law is a closed fact about the reset state. -/
theorem resetMeetsEveryLaw : Obligations.ResetMeetsEveryLaw := by
  refine ⟨?list, ?heat, ?fault, ?window, ?fan, ?slot, ?share, ?peer⟩
  case list => decide
  case heat => decide
  case fault => decide
  case window => decide
  case fan => decide
  case slot => decide
  case share => decide
  case peer => simp [State.peerSafe, State.reset, Ptb.reset]

/-- A reset stores the default of every item (R173). -/
theorem defaultItems_get (i : Item) : defaultItems[i.number] = i.default := by
  cases i <;> rfl

/-- No byte of a transaction that a reset has cut off is driven (R176). -/
theorem Link.sdo_of_cut (l : Link) (k : Nat) (h : l.sdoCut = l.csnLow) : l.sdo k = none := by
  cases hl : l.csnLow <;> simp [Link.sdo, h, hl]

/-- Settles O14: a reset writes every field at its reset value; the two rows differ in the cause alone. -/
theorem resetsReturnEveryBlock : Obligations.ResetsReturnEveryBlock := by
  intro s p hp
  refine ⟨resetAll p.2 s, ?_, rfl, ?table, rfl, rfl, rfl, rfl, rfl, rfl, ?chan, rfl, rfl, rfl, rfl, rfl, rfl, rfl, rfl, rfl,
    rfl, rfl, rfl, rfl, rfl, defaultItems_get, rfl, rfl, rfl, rfl, rfl, rfl, rfl, ?csn, rfl, rfl, ?sdo, rfl⟩
  · simp only [List.mem_cons, List.not_mem_nil, or_false] at hp
    rcases hp with rfl | rfl <;> rfl
  case table =>
    intro i
    simp [resetAll, Prf.reset, Segment.reset]
  case chan =>
    intro ch
    cases ch <;> rfl
  case csn =>
    intro h
    simp [resetAll, Alk.reset, State.csnAtReset, h]
  case sdo => exact fun k => Link.sdo_of_cut _ k rfl

/-! ## The reads (R172) -/

/-- A read answers OK with bytes formed from the state as it stood, and changes the port alone. -/
theorem readOk_answers (bytes : State → List Byte) (s : State) :
    ∃ t, (Host.Outcome.next (readOk bytes s) : Host.Outcome State Fault Refusal) = .next t ∧ s.sameButLink t ∧
      t.alk.link.answer = 0x00 :: bytes s :=
  ⟨_, rfl, sameButLink_answer .ok (bytes s) 0 s, rfl⟩

@[simp] theorem natBytes_length (n : Nat) : (natBytes n).length = 2 := rfl
@[simp] theorem intBytes_length (t : Int) : (intBytes t).length = 2 := rfl
@[simp] theorem timerBytes_length (t : Option Nat) : (timerBytes t).length = 2 := rfl
@[simp] theorem rateBytes_length (r : Option Int) : (rateBytes r).length = 2 := by cases r <;> rfl
@[simp] theorem windowBytes_length (w : Window) : (windowBytes w).length = 10 := rfl
@[simp] theorem chanBytes_length (c : Chan) : (chanBytes c).length = 7 := rfl
@[simp] theorem zeroBytes_length (n : Nat) : (zeroBytes n).length = n := List.length_replicate
@[simp] theorem faultEntryBytes_length (e : FaultEntry) : (faultEntryBytes e).length = 5 := rfl

/-- The slots of the entries take five bytes each (R169). -/
theorem faultEntries_length (l : List FaultEntry) : (l.map faultEntryBytes).flatten.length = 5 * l.length := by
  induction l with
  | nil => rfl
  | cons e l ih => simp [ih]; omega

/-- READ_FAULTS fills its eighteen slots (R169). -/
theorem faultBytes_length (p : Prt) (h : p.faults.length ≤ 18) : (faultBytes p).length = 94 := by
  simp only [faultBytes, List.length_append, faultEntries_length, zeroBytes_length, natBytes_length, List.length_cons,
    List.length_nil]
  omega

/-- Settles O17: each read is `readOk`, and its layout has the length of section 12.3. -/
theorem readsAnswer : Obligations.ReadsAnswer := by
  intro s
  refine ⟨readOk_answers _ s, readOk_answers _ s, readOk_answers _ s, readOk_answers _ s, readOk_answers _ s, ?_, ?_, ?_, ?_,
    faultBytes_length s.prt⟩
  · simp [statusBytes]
  · simp [tempBytes]
  · simp [shareBytes]
  · simp [cycleBytes]

/-! ## The seconds (R14, R21, R177) -/

/-- A second of CYC's timebase touches CYC, and ALK by the record of COOL_SLOW. -/
theorem cycSecond_frame (s : State) :
    { cycSecond s with cyc := s.cyc, alk := s.alk } = s ∧ (cycSecond s).alk.items = s.alk.items := by
  unfold cycSecond cycCoolSlow
  split_ifs
  · exact ⟨State.eq_of_blocks (by simp) (by simp [cycCounts]) (by simp [cycCounts]) (by simp [cycCounts])
      (by simp [cycCounts]) (by simp [cycCounts]) (by simp [cycCounts]) (by simp [cycCounts]) (by simp [cycCounts])
      (by simp [cycCounts]) (by simp [cycCounts]) (by simp) (by simp [cycCounts]) (by simp [cycCounts]), by simp [cycCounts]⟩
  · exact ⟨rfl, rfl⟩

/-- COOL_SLOW sets its own flag and no count. -/
theorem cycCoolSlow_cyc (s : State) :
    (cycCoolSlow s).cyc = { s.cyc with coolSlowRaised := s.coolSlowDue || s.cyc.coolSlowRaised } := by
  unfold cycCoolSlow
  split_ifs with h <;> simp [h]

/-- CYC's counts after a second (R9, R14, R21). -/
theorem cycSecond_cyc (s : State) :
    (cycSecond s).cyc.phase = s.cyc.phase ∧ (cycSecond s).cyc.record = s.recordAfterSecond ∧
      (cycSecond s).cyc.coolingTime =
        (if s.cyc.phase = .cooling then s.cyc.coolingTime + 1 else s.cyc.coolingTime) := by
  simp [cycSecond, cycCoolSlow_cyc, cycCounts]

/-- A count that advances while `on` stands, as the statements write it. -/
theorem countIf_eq (on : Bool) (n : Nat) :
    countIf on n = if on = false then n else if n < 65535 then n + 1 else 65535 := by
  cases on
  · rfl
  · rfl

/-- The cycle time stands still in IDLE and HELD alone (R21). -/
theorem Phase.running_eq_false (p : Phase) : p.running = false ↔ p = .idle ∨ p = .held := by
  cases p <;> simp [Phase.running]

/-- WAITING_SLOT is reported just in HEATING with the engine waiting (R3). -/
theorem reportedPhase_waitingSlot (s : State) :
    s.reportedPhase = .waitingSlot ↔ s.cyc.phase = .heating ∧ s.ramp.state = .waitingSlot := by
  unfold State.reportedPhase
  split_ifs with h
  · simp [h]
  · cases hp : s.cyc.phase <;> simp_all [Phase.report]

/-- The second in which the cooling time reaches 14400 raises COOL_SLOW, with its event where the list takes it (R14). -/
theorem cycSecond_coolSlow (s : State) (hp : s.cyc.phase = .cooling) (ht : s.cyc.coolingTime = 14399)
    (hr : s.cyc.coolSlowRaised = false) (hroute : s.routing .cycle ≠ 0) (hroom : s.alk.events.length < 32) :
    (cycSecond s).cyc.coolSlowRaised = true ∧
      (cycSecond s).alk.events = s.alk.events ++ [{ kind := .coolSlow, detail := 0, time := s.alk.seconds }] := by
  have hdue : (cycCounts s).coolSlowDue = true := by simp [State.coolSlowDue, cycCounts, hp, ht, hr]
  refine ⟨by simp [cycSecond, cycCoolSlow_cyc, hdue], ?_⟩
  rw [cycSecond, cycCoolSlow, if_pos hdue, alkRecord_events, if_neg]
  · rfl
  · exact not_or.mpr ⟨hroute, Nat.not_le.mpr hroom⟩

/-- Settles O34: the seconds count, the record's counts and COOL_SLOW by the interval each belongs to. -/
theorem secondsAreCounted : Obligations.SecondsAreCounted := by
  intro s
  refine ⟨⟨_, rfl, rfl, rfl⟩, ?second, ?slow⟩
  case second =>
    obtain ⟨hphase, hrecord, hcooling⟩ := cycSecond_cyc s
    refine ⟨cycSecond s, rfl, hphase, ?_, ?_, ?_, hcooling, cycSecond_frame s⟩
    · rw [hrecord]
      show countIf s.cyc.phase.running s.cyc.record.cycleTime = _
      simp [countIf_eq, Phase.running_eq_false]
    · simp [hrecord, State.recordAfterSecond, countIf_eq]
    · rw [hrecord]
      simp [State.recordAfterSecond, countIf_eq, reportedPhase_waitingSlot]
  case slow =>
    intro hp ht hr hroute hroom
    obtain ⟨hphase, -, hcooling⟩ := cycSecond_cyc s
    obtain ⟨hraised, hevents⟩ := cycSecond_coolSlow s hp ht hr hroute hroom
    refine ⟨cycSecond s, ?_, hraised, by simp [hcooling, hp, ht], hphase.trans hp, (cycSecond_frame s).1, hevents⟩
    show Host.Outcome.next _ = _
    simp [onlyWhen, hr, hraised]

end Sys2Proof.Machine
end

section
/-! SUPPORT. The rules of the shared operations that the proofs about the cycle and the lock go through: the fault set as
one code sees it, the lock's own fields, the phase, the notices of PRT, leaving HEATING, and taking an event. -/

namespace Sys2Proof.Machine

/-! ## The fault set as one code sees it (R157 to R159) -/

/-- An entry of `c` stands in the set with its condition flag as given. -/
def flagIn (c : FaultCode) (b : Bool) (l : List FaultEntry) : Bool :=
  l.any fun e => e.code == c && e.present == b

theorem holdsFault_iff (s : State) (c : FaultCode) (b : Bool) : s.holdsFault c b ↔ flagIn c b s.prt.faults = true :=
  Iff.rfl

theorem flagIn_of_not_holdsFault {s : State} {c : FaultCode} {b : Bool} (h : ¬ s.holdsFault c b) :
    flagIn c b s.prt.faults = false :=
  Bool.eq_false_iff.mpr h

theorem flagIn_iff (c : FaultCode) (b : Bool) (l : List FaultEntry) :
    flagIn c b l = true ↔ ∃ e ∈ l, e.code = c ∧ e.present = b := by
  simp [flagIn]

theorem any_present_eq_flagIn (c : FaultCode) (l : List FaultEntry) :
    (l.any fun e => e.code == c && e.present) = flagIn c true l := by
  simp [flagIn]

/-- The flag of one code does not change by what ends another's condition. -/
theorem flagIn_clearFlag_ne {c d : FaultCode} (h : ¬ c = d) (b : Bool) (l : List FaultEntry) :
    flagIn c b (clearFlag d l) = flagIn c b l := by
  unfold flagIn clearFlag
  rw [List.any_map]
  congr 1
  funext e
  by_cases hd : e.code = d
  · have hdc : (d == c) = false := by simpa using Ne.symm h
    simp [hd, hdc]
  · simp [hd]

/-- A condition that ends leaves its entry in the set, its flag gone. -/
theorem flagIn_clearFlag_gone {c : FaultCode} {b : Bool} {l : List FaultEntry} (h : flagIn c b l = true) :
    flagIn c false (clearFlag c l) = true := by
  obtain ⟨e, he, hc, -⟩ := (flagIn_iff c b l).mp h
  exact (flagIn_iff c false _).mpr ⟨{ e with present := false }, List.mem_map.mpr ⟨e, he, by simp [hc]⟩, hc, rfl⟩

theorem flagIn_raiseFlag (c : FaultCode) (now : Nat) (l : List FaultEntry) :
    flagIn c true (raiseFlag c now l) = true := by
  rw [flagIn_iff]
  unfold raiseFlag
  split_ifs with h
  · obtain ⟨e, he, hc⟩ := List.any_eq_true.mp h
    have hc' : e.code = c := by simpa using hc
    exact ⟨{ e with present := true }, List.mem_map.mpr ⟨e, he, by simp [hc']⟩, hc', rfl⟩
  · exact ⟨{ code := c, first := now, present := true }, by simp, rfl, rfl⟩

theorem clearFlag_codes (c : FaultCode) (l : List FaultEntry) :
    (clearFlag c l).map FaultEntry.code = l.map FaultEntry.code := by
  unfold clearFlag
  rw [List.map_map]
  refine List.map_congr_left fun e _ => ?_
  by_cases h : e.code = c <;> simp [h]

/-- Whether a trip-class entry stands goes by the codes alone (R157). -/
theorem hasTrip_congr {s t : State} (h : t.prt.faults.map FaultEntry.code = s.prt.faults.map FaultEntry.code) :
    t.hasTrip = s.hasTrip := by
  have key : ∀ l : List FaultEntry, l.any FaultEntry.isTrip = (l.map FaultEntry.code).any fun c => c.cls == .trip := by
    intro l
    rw [List.any_map]
    rfl
  simp only [State.hasTrip, key, h]

/-- A trip-class entry stands once one was raised. -/
theorem hasTrip_raiseFlag {c : FaultCode} (hc : c.cls = .trip) {s : State} (h : flagIn c true s.prt.faults = true) :
    s.hasTrip = true := by
  obtain ⟨e, he, hce, -⟩ := (flagIn_iff _ _ _).mp h
  exact List.any_eq_true.mpr ⟨e, he, by simp [FaultEntry.isTrip, hce, hc]⟩

/-- Only an end of ELEMENT_LOW separates the fault set before MAIN follows its conditions from that after (R96, R100). -/
theorem drvMain_faults (s : State) :
    (drvMain s).prt.faults = s.prt.faults ∨ (drvMain s).prt.faults = clearFlag .elementLow s.prt.faults := by
  unfold drvMain drvLowGone
  split_ifs <;> simp [prtGone_faults]

theorem lckSetState_faults (st : LockState) (s : State) :
    (lckSetState st s).prt.faults = s.prt.faults ∨
      (lckSetState st s).prt.faults = clearFlag .elementLow s.prt.faults := by
  unfold lckSetState
  split_ifs
  · exact .inl rfl
  · simpa using drvMain_faults (lckRecord (s.modLck fun l => { l with state := st }))

theorem lckSetJammed_faults (v : Bool) (s : State) :
    (lckSetJammed v s).prt.faults = s.prt.faults ∨
      (lckSetJammed v s).prt.faults = clearFlag .elementLow s.prt.faults := by
  unfold lckSetJammed
  split_ifs
  · exact .inl rfl
  · simpa using drvMain_faults (lckRecord (s.modLck fun l => { l with state := .jammed, carried := v }))

theorem lckTripped_faults (s : State) :
    (lckTripped s).prt.faults = s.prt.faults ∨ (lckTripped s).prt.faults = clearFlag .elementLow s.prt.faults := by
  unfold lckTripped
  split_ifs
  · exact lckSetJammed_faults true s
  · exact .inl rfl

theorem cycSetPhase_faults (p : Phase) (s : State) :
    (cycSetPhase p s).prt.faults = s.prt.faults ∨
      (cycSetPhase p s).prt.faults = clearFlag .elementLow s.prt.faults := by
  unfold cycSetPhase
  split_ifs
  · exact .inl rfl
  · simpa using lckTripped_faults (regFan (drvPhase (regPhase s.cyc.phase p (alkRecord .phaseChange
      (detail p.code s.cyc.record.outcome.code) (s.modCyc fun c => { c with phase := p, abortPending := false })))))

theorem flagIn_of_lowGone {l m : List FaultEntry} (h : m = l ∨ m = clearFlag .elementLow l) {c : FaultCode}
    (hc : c ≠ .elementLow) (b : Bool) : flagIn c b m = flagIn c b l := by
  rcases h with rfl | rfl
  · rfl
  · exact flagIn_clearFlag_ne hc b l

theorem hasTrip_of_lowGone {s t : State}
    (h : t.prt.faults = s.prt.faults ∨ t.prt.faults = clearFlag .elementLow s.prt.faults) : t.hasTrip = s.hasTrip := by
  refine hasTrip_congr ?_
  rcases h with h | h <;> simp [h, clearFlag_codes]

@[simp] theorem flagIn_drvMain {c : FaultCode} (hc : ¬ c = .elementLow) (b : Bool) (s : State) :
    flagIn c b (drvMain s).prt.faults = flagIn c b s.prt.faults :=
  flagIn_of_lowGone (drvMain_faults s) hc b

@[simp] theorem flagIn_lckSetState {c : FaultCode} (hc : ¬ c = .elementLow) (b : Bool) (st : LockState) (s : State) :
    flagIn c b (lckSetState st s).prt.faults = flagIn c b s.prt.faults :=
  flagIn_of_lowGone (lckSetState_faults st s) hc b

@[simp] theorem flagIn_lckSetJammed {c : FaultCode} (hc : ¬ c = .elementLow) (b : Bool) (v : Bool) (s : State) :
    flagIn c b (lckSetJammed v s).prt.faults = flagIn c b s.prt.faults :=
  flagIn_of_lowGone (lckSetJammed_faults v s) hc b

@[simp] theorem flagIn_lckTripped {c : FaultCode} (hc : ¬ c = .elementLow) (b : Bool) (s : State) :
    flagIn c b (lckTripped s).prt.faults = flagIn c b s.prt.faults :=
  flagIn_of_lowGone (lckTripped_faults s) hc b

@[simp] theorem flagIn_cycSetPhase {c : FaultCode} (hc : ¬ c = .elementLow) (b : Bool) (p : Phase) (s : State) :
    flagIn c b (cycSetPhase p s).prt.faults = flagIn c b s.prt.faults :=
  flagIn_of_lowGone (cycSetPhase_faults p s) hc b

@[simp] theorem flagIn_prtGone_ne {c d : FaultCode} (h : ¬ c = d) (b : Bool) (s : State) :
    flagIn c b (prtGone d s).prt.faults = flagIn c b s.prt.faults := by
  rw [prtGone_faults, flagIn_clearFlag_ne h]

theorem flagIn_prtGone_gone {c : FaultCode} {b : Bool} {s : State} (h : flagIn c b s.prt.faults = true) :
    flagIn c false (prtGone c s).prt.faults = true := by
  rw [prtGone_faults]
  exact flagIn_clearFlag_gone h

@[simp] theorem drvMain_codes (s : State) :
    (drvMain s).prt.faults.map FaultEntry.code = s.prt.faults.map FaultEntry.code := by
  rcases drvMain_faults s with h | h <;> simp [h, clearFlag_codes]

@[simp] theorem hasTrip_drvMain (s : State) : (drvMain s).hasTrip = s.hasTrip := hasTrip_of_lowGone (drvMain_faults s)

@[simp] theorem hasTrip_lckSetState (st : LockState) (s : State) : (lckSetState st s).hasTrip = s.hasTrip :=
  hasTrip_of_lowGone (lckSetState_faults st s)

@[simp] theorem hasTrip_cycSetPhase (p : Phase) (s : State) : (cycSetPhase p s).hasTrip = s.hasTrip :=
  hasTrip_of_lowGone (cycSetPhase_faults p s)

/-! ## The lock's own fields (R45, R58) -/

@[simp] theorem lckSetState_lck (st : LockState) (s : State) : (lckSetState st s).lck = { s.lck with state := st } := by
  unfold lckSetState
  split_ifs with h
  · rw [← h]
  · simp

@[simp] theorem lckSetJammed_lck (v : Bool) (s : State) :
    (lckSetJammed v s).lck = { s.lck with state := .jammed, carried := v } := by
  unfold lckSetJammed
  split_ifs with h
  · rw [← h.1, ← h.2]
  · simp

@[simp] theorem lckStop_lck (s : State) :
    (lckStop s).lck = { s.lck with stage := .none, motor := .off, travelTimer := none, stageTimer := none } := rfl

/-- R58's test in TRIPPED changes nothing but an UNLOCKED state. -/
theorem lckTripped_of_state {s : State} (h : ¬ s.lck.state = .unlocked) : lckTripped s = s := by
  simp [lckTripped, h]

theorem lckTripped_of_phase {s : State} (h : ¬ s.cyc.phase = .tripped) : lckTripped s = s := by
  simp [lckTripped, h]

theorem lckTripped_of_free {s : State} (h : s.latchEngaged = false) : lckTripped s = s := by
  simp [lckTripped, h]

/-- MAIN is open wherever a lock state other than LOCKED has been entered (R96). -/
theorem lckSetState_main_open {st : LockState} (hst : st ≠ .locked) {s : State} (h : s.lck.state ≠ st ∨ s.drv.main = false) :
    (lckSetState st s).drv.main = false := by
  unfold lckSetState
  split_ifs with hs
  · exact h.resolve_left (not_not.mpr hs)
  · simp [State.mainAllowed, hst]

/-! ## The phase (R14, R22) -/

theorem cycSetPhase_cyc (p : Phase) (s : State) :
    (cycSetPhase p s).cyc =
      if s.cyc.phase = p then s.cyc else { s.cyc with phase := p, abortPending := false } := by
  unfold cycSetPhase
  split_ifs <;> simp

/-- A phase other than TRIPPED is told to REG and DRV alone (R83, R85, R103). -/
theorem cycSetPhase_quiet {p : Phase} {s : State} (h : ¬ p = .tripped ∨ ¬ s.lck.state = .unlocked) :
    (cycSetPhase p s).lck = s.lck ∧ (cycSetPhase p s).prt = s.prt ∧ (cycSetPhase p s).drv.main = s.drv.main ∧
      (cycSetPhase p s).drv.outputs = s.drv.outputs ∧ (cycSetPhase p s).drv.lowPresent = s.drv.lowPresent := by
  unfold cycSetPhase
  split_ifs with hp
  · exact ⟨rfl, rfl, rfl, rfl, rfl⟩
  · rw [lckTripped]
    rcases h with h | h <;> simp [h, drvPhase]

/-- The cooling rule stops on entering IDLE, UNLOCKING or HELD (R85). -/
theorem cycSetPhase_coolTimer {p : Phase} {s : State} (h : ¬ s.cyc.phase = p)
    (hp : p = .idle ∨ p = .unlocking ∨ p = .held) : (cycSetPhase p s).reg.coolTimer = none := by
  have hc : p.cools = false := by rcases hp with rfl | rfl | rfl <;> rfl
  simp [cycSetPhase, h, regPhase, hc, hp, regCoolStop, regFan]

/-! ## What DRV keeps of the mains (R102, R103) -/

@[simp] theorem drvMain_mains (s : State) :
    (drvMain s).drv.absence = s.drv.absence ∧ (drvMain s).drv.mainsTimer = s.drv.mainsTimer ∧
      (drvMain s).drv.mainsAbsentPresent = s.drv.mainsAbsentPresent := by
  unfold drvMain drvLowGone
  split_ifs <;> simp [drvAbandon, drvOutputs]

@[simp] theorem lckSetState_mains (st : LockState) (s : State) :
    (lckSetState st s).drv.absence = s.drv.absence ∧ (lckSetState st s).drv.mainsTimer = s.drv.mainsTimer ∧
      (lckSetState st s).drv.mainsAbsentPresent = s.drv.mainsAbsentPresent := by
  unfold lckSetState
  split_ifs <;> simp

@[simp] theorem lckTripped_mains (s : State) :
    (lckTripped s).drv.absence = s.drv.absence ∧ (lckTripped s).drv.mainsTimer = s.drv.mainsTimer ∧
      (lckTripped s).drv.mainsAbsentPresent = s.drv.mainsAbsentPresent := by
  unfold lckTripped lckSetJammed
  split_ifs <;> simp

@[simp] theorem cycSetPhase_mains (p : Phase) (s : State) :
    (cycSetPhase p s).drv.absence = s.drv.absence ∧
      (cycSetPhase p s).drv.mainsAbsentPresent = s.drv.mainsAbsentPresent := by
  unfold cycSetPhase
  split_ifs <;> simp [drvPhase]

/-- The mains-absent timer stops where HEATING is left, and in a RUNNING drive (R103). -/
theorem cycSetPhase_mainsTimer {p : Phase} {s : State} (h : ¬ s.cyc.phase = p) (hp : ¬ p = .heating ∨ s.drv.state = .running) :
    (cycSetPhase p s).drv.mainsTimer = none := by
  rcases hp with hp | hp <;> simp [cycSetPhase, h, drvPhase, hp]

/-! ## The record (R21) -/

@[simp] theorem cycOutcome_cyc (o : CycleOutcome) (s : State) :
    (cycOutcome o s).cyc = { s.cyc with record := { s.cyc.record with outcome := o } } := rfl

@[simp] theorem cycFirstFault_cyc (c : FaultCode) (s : State) :
    (cycFirstFault c s).cyc =
      { s.cyc with record := { s.cyc.record with firstFault := s.cyc.record.firstFaultAfter c } } := rfl

/-! ## The want, and leaving HEATING (R10, R42, R80, R148) -/

/-- Sheds count in HEATING alone (R148). -/
theorem cycCountShed_of_phase {s : State} (h : ¬ s.cyc.phase = .heating) : cycCountShed s = s := by
  simp [cycCountShed, h]

theorem shrShed_cyc {h : Nat} {s : State} (hp : ¬ s.cyc.phase = .heating) : (shrShed h s).cyc = s.cyc := by
  simp [shrShed, cycCountShed_of_phase, hp]

theorem shrWant_cyc {w : Nat} {s : State} (hp : ¬ s.cyc.phase = .heating) : (shrWant w s).cyc = s.cyc := by
  unfold shrWant shrLower shrEvaluate shrCompare shrFollow
  simp only
  repeat' split
  all_goals simp [shrShed_cyc, hp]

@[simp] theorem shrWant_wo (w : Nat) (s : State) : (shrWant w s).shr.wo = w := by
  unfold shrWant shrLower shrEvaluate shrCompare shrFollow
  simp only
  repeat' split
  all_goals simp

@[simp] theorem regLeave_reg (s : State) :
    (regLeave s).reg = { s.reg with demand := 0, integral := 0, evalTimer := none } := by
  simp [regLeave]

@[simp] theorem regLeave_wo (s : State) : (regLeave s).shr.wo = 0 := by simp [regLeave]

theorem regLeave_cyc {s : State} (hp : ¬ s.cyc.phase = .heating) : (regLeave s).cyc = s.cyc := by
  simp [regLeave, shrWant_cyc, hp]

@[simp] theorem prfIdle_ramp (s : State) :
    (prfIdle s).ramp = { s.ramp with state := .idle, slotFlag := .none, stepTimer := none } := by
  simp [prfIdle]

/-- The engine's return to IDLE ends HEAT_TIMEOUT and SLOT_TIMEOUT and touches no other code (R36, R40, R42). -/
theorem prfIdle_faults (s : State) :
    (prfIdle s).prt.faults = clearFlag .slotTimeout (clearFlag .heatTimeout s.prt.faults) := by
  simp [prfIdle, prtGone_faults]

/-- HEATING is left (R10): the phase, the engine IDLE, the slot given back, D, I and Wo at 0, MAIN open. -/
@[simp] theorem cycLeaveHeating_effects (p : Phase) (s : State) :
    (cycLeaveHeating p s).cyc.phase = p ∧
    (cycLeaveHeating p s).ramp = { s.ramp with state := .idle, slotFlag := .none, stepTimer := none } ∧
    (cycLeaveHeating p s).shr.slot = .none ∧ (cycLeaveHeating p s).shr.request = .none ∧
    (cycLeaveHeating p s).shr.wo = 0 ∧ (cycLeaveHeating p s).reg.demand = 0 ∧
    (cycLeaveHeating p s).reg.integral = 0 ∧ (cycLeaveHeating p s).reg.evalTimer = none ∧
    (cycLeaveHeating p s).drv.permitted = false ∧ (cycLeaveHeating p s).drv.main = false ∧
    (cycLeaveHeating p s).drv.mainsAbsentPresent = s.drv.mainsAbsentPresent := by
  simp [cycLeaveHeating, State.mainAllowed]

/-- The record stays as the leaving finds it. -/
theorem cycLeaveHeating_record {p : Phase} {s : State} (hp : ¬ p = .heating) :
    (cycLeaveHeating p s).cyc.record = s.cyc.record := by
  unfold cycLeaveHeating
  rw [regLeave_cyc] <;> simp [hp]

theorem cycLeaveHeating_lck {p : Phase} {s : State} (h : ¬ p = .tripped ∨ ¬ s.lck.state = .unlocked) :
    (cycLeaveHeating p s).lck = s.lck := by
  simp [cycLeaveHeating, cycSetPhase_quiet h]

theorem cycLeaveHeating_mainsTimer {p : Phase} {s : State} (h : s.cyc.phase = .heating) (hp : ¬ p = .heating) :
    (cycLeaveHeating p s).drv.mainsTimer = none := by
  simp [cycLeaveHeating, cycSetPhase_mainsTimer (s := s) (p := p) (by simp [h, Ne.symm hp]) (.inl hp)]

/-- A MAIN that was closed opens, and its opening switches the elements off (R96, R97). -/
theorem drvMain_opens {s : State} (hm : s.drv.main = true) (ha : s.mainAllowed = false) :
    (drvMain s).drv.outputs = PerElement.all false := by
  simp [drvMain, hm, ha, drvAbandon, drvOutputs]

theorem cycLeaveHeating_outputs {p : Phase} {s : State} (h : ¬ p = .tripped) (hm : s.drv.main = true) :
    (cycLeaveHeating p s).drv.outputs.any = false := by
  have hopen : (cycLeaveHeating p s).drv.outputs = PerElement.all false := by
    simp only [cycLeaveHeating, regLeave_frame, shrRelease_frame]
    refine drvMain_opens ?_ (by simp [State.mainAllowed])
    simp [cycSetPhase_quiet (.inl h), hm]
  rw [hopen]
  rfl

theorem flagIn_cycLeaveHeating {c : FaultCode} (hc : ¬ c = .elementLow) (hs : ¬ c = .slotTimeout) (hh : ¬ c = .heatTimeout)
    (b : Bool) (p : Phase) (s : State) :
    flagIn c b (cycLeaveHeating p s).prt.faults = flagIn c b s.prt.faults := by
  simp [cycLeaveHeating, hc, prfIdle_faults, flagIn_clearFlag_ne hs, flagIn_clearFlag_ne hh]

/-! ## PRT's notices (R11, R12, R158 to R161) -/

theorem Record.firstFaultAfter_eq (r : Record) (c : FaultCode) :
    r.firstFaultAfter c = some (r.firstFault.getD c) := by
  unfold Record.firstFaultAfter
  cases r.firstFault <;> rfl

/-- What a new report of `c` leaves PRT and ALK with before the action of its class: the entry and its record (R158). -/
def prtEnter (c : FaultCode) (s : State) : State :=
  alkRecord .faultRaised (detail c.code c.cls.code)
    (s.modPrt fun p => { p with faults := raiseFlag c s.alk.seconds p.faults })

theorem prtRaise_new {c : FaultCode} {s : State} (h : flagIn c true s.prt.faults = false) :
    prtRaise c s = prtAction c (prtEnter c s) := by
  simp [prtRaise, any_present_eq_flagIn, h, prtEnter]

@[simp] theorem prtEnter_frame (c : FaultCode) (s : State) :
    (prtEnter c s).cyc = s.cyc ∧ (prtEnter c s).ramp = s.ramp ∧ (prtEnter c s).lck = s.lck ∧
    (prtEnter c s).reg = s.reg ∧ (prtEnter c s).drv = s.drv ∧ (prtEnter c s).bli = s.bli ∧
    (prtEnter c s).shr = s.shr ∧ (prtEnter c s).prt.faults = raiseFlag c s.alk.seconds s.prt.faults := by
  simp [prtEnter]

/-- An abort-class fault outside HEATING is noted in the record and does no more (R11). -/
theorem prtRaise_abort_apart {c : FaultCode} {s : State} (hc : c.cls = .abort) (hp : s.cyc.phase = .locking)
    (h : flagIn c true s.prt.faults = false) : prtRaise c s = cycFirstFault c (prtEnter c s) := by
  simp [prtRaise_new h, prtAction, hc, cycAbort, hp]

/-- An abort-class fault in HEATING ends the heating (R11). -/
theorem prtRaise_abort_heating {c : FaultCode} {s : State} (hc : c.cls = .abort) (hp : s.cyc.phase = .heating)
    (h : flagIn c true s.prt.faults = false) :
    prtRaise c s = cycLeaveHeating .cooling (cycOutcome .faultAborted (cycFirstFault c (prtEnter c s))) := by
  simp [prtRaise_new h, prtAction, hc, cycAbort, hp]

/-- A trip notice moves every phase but IDLE to TRIPPED, and leaves the lock as it is unless it stands UNLOCKED (R12, R58). -/
theorem cycTrip_effects (c : FaultCode) {s : State} (hs : ¬ s.lck.state = .unlocked) (hm : s.drv.main = false) :
    (cycTrip c s).lck = s.lck ∧ (cycTrip c s).drv.main = false ∧
      (cycTrip c s).cyc.phase = (if s.cyc.phase = .idle then .idle else .tripped) := by
  cases hp : s.cyc.phase <;>
    simp [cycTrip, hp, hm, cycLeaveHeating_lck, cycSetPhase_quiet, hs]

/-- A new trip-class fault, the lock not UNLOCKED (R12, R160): MAIN opens, and the cycle is in TRIPPED or stays in IDLE. -/
theorem prtRaise_trip {c : FaultCode} {s : State} (hc : c.cls = .trip) (hs : ¬ s.lck.state = .unlocked)
    (h : flagIn c true s.prt.faults = false) :
    (prtRaise c s).lck = s.lck ∧ (prtRaise c s).drv.main = false ∧
      (prtRaise c s).cyc.phase = (if s.cyc.phase = .idle then .idle else .tripped) := by
  have htrip : (prtEnter c s).hasTrip = true := hasTrip_raiseFlag hc (by simpa using flagIn_raiseFlag c _ _)
  have hmain : (drvMain (prtEnter c s)).drv.main = false := by simp [State.mainAllowed, htrip]
  have heq : prtRaise c s = cycTrip c (drvMain (prtEnter c s)) := by simp [prtRaise_new h, prtAction, hc]
  have heff := cycTrip_effects c (s := drvMain (prtEnter c s)) (by simpa using hs) hmain
  rw [heq]
  simpa using heff

theorem flagIn_prtRaise_trip {c : FaultCode} {s : State} (hc : c.cls = .trip) (h : flagIn c true s.prt.faults = false) :
    flagIn c true (prtRaise c s).prt.faults = true := by
  have hl : ¬ c = .elementLow := by rintro rfl; cases hc
  have hs : ¬ c = .slotTimeout := by rintro rfl; cases hc
  have hh : ¬ c = .heatTimeout := by rintro rfl; cases hc
  have heq : prtRaise c s = cycTrip c (drvMain (prtEnter c s)) := by simp [prtRaise_new h, prtAction, hc]
  have henter : flagIn c true (drvMain (prtEnter c s)).prt.faults = true := by
    simpa [hl] using flagIn_raiseFlag c _ _
  rw [heq]
  unfold cycTrip
  split <;> simpa [flagIn_cycLeaveHeating hl hs hh, hl] using henter

/-- A new trip-class fault in UNLOCKING reaches the cycle, its record and DRV, and no other block (R12). -/
theorem prtRaise_trip_unlocking {c : FaultCode} {s : State} (hc : c.cls = .trip) (hp : s.cyc.phase = .unlocking)
    (h : flagIn c true s.prt.faults = false) :
    (prtRaise c s).cyc.record.outcome = .tripped ∧ (prtRaise c s).ramp = s.ramp ∧ (prtRaise c s).bli = s.bli ∧
      (prtRaise c s).shr = s.shr := by
  have heq : prtRaise c s = cycSetPhase .tripped (cycFirstFault c (cycOutcome .tripped (drvMain (prtEnter c s)))) := by
    simp [prtRaise_new h, prtAction, hc, cycTrip, hp]
  rw [heq]
  simp only [cycSetPhase_frame]
  simp [cycFirstFault, cycOutcome]

/-! ## The unlock travel (R53, R54) -/

/-- An unlock drive, or the clearance at once where the latch is already free (R54). -/
theorem lckUnlockDrive_effects (s : State) :
    (lckUnlockDrive s).lck.state = s.lck.state ∧ (lckUnlockDrive s).lck.attempts = s.lck.attempts ∧
      (lckUnlockDrive s).lck.motor = .unlock ∧
      if s.latchEngaged then
        (lckUnlockDrive s).lck.stage = .unlockDrive ∧ (lckUnlockDrive s).lck.travelTimer = some (s.cfg .lt * 100)
      else (lckUnlockDrive s).lck.stage = .clearance ∧ (lckUnlockDrive s).lck.stageTimer = some 200 := by
  unfold lckUnlockDrive
  split_ifs <;> simp [lckClearance, State.travelMs]

@[simp] theorem lckUnlockDrive_blocks (s : State) :
    (lckUnlockDrive s).drv = s.drv ∧ (lckUnlockDrive s).prt = s.prt ∧ (lckUnlockDrive s).alk = s.alk := by
  unfold lckUnlockDrive
  split_ifs <;> simp [lckClearance]

/-- An unlock request taken: the first attempt of the travel (R53). -/
theorem lckUnlock_effects (s : State) :
    (lckUnlock s).lck.state = .unlocking ∧ (lckUnlock s).lck.attempts = 1 ∧ (lckUnlock s).lck.motor = .unlock ∧
      if s.latchEngaged then
        (lckUnlock s).lck.stage = .unlockDrive ∧ (lckUnlock s).lck.travelTimer = some (s.cfg .lt * 100)
      else (lckUnlock s).lck.stage = .clearance ∧ (lckUnlock s).lck.stageTimer = some 200 := by
  have h := lckUnlockDrive_effects ((lckSetState .unlocking s).modLck fun l => { l with attempts := 1 })
  have hcfg : ((lckSetState .unlocking s).modLck fun l => { l with attempts := 1 }).cfg .lt = s.cfg .lt :=
    State.cfg_congr (by simp) (by simp) _
  have hlatch : ((lckSetState .unlocking s).modLck fun l => { l with attempts := 1 }).latchEngaged = s.latchEngaged := by
    simp [State.latchEngaged]
  rw [hcfg, hlatch] at h
  simpa [lckUnlock] using h

/-! ## Taking an event (R13) -/

/-- The unlock travel that may begin at an event's end leaves the switches and start-up as they were. -/
@[simp] theorem takeEvent_switches (f : State → State) (s : State) :
    (takeEvent f s).lck.latch = (f s).lck.latch ∧ (takeEvent f s).lck.door = (f s).lck.door ∧
      (takeEvent f s).lck.startUp = (f s).lck.startUp ∧ (takeEvent f s).lck.testPass = (f s).lck.testPass := by
  rcases takeEvent_cases f s with h | ⟨h, -⟩ <;> simp [h]

/-- No unlock travel begins in the event where the lock state is not LOCKED at its end. -/
theorem takeEvent_of_state {f : State → State} {s : State} (h : (f s).lck.state ≠ .locked) : takeEvent f s = f s := by
  rcases takeEvent_cases f s with h1 | ⟨-, -, h1⟩
  · exact h1
  · exact absurd h1 h

/-- No unlock travel begins in an event that changes nothing that CYC examines. -/
theorem takeEvent_of_unexamined {f : State → State} {s : State} (h : examines s (f s) = false) : takeEvent f s = f s := by
  simp [takeEvent, h]

/-- An event that leaves LCK and the fault set as they were gives CYC nothing to examine. -/
theorem examines_eq_false {s t : State} (hl : t.lck = s.lck) (hp : t.prt.faults = s.prt.faults) : examines s t = false := by
  simp only [examines, State.travelling, hl, hp, bne_self_eq_false, Bool.and_not_self, Bool.or_self]

/-- A command that is answered without acting changes no block. -/
theorem takeEvent_answer {f : State → State} {s : State} {c : ResultCode} {bytes : List Byte} {params : Nat}
    (h : f s = linkAnswer c bytes (linkOpen params s)) :
    takeEvent f s = linkAnswer c bytes (linkOpen params s) ∧
      s.sameButLink (linkAnswer c bytes (linkOpen params s)) :=
  ⟨(takeEvent_of_unexamined (by rw [h]; exact examines_eq_false (by simp) (by simp))).trans h, sameButLink_answer _ _ _ _⟩

/-- The row that has run is known by the state it ends in. -/
theorem next_congr {s t : State} (h : s = t) : (Host.Outcome.next s : Host.Outcome State Fault Refusal) = .next t :=
  congrArg _ h

end Sys2Proof.Machine
end

section
/-! CERTIFICATE. The lock travels: the clearance, the seat, the expiries and the ends of the door return. -/

namespace Sys2Proof.Machine

/-! ## What the ends of a travel do (R49 to R55) -/

/-- The lock's own fields after an expiry that meets a change of the latch (log 37). -/
theorem lckLostGone_lck (s : State) : (lckLostGone s).lck = { s.lck with lockLostPresent := false } := by
  unfold lckLostGone
  split_ifs with h
  · simp
  · rw [← Bool.eq_false_iff.mpr h]

theorem lckForcedGone_lck (s : State) : (lckForcedGone s).lck = { s.lck with doorForcedPresent := false } := by
  unfold lckForcedGone
  split_ifs with h
  · simp
  · rw [← Bool.eq_false_iff.mpr h]

theorem flagIn_lckLostGone {c : FaultCode} (hc : ¬ c = .lockLost) (b : Bool) (s : State) :
    flagIn c b (lckLostGone s).prt.faults = flagIn c b s.prt.faults := by
  unfold lckLostGone
  split_ifs <;> simp [hc]

theorem flagIn_lckForcedGone {c : FaultCode} (hc : ¬ c = .doorForced) (b : Bool) (s : State) :
    flagIn c b (lckForcedGone s).prt.faults = flagIn c b s.prt.faults := by
  unfold lckForcedGone
  split_ifs <;> simp [hc]

theorem lckLostGone_of_absent {s : State} (h : s.lck.lockLostPresent = false) : lckLostGone s = s := by
  simp [lckLostGone, h]

theorem lckForcedGone_of_absent {s : State} (h : s.lck.doorForcedPresent = false) : lckForcedGone s = s := by
  simp [lckForcedGone, h]

/-- With neither condition standing an expiry brings at most the latch's new value (log 37). -/
theorem lckMeet_calm {s : State} (hl : s.lck.lockLostPresent = false) (hd : s.lck.doorForcedPresent = false) :
    lckMeet s = s.modLck fun l => { l with latch := (lckMeet s).lck.latch } := by
  by_cases h : s.lck.startUp = false ∧ s.lck.latch.timer = some 0
  · have heq : lckMeet s = s.modLck fun l => { l with latch := { l.latch with value := some l.latch.raw, timer := none } } := by
      simp only [lckMeet, if_pos h]
      split_ifs
      · exact lckLostGone_of_absent hl
      · exact lckForcedGone_of_absent hd
    rw [heq]
    rfl
  · have heq : lckMeet s = s := by simp only [lckMeet, if_neg h]
    rw [heq]
    rfl

/-- With LOCK_LOST absent an expiry brings at most the latch's new value and the end of DOOR_FORCED (log 37). -/
theorem lckMeet_lck_of_notLost {s : State} (hl : s.lck.lockLostPresent = false) :
    (lckMeet s).lck = { s.lck with
      latch := (lckMeet s).lck.latch, doorForcedPresent := (lckMeet s).lck.doorForcedPresent } := by
  unfold lckMeet
  simp only
  split_ifs
  · rw [lckLostGone_lck]
    simp [hl]
  · rw [lckForcedGone_lck]
    simp
  · rfl

/-- The latch as an expiry finds it: the raw level where its 50 ms end at that moment (log 37). -/
def State.latchAtExpiry (s : State) : Bool :=
  if s.lck.latch.timer = some 0 then s.lck.latch.raw else s.latchEngaged

theorem lckMeet_latchEngaged {s : State} (hu : s.lck.startUp = false) : (lckMeet s).latchEngaged = s.latchAtExpiry := by
  unfold State.latchAtExpiry
  split_ifs with h
  · simp [State.latchEngaged, lckMeet_latch s hu h]
  · rw [lckMeet_quiet s h]

theorem flagIn_lckMeet {c : FaultCode} (hl : ¬ c = .lockLost) (hd : ¬ c = .doorForced) (b : Bool) (s : State) :
    flagIn c b (lckMeet s).prt.faults = flagIn c b s.prt.faults := by
  unfold lckMeet
  simp only
  split_ifs
  · simp [flagIn_lckLostGone hl]
  · simp [flagIn_lckForcedGone hd]
  · rfl

/-- A lock failure of a cycle in LOCKING ends the attempts, and reaches CYC, PRT and what the phase tells alone (R52). -/
theorem lckFail_locking_apart {s : State} (hp : s.cyc.phase = .locking) :
    (lckFail s).lck = { s.lck with attempts := 0 } ∧ (lckFail s).ramp = s.ramp ∧ (lckFail s).bli = s.bli ∧
      (lckFail s).shr = s.shr := by
  have hraise : (prtRaise .lockFail (s.modLck fun l => { l with attempts := 0 })).cyc.phase = .locking ∧
      (prtRaise .lockFail (s.modLck fun l => { l with attempts := 0 })).lck = { s.lck with attempts := 0 } ∧
      (prtRaise .lockFail (s.modLck fun l => { l with attempts := 0 })).ramp = s.ramp ∧
      (prtRaise .lockFail (s.modLck fun l => { l with attempts := 0 })).bli = s.bli ∧
      (prtRaise .lockFail (s.modLck fun l => { l with attempts := 0 })).shr = s.shr := by
    cases hf : flagIn .lockFail true s.prt.faults with
    | true => simp [prtRaise_present, any_present_eq_flagIn, hf, hp]
    | false =>
      rw [prtRaise_abort_apart (s := s.modLck fun l => { l with attempts := 0 }) rfl hp hf]
      simp [cycFirstFault, hp]
  obtain ⟨hphase, hlck, hramp, hbli, hshr⟩ := hraise
  have hend : ¬ (if s.latchEngaged then Phase.cooling else .idle) = .tripped := by split_ifs <;> simp
  simp [lckFail, cycLockFailure, hphase, hlck, hramp, hbli, hshr, cycSetPhase_quiet, hend]

/-- A lock failure of a cycle in LOCKING (R6, R52): LOCK_FAIL stands gone, and the cycle ends by the latch. -/
theorem lckFail_locking {s : State} (hp : s.cyc.phase = .locking) (hf : flagIn .lockFail true s.prt.faults = false) :
    (lckFail s).cyc.phase = (if s.latchEngaged then .cooling else .idle) ∧
    (lckFail s).cyc.record.outcome = (if s.cyc.abortPending then .aborted else .lockFailed) ∧
    (lckFail s).cyc.record.firstFault = some (s.cyc.record.firstFault.getD .lockFail) ∧
    flagIn .lockFail false (lckFail s).prt.faults = true := by
  have hraise : prtRaise .lockFail (s.modLck fun l => { l with attempts := 0 }) =
      cycFirstFault .lockFail (prtEnter .lockFail (s.modLck fun l => { l with attempts := 0 })) :=
    prtRaise_abort_apart rfl hp hf
  have hgone : flagIn .lockFail false (prtGone .lockFail (cycFirstFault .lockFail (prtEnter .lockFail
      (s.modLck fun l => { l with attempts := 0 })))).prt.faults = true := by
    refine flagIn_prtGone_gone (b := true) ?_
    simpa using flagIn_raiseFlag .lockFail _ _
  have hphase : ¬ (if s.latchEngaged then Phase.cooling else .idle) = .tripped := by split_ifs <;> simp
  unfold lckFail
  rw [hraise, cycLockFailure]
  simp only [prtGone_frame, cycFirstFault, State.modCyc_cyc, prtEnter_frame, State.modLck_cyc, hp, if_true]
  refine ⟨?_, ?_, ?_, ?_⟩
  · simp
  · simp [cycOutcome]
  · simp [cycOutcome, Record.firstFaultAfter_eq]
  · rw [cycSetPhase_quiet (.inl hphase) |>.2.1]
    exact hgone

/-- The lock state as an unlock travel's end in JAMMED is recorded, before UNLOCK_FAIL (R55). -/
def jamEntered (s : State) : State :=
  (lckSetJammed s.latchEngaged (lckStop s)).modLck fun l => { l with attempts := 0 }

/-- A second failed unlock attempt (R55, R58): JAMMED carrying the latch, or UNLOCKED where it is free and the door open; the
cycle is in TRIPPED with UNLOCK_FAIL gone. -/
theorem lckUnlockJam_unlocking {s : State} (hp : s.cyc.phase = .unlocking)
    (hf : flagIn .unlockFail true s.prt.faults = false) :
    (lckUnlockJam s).lck = { s.lck with
      state := if s.latchEngaged = false ∧ s.doorOpen then .unlocked else .jammed, carried := s.latchEngaged,
      stage := .none, motor := .off, travelTimer := none, stageTimer := none, attempts := 0 } ∧
    (lckUnlockJam s).cyc.phase = .tripped ∧ (lckUnlockJam s).cyc.record.outcome = .tripped ∧
    flagIn .unlockFail false (lckUnlockJam s).prt.faults = true ∧
    (lckUnlockJam s).ramp = s.ramp ∧ (lckUnlockJam s).bli = s.bli ∧ (lckUnlockJam s).shr = s.shr := by
  have hs1 : (jamEntered s).lck = { s.lck with
      state := .jammed, carried := s.latchEngaged, stage := .none, motor := .off, travelTimer := none, stageTimer := none,
      attempts := 0 } := by simp [jamEntered]
  have hframe : (jamEntered s).ramp = s.ramp ∧ (jamEntered s).bli = s.bli ∧ (jamEntered s).shr = s.shr := by
    simp [jamEntered]
  have hf1 : flagIn .unlockFail true (jamEntered s).prt.faults = false := by simpa [jamEntered] using hf
  have hp1 : (jamEntered s).cyc.phase = .unlocking := by simpa [jamEntered] using hp
  obtain ⟨hlck, -, hphase⟩ := prtRaise_trip (c := .unlockFail) rfl (by simp [hs1]) hf1
  obtain ⟨houtcome, hramp, hbli, hshr⟩ := prtRaise_trip_unlocking (c := .unlockFail) rfl hp1 hf1
  have hgone := flagIn_prtGone_gone (flagIn_prtRaise_trip (c := .unlockFail) rfl hf1)
  rw [hp1] at hphase
  have hfree : lckUnlockJam s = lckJamEnds (prtGone .unlockFail (prtRaise .unlockFail (jamEntered s))) := rfl
  rw [hfree, lckJamEnds]
  split_ifs with h1 h2 h2
  · have hl : (lckSetState .unlocked (prtGone .unlockFail (prtRaise .unlockFail (jamEntered s)))).latchEngaged = false := by
      simpa [State.latchEngaged, hlck, hs1] using h2.1
    rw [lckEnterUnlocked, lckTripped_of_free hl]
    simp [hlck, hs1, hphase, houtcome, hramp, hbli, hshr, hgone, hframe]
  · simp [hlck, hs1, State.doorOpen] at h1
    exact absurd ⟨h1.1, by simpa [State.doorOpen] using h1.2⟩ h2
  · simp [hlck, hs1, State.doorOpen] at h1
    exact absurd (by simpa [State.doorOpen] using h2.2) (by simpa using h1 h2.1)
  · simp [hlck, hs1, hphase, houtcome, hramp, hbli, hshr, hgone, hframe]

/-- A lock travel given up: JAMMED carrying an engaged latch or UNLOCKED with a free one, as a lock failure (R51, R52). -/
def lckGiveUp (s : State) : State :=
  lckFail (if s.latchEngaged then lckSetJammed true s else lckEnterUnlocked s)

theorem lckGiveUp_frame (s : State) :
    (lckGiveUp s).prf = s.prf ∧ (lckGiveUp s).tms = s.tms ∧ (lckGiveUp s).ptb = s.ptb ∧ (lckGiveUp s).lck.door = s.lck.door := by
  unfold lckGiveUp
  split_ifs <;> simp

theorem lckReturnEnd_eq (s : State) : lckReturnEnd s = lckGiveUp (lckStop s) := by
  unfold lckReturnEnd lckGiveUp
  simp only
  split_ifs <;> rfl

theorem lckDoorOpened_eq (s : State) (h : s.unlockTest = false) :
    lckDoorOpened s = lckGiveUp ((lckStop s).modLck fun l => { l with attempts := 0 }) := by
  have ht : ((lckStop s).modLck fun l => { l with attempts := 0 }).unlockTest = false := h
  unfold lckDoorOpened lckGiveUp
  simp only [ht]
  split_ifs <;> simp_all

/-- The state in which a given-up travel is reported as a lock failure. -/
theorem lckGiveUp_eq {s : State} (hp : s.cyc.phase = .locking) :
    lckGiveUp s = lckFail (if s.latchEngaged then lckSetJammed true s else lckSetState .unlocked s) := by
  have heq : lckEnterUnlocked s = lckSetState .unlocked s := lckTripped_of_phase (by simp [hp])
  rw [lckGiveUp, heq]

theorem lckGiveUp_locking_apart {s : State} (hp : s.cyc.phase = .locking) :
    (lckGiveUp s).lck = { s.lck with
      state := if s.latchEngaged then .jammed else .unlocked,
      carried := s.latchEngaged || s.lck.carried, attempts := 0 } ∧
    (lckGiveUp s).ramp = s.ramp ∧ (lckGiveUp s).bli = s.bli ∧ (lckGiveUp s).shr = s.shr := by
  rw [lckGiveUp_eq hp]
  cases hl : s.latchEngaged with
  | true =>
    obtain ⟨hlck, hramp, hbli, hshr⟩ := lckFail_locking_apart (s := lckSetJammed true s) (by simpa using hp)
    simp [hlck, hramp, hbli, hshr]
  | false =>
    obtain ⟨hlck, hramp, hbli, hshr⟩ := lckFail_locking_apart (s := lckSetState .unlocked s) (by simpa using hp)
    simp [hlck, hramp, hbli, hshr]

theorem lckGiveUp_locking {s : State} (hp : s.cyc.phase = .locking) (hf : flagIn .lockFail true s.prt.faults = false) :
    (lckGiveUp s).cyc.phase = (if s.latchEngaged then .cooling else .idle) ∧
    (lckGiveUp s).cyc.record.outcome = (if s.cyc.abortPending then .aborted else .lockFailed) ∧
    flagIn .lockFail false (lckGiveUp s).prt.faults = true := by
  rw [lckGiveUp_eq hp]
  cases hl : s.latchEngaged with
  | true =>
    have hl' : (lckSetJammed true s).latchEngaged = true := by simpa [State.latchEngaged] using hl
    obtain ⟨hphase, hout, -, hflag⟩ :=
      lckFail_locking (s := lckSetJammed true s) (by simpa using hp) (by simpa using hf)
    simp [hphase, hl', hout, hflag]
  | false =>
    have hl' : (lckSetState .unlocked s).latchEngaged = false := by simpa [State.latchEngaged] using hl
    obtain ⟨hphase, hout, -, hflag⟩ :=
      lckFail_locking (s := lckSetState .unlocked s) (by simpa using hp) (by simpa using hf)
    simp [hphase, hl', hout, hflag]

/-! ## The obligations -/

/-- Settles O47: the clearance's end stops the travel, enters UNLOCKED and tells CYC. -/
theorem clearanceEndUnlocks : Obligations.ClearanceEndUnlocks := by
  intro s hstage hp
  have hrun : lckClearanceEnd s = lckUnlockDone s := by simp [lckClearanceEnd, hstage]
  have hentered : lckEnterUnlocked ((lckStop s).modLck fun l => { l with attempts := 0 }) =
      lckSetState .unlocked ((lckStop s).modLck fun l => { l with attempts := 0 }) :=
    lckTripped_of_phase (by simp [hp])
  have hdone : lckUnlockDone s =
      cycSetPhase .idle (lckSetState .unlocked ((lckStop s).modLck fun l => { l with attempts := 0 })) := by
    simp [lckUnlockDone, hentered, cycUnlocked, hp]
  have hevent : takeEvent lckClearanceEnd s = lckClearanceEnd s := takeEvent_of_phase _ _ (by simp [hrun, hdone])
  refine ⟨lckClearanceEnd s, congrArg _ hevent, ?_⟩
  rw [hrun, hdone, cycSetPhase_coolTimer (by simp [hp]) (.inl rfl)]
  simp [cycSetPhase_quiet, lckStop]

theorem lckAttemptFailed_first {s : State} (h : s.lck.attempts < 2) :
    lckAttemptFailed s = s.modLck fun l => { l with
      stage := .lockBackDrive, motor := .unlock, travelTimer := none, stageTimer := some s.travelMs } :=
  if_pos h

/-- Settles O43: the expiry is judged by the latch that it meets; the second attempt ends in a lock failure. -/
theorem lockDriveExpires : Obligations.LockDriveExpires := by
  intro s met hstage hstate hu hfree hlost hforced hmet
  have hmet' : (lckMeet s).latchEngaged = met := by
    rw [lckMeet_latchEngaged hu, hmet]
    unfold State.latchAtExpiry
    split_ifs with h <;> simp [h, hfree]
  have hcalm := lckMeet_calm hlost hforced
  have hrun : lckDriveExpiry s = lckAttemptFailed (lckStop (lckMeet s)) := by simp [lckDriveExpiry, hstage]
  by_cases ha : s.lck.attempts < 2
  · have hback : lckDriveExpiry s = s.modLck fun l => { l with
        latch := (lckMeet s).lck.latch, stage := .lockBackDrive, motor := .unlock, travelTimer := none
        stageTimer := some (s.cfg .lt * 100) } := by
      rw [hrun, lckAttemptFailed_first (by simpa using ha)]
      conv_lhs => rw [hcalm]
      rfl
    have hevent : takeEvent lckDriveExpiry s = lckDriveExpiry s :=
      takeEvent_of_state (by simp [hback, hstate])
    refine ⟨lckDriveExpiry s, congrArg _ hevent, ?_, fun ht => ?_, ?_⟩
    · rw [← hmet', hback]
      rfl
    · rw [hback, lckMeet_quiet s ht]
      rfl
    · rw [if_pos ha, hback]
      exact ⟨rfl, rfl⟩
  · have hfail : lckDriveExpiry s = lckFail (lckSetJammed met (lckStop (lckStop (lckMeet s)))) := by
      rw [hrun, ← hmet']
      simp [lckAttemptFailed, lckStop, ha, State.latchEngaged]
    have hlatch : (lckDriveExpiry s).lck.latch = (lckMeet s).lck.latch := by simp [hfail]
    refine ⟨takeEvent lckDriveExpiry s, rfl, ?_, fun ht => ?_, ?_⟩
    · rw [← hmet']
      simp only [State.latchEngaged, takeEvent_switches, hlatch]
    · rw [(takeEvent_switches _ _).1, hlatch, lckMeet_quiet s ht]
    rw [if_neg ha]
    intro hp hnot
    have hp' : (lckSetJammed met (lckStop (lckStop (lckMeet s)))).cyc.phase = .locking := by simpa using hp
    have hf : flagIn .lockFail true (lckSetJammed met (lckStop (lckStop (lckMeet s)))).prt.faults = false := by
      simpa [flagIn_lckMeet] using flagIn_of_not_holdsFault hnot
    have hlatch' : (lckSetJammed met (lckStop (lckStop (lckMeet s)))).latchEngaged = met := by
      rw [← hmet']
      simp [State.latchEngaged]
    obtain ⟨hlck, hramp, hbli, hshr⟩ := lckFail_locking_apart hp'
    obtain ⟨hphase, hout, hfirst, hflag⟩ := lckFail_locking hp' hf
    rw [takeEvent_of_state (by simp [hfail, hlck]), hfail]
    simpa [hlck, hphase, hout, hfirst, hramp, hbli, hshr, hlatch'] using (flagIn_iff _ _ _).mp hflag

/-- The expiry of a first unlock drive begins the back-drive (R55); the latch that it meets ends at most DOOR_FORCED. -/
theorem unlockDriveExpiry_first {s : State} (hstage : s.lck.stage = .unlockDrive) (ha : s.lck.attempts < 2) :
    lckUnlockExpiry s = (lckStop (lckMeet s)).modLck fun l => { l with
      stage := .unlockBackDrive, motor := .lock, travelTimer := none, stageTimer := some (s.cfg .lt * 100) } := by
  have hlt : (lckStop (lckMeet s)).travelMs = s.cfg .lt * 100 := by
    simp only [State.travelMs]
    rw [State.cfg_congr (s := s) (by simp) (by simp)]
  simp [lckUnlockExpiry, hstage, lckUnlockFailed, ha, hlt]

/-- The blocks that take no part in the end of a travel are as they were. -/
def SameBesideLock (s m : State) : Prop :=
  m.ramp = s.ramp ∧ m.prf = s.prf ∧ m.tms = s.tms ∧ m.bli = s.bli ∧ m.ptb = s.ptb ∧ m.shr = s.shr

/-- Settles O46: each end is LCK's jam or its giving up, after the latch that an expiry meets. -/
theorem unlockTravelsEnd : Obligations.UnlockTravelsEnd := by
  intro s shows hshows jammed returned
  have hshows' : shows = s.latchAtExpiry := hshows
  have hjammed : ∀ (m : State) (latch : Bool), m.cyc.phase = .unlocking → flagIn .unlockFail true m.prt.faults = false →
      m.latchEngaged = latch → m.doorOpen = s.doorOpen → SameBesideLock s m →
      jammed latch (lckUnlockJam m) ∧ ¬ (lckUnlockJam m).lck.state = .locked := by
    rintro m latch hp hf hlatch hdoor ⟨hramp, hprf, htms, hbli, hptb, hshr⟩
    obtain ⟨hlck, hphase, hout, hflag, hramp', hbli', hshr'⟩ := lckUnlockJam_unlocking hp hf
    rw [hlatch, hdoor] at hlck
    refine ⟨⟨?_, by simp [hlck], by simp [hlck], by simp [hlck], hphase, hout, hflag, hramp'.trans hramp, by simp [hprf],
      by simp [htms], hbli'.trans hbli, by simp [hptb], hshr'.trans hshr⟩, ?_⟩
    · split_ifs with h <;> simp [hlck, h]
    · rw [hlck]
      dsimp only
      split_ifs <;> simp
  have hreturned : ∀ (m : State) (latch : Bool), m.cyc.phase = .locking → m.cyc.abortPending = s.cyc.abortPending →
      flagIn .lockFail true m.prt.faults = false → m.latchEngaged = latch → SameBesideLock s m →
      returned latch (lckGiveUp (lckStop m)) ∧ ¬ (lckGiveUp (lckStop m)).lck.state = .locked := by
    rintro m latch hp habort hf hlatch ⟨hramp, hprf, htms, hbli, hptb, hshr⟩
    obtain ⟨hlck, hramp', hbli', hshr'⟩ := lckGiveUp_locking_apart (s := lckStop m) hp
    obtain ⟨hphase, hout, hflag⟩ := lckGiveUp_locking (s := lckStop m) hp hf
    have hlatch' : (lckStop m).latchEngaged = latch := hlatch
    rw [hlatch'] at hlck hphase
    refine ⟨⟨?_, by simp [hlck], by simp [hlck], by simp [hlck], hflag, hphase, by simp [hout, habort],
      hramp'.trans hramp, by simp [lckGiveUp_frame, hprf], by simp [lckGiveUp_frame, htms], hbli'.trans hbli,
      by simp [lckGiveUp_frame, hptb], hshr'.trans hshr⟩, ?_⟩
    · split_ifs with h <;> simp [hlck, h]
    · rw [hlck]
      dsimp only
      split_ifs <;> simp
  refine ⟨?first, ?second, ?pause, ?door⟩
  case first =>
    intro hstage ha hstate hu hlost
    have hrun := unlockDriveExpiry_first hstage ha
    have hevent : takeEvent lckUnlockExpiry s = lckUnlockExpiry s := takeEvent_of_state (by simp [hrun, hstate])
    refine ⟨lckUnlockExpiry s, congrArg _ hevent, ?_, ?_, ?_⟩
    · rw [hrun]
      apply State.eq_of_blocks <;> simp
    · have hmeet := lckMeet_lck_of_notLost hlost
      simp only [hrun, State.modLck_lck, lckStop_lck]
      conv_lhs => rw [hmeet]
    · split_ifs with ht
      · simp [hrun, lckMeet_latch s hu ht]
      · simp [hrun, lckMeet_quiet s ht]
  case second =>
    intro hstage ha hstate hu hp hnot
    have hrun : lckUnlockExpiry s = lckUnlockJam (lckStop (lckMeet s)) := by
      simp [lckUnlockExpiry, hstage, lckUnlockFailed, Nat.not_lt.mpr ha]
    have hlatch : (lckStop (lckMeet s)).latchEngaged = shows := hshows' ▸ lckMeet_latchEngaged hu
    have hjam := hjammed (lckStop (lckMeet s)) shows (by simpa using hp)
      (by simpa [flagIn_lckMeet] using flagIn_of_not_holdsFault hnot) hlatch (by simp [State.doorOpen])
      (by simp [SameBesideLock])
    rw [← hrun] at hjam
    exact ⟨lckUnlockExpiry s, congrArg _ (takeEvent_of_state (hjam.2)), hjam.1⟩
  case pause =>
    intro hstage hstate hp
    cases ht : s.unlockTest with
    | true =>
      have hrun : lckUnlockPause s = lckUnlockDrive (lckRetry 1 s) := by simp [lckUnlockPause, hstage, ht]
      have hlatch : (lckRetry 1 s).latchEngaged = s.latchEngaged := by simp [State.latchEngaged, lckRetry]
      have hcfg : (lckRetry 1 s).cfg .lt = s.cfg .lt := State.cfg_congr (by simp [lckRetry]) (by simp [lckRetry]) _
      obtain ⟨hst, hatt, hmotor, hdrive⟩ := lckUnlockDrive_effects (lckRetry 1 s)
      rw [← hrun] at hst hatt hmotor hdrive
      rw [hlatch, hcfg] at hdrive
      have hunlocking : (lckUnlockPause s).lck.state = .unlocking := hst.trans (by simp [lckRetry, hstate])
      refine ⟨lckUnlockPause s, congrArg _ (takeEvent_of_state (by simp [hunlocking])), ?_⟩
      exact ⟨hatt.trans (by simp [lckRetry]), hmotor, hunlocking, by simp [hrun, lckRetry], hdrive⟩
    | false =>
      have hrun : lckUnlockPause s = lckUnlockJam s := by simp [lckUnlockPause, hstage, ht]
      refine ⟨takeEvent lckUnlockPause s, rfl, fun hnot => ?_⟩
      have hjam := hjammed s s.latchEngaged hp (flagIn_of_not_holdsFault hnot) rfl rfl
        ⟨rfl, rfl, rfl, rfl, rfl, rfl⟩
      rw [← hrun] at hjam
      rw [takeEvent_of_state hjam.2]
      exact hjam.1
  case door =>
    intro hstage hstate hu hp hnot
    refine ⟨⟨takeEvent lckUnlockExpiry s, rfl, ?_⟩, fun hcl => ⟨takeEvent lckClearanceEnd s, rfl, ?_⟩⟩
    · have hrun : lckUnlockExpiry s = lckGiveUp (lckStop (lckMeet s)) := by
        rw [← lckReturnEnd_eq]
        rcases hstage with h | h <;> simp [lckUnlockExpiry, h]
      have hret := hreturned (lckMeet s) shows (by simpa using hp) (by simp)
        (by simpa [flagIn_lckMeet] using flagIn_of_not_holdsFault hnot) (hshows' ▸ lckMeet_latchEngaged hu)
        (by simp [SameBesideLock])
      rw [← hrun] at hret
      rw [takeEvent_of_state hret.2]
      exact hret.1
    · have hrun : lckClearanceEnd s = lckGiveUp (lckStop s) := by simp [lckClearanceEnd, hcl, lckReturnEnd_eq]
      have hret := hreturned s s.latchEngaged hp rfl (flagIn_of_not_holdsFault hnot) rfl ⟨rfl, rfl, rfl, rfl, rfl, rfl⟩
      rw [← hrun] at hret
      rw [takeEvent_of_state hret.2]
      exact hret.1

end Sys2Proof.Machine
end

section
/-! CERTIFICATE. The seat's end and the debounced switch values. -/

namespace Sys2Proof.Machine

/-! ## The seat's end (R7, R31, R49) -/

/-- The segments go by the table alone (R23). -/
theorem State.segmentAt_congr {s t : State} (h : t.prf = s.prf) (i : Nat) : t.segmentAt i = s.segmentAt i := by
  simp [State.segmentAt, h]

/-- A RAMP segment outside a burn run begins at once: its timers at 0, its direction set, its event recorded (R32). -/
theorem rampBegin_ramp {i : Nat} {s : State} (hk : (s.segmentAt i).kind = .ramp) (hb : (s.segmentAt i).burn = false)
    (hf : s.ramp.slotFlag = .none) :
    (rampBegin i s).cyc = s.cyc ∧ (rampBegin i s).lck = s.lck ∧ (rampBegin i s).reg = s.reg ∧
      (rampBegin i s).drv = s.drv ∧ (rampBegin i s).shr = s.shr ∧ (rampBegin i s).ramp.state = .ramping ∧
      (rampBegin i s).ramp.segIndex = i ∧ (rampBegin i s).ramp.slotFlag = .none ∧
      (rampBegin i s).ramp.stepTimer = s.ramp.stepTimer := by
  have hseg : (s.modRamp fun r => { r with segIndex := i }).segment = s.segmentAt i := rfl
  simp [rampBegin, hseg, hb, hf, rampEnter, hk]

/-- The engine starts on a first segment that is a RAMP outside a burn run (R31). -/
theorem rampStart_ramp {s : State} (hk : (s.segmentAt 0).kind = .ramp) (hb : (s.segmentAt 0).burn = false) :
    (rampStart s).cyc = s.cyc ∧ (rampStart s).lck = s.lck ∧ (rampStart s).reg = s.reg ∧ (rampStart s).drv = s.drv ∧
      (rampStart s).shr = s.shr ∧ (rampStart s).ramp.state = .ramping ∧ (rampStart s).ramp.segIndex = 0 ∧
      (rampStart s).ramp.sp = min s.tms.a.filtered (s.cfg .tmax) ∧ (rampStart s).ramp.slotFlag = .none ∧
      (rampStart s).ramp.stepTimer = some 1000 := by
  obtain ⟨hcyc, hlck, hreg, hdrv, hshr, hstate, hidx, hflag, hstep⟩ :=
    rampBegin_ramp (i := 0) (s := s.modRamp fun r => { r with
      sp := min s.filteredA (s.cfg .tmax : Int), frac := 0, holdTimer := 0, segTimer := 0, dropRun := 0, slotWait := 0,
      heatTimeoutRaised := false, slotFlag := .none, stepTimer := some secondMs }) hk hb rfl
  exact ⟨hcyc, hlck, hreg, hdrv, hshr, hstate, hidx, by simp [rampStart, State.filteredA], hflag, hstep⟩

/-- The state in which the ramp engine starts: the phase told, MAIN permitted, REG and DRV's counters begun (R7, R74, R101). -/
def heatingReady (s : State) : State :=
  heatingStart (drvMain ((cycSetPhase .heating s).modDrv fun d => { d with permitted := true }))

theorem heatingReady_frame (s : State) :
    (heatingReady s).lck = s.lck ∧ (heatingReady s).shr = s.shr ∧ (heatingReady s).prf = s.prf ∧
    (heatingReady s).tms = s.tms ∧ (heatingReady s).ptb = s.ptb ∧ (heatingReady s).alk.items = s.alk.items ∧
    (heatingReady s).alk.committed = s.alk.committed ∧ (heatingReady s).cyc.record = s.cyc.record := by
  simp [heatingReady, cycSetPhase_quiet]

theorem heatingReady_effects (s : State) :
    (heatingReady s).cyc.phase = .heating ∧ (heatingReady s).drv.permitted = true ∧
    (heatingReady s).drv.main = (s.lck.state == .locked && !s.hasTrip) ∧ (heatingReady s).reg.demand = 0 ∧
    (heatingReady s).reg.integral = 0 ∧ (heatingReady s).reg.limited = true ∧
    (heatingReady s).reg.evalTimer = some 1000 := by
  have htrip : ((cycSetPhase .heating s).modDrv fun d => { d with permitted := true }).hasTrip = s.hasTrip :=
    hasTrip_cycSetPhase .heating s
  simp [heatingReady, heatingStart, State.mainAllowed, htrip, cycSetPhase_quiet, secondMs]

/-- The lock state and DRV as the seat's end with the latch engaged leaves them, before CYC is told (R49). -/
def seatLocked (s : State) : State :=
  lckSetState .locked ((lckStop s).modLck fun l => { l with attempts := 0 })

theorem seatLocked_frame (s : State) :
    (seatLocked s).lck = { s.lck with
      state := .locked, attempts := 0, stage := .none, motor := .off, travelTimer := none, stageTimer := none } ∧
    (seatLocked s).cyc = s.cyc ∧ (seatLocked s).ramp = s.ramp ∧ (seatLocked s).prf = s.prf ∧ (seatLocked s).tms = s.tms ∧
    (seatLocked s).ptb = s.ptb ∧ (seatLocked s).shr = s.shr ∧ (seatLocked s).alk.items = s.alk.items ∧
    (seatLocked s).alk.committed = s.alk.committed ∧ (seatLocked s).hasTrip = s.hasTrip := by
  have htrip : ((lckStop s).modLck fun l => { l with attempts := 0 }).hasTrip = s.hasTrip := rfl
  simp [seatLocked, htrip]

/-- Settles O45: the seat's end locks the door, and CYC in LOCKING enters HEATING or ends an aborted cycle. -/
theorem seatEndLocks : Obligations.SeatEndLocks := by
  intro s hstage hl hp hk hb
  obtain ⟨hlck, hcyc, hramp, hprf, htms, hptb, hshr, hitems, hcommitted, htrip⟩ := seatLocked_frame s
  have hrun : lckSeatEnd s = cycLocked (seatLocked s) := by simp [lckSeatEnd, hstage, hl, lckLocked, seatLocked]
  cases ha : s.cyc.abortPending with
  | true =>
    have heq : lckSeatEnd s = cycSetPhase .cooling (cycOutcome .aborted (seatLocked s)) := by
      simp [hrun, cycLocked, hcyc, hp, ha]
    refine ⟨lckSeatEnd s, congrArg _ (takeEvent_of_phase _ _ (by simp [heq])), ?_⟩
    simp [heq, cycSetPhase_quiet, hlck, hprf, htms, hptb, hshr, hramp, cycSetPhase_cyc, cycOutcome, hcyc, hp]
  | false =>
    have heq : lckSeatEnd s = rampStart (heatingReady (seatLocked s)) := by
      simp [hrun, cycLocked, hcyc, hp, ha, cycEnterHeating, heatingReady]
    obtain ⟨rlck, rshr, rprf, rtms, rptb, ritems, rcommitted, rrecord⟩ := heatingReady_frame (seatLocked s)
    obtain ⟨rphase, rpermitted, rmain, rdemand, rintegral, rlimited, reval⟩ := heatingReady_effects (seatLocked s)
    have hseg : (heatingReady (seatLocked s)).segmentAt 0 = s.segmentAt 0 := State.segmentAt_congr (rprf.trans hprf) 0
    have hcfg : (heatingReady (seatLocked s)).cfg .tmax = s.cfg .tmax :=
      State.cfg_congr (ritems.trans hitems) (rcommitted.trans hcommitted) _
    obtain ⟨tcyc, tlck, treg, tdrv, tshr, tstate, tidx, tsp, tflag, tstep⟩ :=
      rampStart_ramp (s := heatingReady (seatLocked s)) (hseg ▸ hk) (hseg ▸ hb)
    refine ⟨lckSeatEnd s, congrArg _ (takeEvent_of_phase _ _ (by simp [heq, tcyc, rphase])), ?_⟩
    rw [heq]
    simp [tcyc, tlck, treg, tdrv, tshr, tstate, tidx, tsp, tflag, tstep, rlck, rshr, rprf, rtms, rptb, rrecord, rphase,
      rpermitted, rmain, rdemand, rintegral, rlimited, reval, hlck, hcyc, hprf, htms, hptb, hshr, htrip, hcfg]

/-! ## The debounced values (R43, R44, R51, R56 to R58) -/

/-- The state with a new debounced latch value (R43). -/
def withLatch (level : Bool) (s : State) : State :=
  s.modLck fun l => { l with latch := { raw := level, value := some level, timer := none } }

/-- The state with a new debounced door value (R43). -/
def withDoor (level : Bool) (s : State) : State :=
  s.modLck fun l => { l with door := { raw := level, value := some level, timer := none } }

/-- A changed value is written before LCK acts on it (R43). -/
theorem lckDebounced_latch (level : Bool) (s : State) (h : s.lck.latch.value ≠ some level) :
    lckDebounced .latch level s = lckActs .latch level (withLatch level s) := by
  simp [lckDebounced, Lck.switch, Lck.setSwitch, h, withLatch]

theorem lckDebounced_door (level : Bool) (s : State) (h : s.lck.door.value ≠ some level) :
    lckDebounced .door level s = lckActs .door level (withDoor level s) := by
  simp [lckDebounced, Lck.switch, Lck.setSwitch, h, withDoor]

/-- After start-up a latch that comes to show free is LCK's to judge (R49 to R57). -/
theorem lckDebounced_latch_free {s : State} (hu : s.lck.startUp = false) (hl : s.latchEngaged = true) :
    lckDebounced .latch false s = lckLatchFree (withLatch false s) := by
  have hvalue : s.lck.latch.value = some true := by simpa [State.latchEngaged] using hl
  rw [lckDebounced_latch false s (by simp [hvalue])]
  simp [lckActs, withLatch, hu]

theorem lckDebounced_latch_engaged {s : State} (hu : s.lck.startUp = false) (hl : s.latchEngaged = false) :
    lckDebounced .latch true s = lckLatchEngaged (withLatch true s) := by
  have hvalue : s.lck.latch.value ≠ some true := by simpa [State.latchEngaged] using hl
  rw [lckDebounced_latch true s hvalue]
  simp [lckActs, withLatch, hu]

theorem lckDebounced_door_open {s : State} (hu : s.lck.startUp = false) (hd : s.doorOpen = false) :
    lckDebounced .door false s = lckDoorOpens (withDoor false s) := by
  have hvalue : s.lck.door.value ≠ some false := by simpa [State.doorOpen] using hd
  rw [lckDebounced_door false s hvalue]
  simp [lckActs, withDoor, hu]

/-- A held door whose latch comes to show free outside a travel is LOCK_LOST (R56). -/
theorem lckLatchFree_held {s : State} (hstage : s.lck.stage = .none) (hh : s.doorHeld = true) :
    lckLatchFree s = lckLost (lckForcedGone s) := by
  have hh' : (lckForcedGone s).doorHeld = true := by
    rw [State.doorHeld, lckForcedGone_lck]
    exact hh
  simp [lckLatchFree, hstage, hh']

/-- The oldest trip-class entry goes by the codes alone (R2). -/
theorem oldestTrip_congr {s t : State} (h : t.prt.faults.map FaultEntry.code = s.prt.faults.map FaultEntry.code) :
    t.oldestTrip = s.oldestTrip := by
  have key : ∀ l : List FaultEntry, (l.find? FaultEntry.isTrip).map FaultEntry.code =
      (l.map FaultEntry.code).find? fun c => c.cls == .trip := by
    intro l
    rw [List.find?_map]
    rfl
  simp only [State.oldestTrip, key, h]

/-- The lock state that ends start-up is entered and recorded, and MAIN follows it, before CYC takes the report (R44). -/
def startedUp (engaged : Bool) (s : State) : State :=
  drvMain (lckRecord ((withLatch engaged s).modLck fun l =>
    { l with startUp := false, state := if engaged then .locked else .unlocked }))

theorem oldestTrip_startedUp (engaged : Bool) (s : State) : (startedUp engaged s).oldestTrip = s.oldestTrip := by
  exact oldestTrip_congr (by simp [startedUp, withLatch])

/-- The end of start-up with the latch engaged (R2, R44): HELD, or TRIPPED by the oldest trip-class entry. -/
theorem cycLatchReport_engaged {s : State} (hp : s.cyc.phase = .idle) :
    match s.oldestTrip with
    | none => (cycLatchReport true s).cyc.phase = .held ∧ (cycLatchReport true s).lck = s.lck ∧
        (cycLatchReport true s).cyc.record = s.cyc.record
    | some c => (cycLatchReport true s).cyc.phase = .tripped ∧ (cycLatchReport true s).cyc.record.outcome = .tripped ∧
        (cycLatchReport true s).cyc.record.firstFault = some c := by
  cases ht : s.oldestTrip <;> simp [cycLatchReport, hp, ht, cycSetPhase_quiet]

/-- MAIN stays open where JAMMED is entered (R96). -/
theorem lckSetJammed_main_open {v : Bool} {s : State} (h : s.drv.main = false) : (lckSetJammed v s).drv.main = false := by
  unfold lckSetJammed
  split_ifs
  · exact h
  · simp [State.mainAllowed]

/-- A jam carrying a free latch ends where the door shows open (R58). -/
theorem lckJamEnds_free {s : State} (hs : s.lck.state = .jammed) (hc : s.lck.carried = false) (hl : s.latchEngaged = false) :
    lckJamEnds s = if s.doorOpen then lckSetState .unlocked s else s := by
  have htest : lckEnterUnlocked s = lckSetState .unlocked s :=
    lckTripped_of_free (by simpa [State.latchEngaged] using hl)
  simp [lckJamEnds, hs, hc, htest]

/-- LOCK_LOST of a door just found held with the latch free (R56, R58), the unlock test not passing. -/
theorem lckLost_effects {s : State} (hs : ¬ s.lck.state = .unlocked) (hl : s.latchEngaged = false) (ht : s.lck.testPass = false)
    (hf : flagIn .lockLost true s.prt.faults = false) :
    (lckLost s).lck = { s.lck with
      lockLostPresent := true, carried := false, state := if s.doorOpen then .unlocked else .jammed } ∧
    flagIn .lockLost true (lckLost s).prt.faults = true ∧ (lckLost s).drv.main = false ∧
    (lckLost s).cyc.phase = (if s.cyc.phase = .idle then .idle else .tripped) := by
  obtain ⟨hlck, hmain, hphase⟩ :=
    prtRaise_trip (c := .lockLost) (s := s.modLck fun l => { l with lockLostPresent := true }) rfl hs hf
  have hflag := flagIn_prtRaise_trip (c := .lockLost) (s := s.modLck fun l => { l with lockLostPresent := true }) rfl hf
  have hphase' : (prtRaise .lockLost (s.modLck fun l => { l with lockLostPresent := true })).cyc.phase =
      if s.cyc.phase = .idle then .idle else .tripped := hphase
  have hjam := lckJamEnds_free (s := lckSetJammed false (prtRaise .lockLost (s.modLck fun l => { l with lockLostPresent := true })))
    (by simp) (by simp) (by simpa [State.latchEngaged] using hl)
  have hdoor : (lckSetJammed false (prtRaise .lockLost (s.modLck fun l => { l with lockLostPresent := true }))).doorOpen =
      s.doorOpen := by simp [State.doorOpen]
  have hrun : lckLost s =
      lckJamEnds (lckSetJammed false (prtRaise .lockLost (s.modLck fun l => { l with lockLostPresent := true }))) := by
    simp [lckLost, ht]
  rw [hrun, hjam, hdoor]
  have hopen := lckSetJammed_main_open (v := false) hmain
  cases hd : s.doorOpen with
  | true => simp [hlck, hflag, hphase', lckSetState_main_open (st := .unlocked) (by simp) (.inr hopen)]
  | false => simp [hlck, hflag, hphase', hopen]

/-- DOOR_FORCED (R57): a LOCKED door becomes JAMMED carrying engaged, every other lock state stays. -/
theorem lckForced_effects {s : State} (hs : ¬ s.lck.state = .unlocked) (hf : flagIn .doorForced true s.prt.faults = false) :
    (lckForced s).lck = { s.lck with
      doorForcedPresent := true, carried := s.lck.carried || s.lck.state == .locked,
      state := if s.lck.state = .locked then .jammed else s.lck.state } ∧
    flagIn .doorForced true (lckForced s).prt.faults = true ∧ (lckForced s).drv.main = false ∧
    (lckForced s).cyc.phase = (if s.cyc.phase = .idle then .idle else .tripped) := by
  obtain ⟨hlck, hmain, hphase⟩ :=
    prtRaise_trip (c := .doorForced) (s := s.modLck fun l => { l with doorForcedPresent := true }) rfl hs hf
  have hflag := flagIn_prtRaise_trip (c := .doorForced) (s := s.modLck fun l => { l with doorForcedPresent := true }) rfl hf
  have hphase' : (prtRaise .doorForced (s.modLck fun l => { l with doorForcedPresent := true })).cyc.phase =
      if s.cyc.phase = .idle then .idle else .tripped := hphase
  unfold lckForced
  by_cases hlocked : s.lck.state = .locked
  · simp [hlck, hlocked, hflag, hphase', lckSetJammed_main_open hmain]
  · simp [hlck, hlocked, hflag, hmain, hphase']

/-- A door that opens in LOCKING ends the travel, unless it turns back already (R51). -/
theorem lckDebounced_door_locking {s : State} (hu : s.lck.startUp = false) (hd : s.doorOpen = false)
    (hs : s.lck.state = .locking) (hret : ¬ s.lck.stage = .doorReturn) (hclr : ¬ s.lck.stage = .doorReturnClearance) :
    lckDebounced .door false s = lckDoorOpened (withDoor false s) := by
  have hnot : (withDoor false s).lck.stage.isReturn = false := by simp [withDoor, Stage.isReturn, hret, hclr]
  rw [lckDebounced_door_open hu hd, lckDoorOpens, if_pos (by simp [withDoor, hs])]
  simp [hnot]

/-- A door that opens in LOCKING with the unlock test passing turns the travel back (R51). -/
theorem lckDebounced_door_return {s : State} (hu : s.lck.startUp = false) (hd : s.doorOpen = false)
    (hs : s.lck.state = .locking) (hret : ¬ s.lck.stage = .doorReturn) (hclr : ¬ s.lck.stage = .doorReturnClearance)
    (ht : s.unlockTest = true) :
    lckDebounced .door false s = s.modLck fun l => { l with
      door := { raw := false, value := some false, timer := none }
      attempts := 0, motor := .unlock, travelTimer := some (s.cfg .lt * 100)
      stage := if s.latchEngaged then .doorReturn else .doorReturnClearance
      stageTimer := if s.latchEngaged then none else some 200 } := by
  have ht' : ((lckStop (withDoor false s)).modLck fun l => { l with attempts := 0 }).unlockTest = true := ht
  rw [lckDebounced_door_locking hu hd hs hret hclr]
  simp only [lckDoorOpened, ht', if_true]
  rfl

/-- Settles O42: each clause is LCK's action on the value just written, with the notices that it gives. -/
theorem debouncedValuesAct : Obligations.DebouncedValuesAct := by
  intro s
  refine ⟨?startUp, ?seat, ?lost, ?forced, ?jamEnds, ?doorOpened⟩
  case startUp =>
    intro engaged hu hv hp
    have hrun : lckDebounced .latch engaged s = cycLatchReport engaged (startedUp engaged s) := by
      rw [lckDebounced_latch engaged s (by simp [hv])]
      simp [lckActs, withLatch, hu, lckStartUp, startedUp]
    refine ⟨takeEvent (lckDebounced .latch engaged) s, rfl, ?_, ?_, ?_, ?_, ?_, ?_, ?_, ?_, ?_, ?_⟩
    iterate 9 simp [hrun, startedUp, withLatch]
    cases engaged with
    | false =>
      have hidle : lckDebounced .latch false s = startedUp false s := by simp [hrun, cycLatchReport]
      rw [takeEvent_of_phase _ _ (by simp [hidle, startedUp, withLatch, hp])]
      simp [hidle, startedUp, withLatch]
    | true =>
      have hreport := cycLatchReport_engaged (s := startedUp true s) (by simpa [startedUp, withLatch] using hp)
      rw [oldestTrip_startedUp] at hreport
      rw [if_neg (by simp)]
      cases ht : s.oldestTrip with
      | none =>
        rw [ht] at hreport
        obtain ⟨hphase, hlck, hrecord⟩ := hreport
        have hheld := takeEvent_of_phase (lckDebounced .latch true) s (by simp [hrun, hphase])
        simp only [hheld, hrun, hphase, hlck, hrecord]
        simp [startedUp, withLatch]
      | some c =>
        rw [ht] at hreport
        simpa [hrun] using hreport
  case seat =>
    intro hu hs hstage hl
    have hrun : lckDebounced .latch true s = lckSeat (lckLostGone (withLatch true s)) := by
      rw [lckDebounced_latch_engaged hu hl]
      simp [lckLatchEngaged, hstage, withLatch]
    refine ⟨lckDebounced .latch true s, congrArg _ (takeEvent_of_state ?_), ?_⟩
    · simp [hrun, lckSeat, withLatch, hs]
    · simp [hrun, lckSeat, withLatch, hs, State.latchEngaged]
  case lost =>
    intro hu hl hs hstage htest hnot
    have hheld : (withLatch false s).doorHeld = true := by rcases hs with h | ⟨h, hc⟩ <;> simp [State.doorHeld, withLatch, *]
    have hrun : lckDebounced .latch false s = lckLost (lckForcedGone (withLatch false s)) := by
      rw [lckDebounced_latch_free hu hl, lckLatchFree_held (s := withLatch false s) hstage hheld]
    have hstate : ¬ (lckForcedGone (withLatch false s)).lck.state = .unlocked := by
      rcases hs with h | ⟨h, -⟩ <;> simp [withLatch, h]
    have hdoor : (lckForcedGone (withLatch false s)).doorOpen = s.doorOpen := by simp [State.doorOpen, withLatch]
    obtain ⟨hlck, hflag, hmain, hphase⟩ := lckLost_effects hstate (by simp [State.latchEngaged, withLatch])
      (by simpa [withLatch] using htest)
      (by simpa [flagIn_lckForcedGone, withLatch] using flagIn_of_not_holdsFault hnot)
    rw [← hrun] at hlck hflag hmain hphase
    rw [hdoor, lckForcedGone_lck] at hlck
    refine ⟨lckDebounced .latch false s, congrArg _ (takeEvent_of_state ?_), ?_, ?_, hflag, ?_, ?_, ?_, hmain, ?_, ?_⟩
    · rw [hlck]
      dsimp only
      split_ifs <;> simp
    · simp [State.latchEngaged, hlck, withLatch]
    · simp [hlck]
    · simp [hlck]
    · simp [hlck]
    · simp [hlck]
    · simpa [withLatch] using hphase
    · simp
  case forced =>
    intro hu hl hd hs hnot
    have hheld : (withDoor false s).doorHeld ∨ (withDoor false s).lck.state = .unlocking := by
      rcases hs with h | ⟨h, hc⟩ | h <;> simp [State.doorHeld, withDoor, *]
    have hrun : lckDebounced .door false s = lckForced (withDoor false s) := by
      have hstate : ¬ (withDoor false s).lck.state = .locking := by rcases hs with h | ⟨h, -⟩ | h <;> simp [withDoor, h]
      have hl' : (withDoor false s).latchEngaged = true := hl
      rw [lckDebounced_door_open hu hd, lckDoorOpens, if_neg hstate, if_pos ⟨hl', hheld⟩]
    have hstate : ¬ (withDoor false s).lck.state = .unlocked := by rcases hs with h | ⟨h, -⟩ | h <;> simp [withDoor, h]
    obtain ⟨hlck, hflag, hmain, hphase⟩ := lckForced_effects hstate (flagIn_of_not_holdsFault hnot)
    rw [← hrun] at hlck hflag hmain hphase
    refine ⟨lckDebounced .door false s, congrArg _ (takeEvent_of_state ?_), ?_, ?_, hflag, ?_, ?_, ?_, ?_, hmain, ?_, ?_⟩
    · rcases hs with h | ⟨h, -⟩ | h <;> simp [hlck, withDoor, h]
    · simp [State.doorOpen, hlck, withDoor]
    · simp [hlck]
    · rcases hs with h | ⟨h, -⟩ | h <;> simp [hlck, withDoor, h]
    · intro h
      simp [hlck, withDoor, h]
    · simp [hlck, withDoor]
    · simp [hlck, withDoor]
    · exact hphase
    · simp
  case jamEnds =>
    intro hu hl hd hs hc
    have hl' : (withDoor false s).latchEngaged = false := hl
    have hrun : lckDebounced .door false s = lckSetState .unlocked (withDoor false s) := by
      rw [lckDebounced_door_open hu hd, lckDoorOpens, if_neg (by simp [withDoor, hs]), if_neg (by simp [hl']),
        lckJamEnds_free (s := withDoor false s) hs hc hl']
      rfl
    refine ⟨lckDebounced .door false s, congrArg _ (takeEvent_of_state (by simp [hrun])), ?_⟩
    simp [hrun, State.doorOpen, withDoor]
  case doorOpened =>
    intro hu hd hs hret hclr hp
    have hrun := lckDebounced_door_locking hu hd hs hret hclr
    have htest : (withDoor false s).unlockTest = s.unlockTest := rfl
    cases ht : s.unlockTest with
    | true =>
      have hreturn := lckDebounced_door_return hu hd hs hret hclr ht
      refine ⟨lckDebounced .door false s, congrArg _ (takeEvent_of_state (by simp [hreturn, hs])), ?_⟩
      cases hl : s.latchEngaged <;> simp [hreturn, hl, State.doorOpen, hs]
    | false =>
      have hgive : lckDebounced .door false s = lckGiveUp ((lckStop (withDoor false s)).modLck fun l => { l with attempts := 0 }) :=
        hrun.trans (lckDoorOpened_eq _ (htest.trans ht))
      have hl : ((lckStop (withDoor false s)).modLck fun l => { l with attempts := 0 }).latchEngaged = s.latchEngaged := rfl
      obtain ⟨hlck, hramp, hbli, hshr⟩ :=
        lckGiveUp_locking_apart (s := (lckStop (withDoor false s)).modLck fun l => { l with attempts := 0 }) hp
      rw [← hgive] at hlck hramp hbli hshr
      rw [hl] at hlck
      refine ⟨lckDebounced .door false s, congrArg _ (takeEvent_of_state ?_), ?_, ?_, hramp, ?_, hbli, hshr, ?_, ?_, fun hnot => ?_⟩
      · rw [hlck]
        dsimp only
        split_ifs <;> simp
      · simp [State.doorOpen, hlck, withDoor]
      · simp [hlck]
      · simp
      · simp
      · simp
      · obtain ⟨hphase, hout, hflag⟩ := lckGiveUp_locking
          (s := (lckStop (withDoor false s)).modLck fun l => { l with attempts := 0 }) hp (flagIn_of_not_holdsFault hnot)
        rw [← hgive] at hphase hout hflag
        refine ⟨by simp [hlck], fun h => by simp [hlck, h], by simp [hlck], by simp [hlck], hflag, hphase, hout⟩

end Sys2Proof.Machine
end

section
/-! CERTIFICATE. What ends the heating: ABORT, the completion of the last HOLD, the two timeouts and a minute without mains. -/

namespace Sys2Proof.Machine

/-! ## ABORT (R8, R10) -/

/-- Settles O28: by the phase; HEATING is left with its leaving actions. -/
theorem abortEndsHeating : Obligations.AbortEndsHeating := by
  intro s hr
  have hcmd : linkCommand 0 0 abortCycle s = abortCycle (linkOpen 0 s) := linkCommand_ready 0 0 abortCycle s hr
  have hrefused : abortCycle (linkOpen 0 s) = linkAnswer .wrongPhase [] (linkOpen 0 s) →
      ∃ t, exec .abort s = .next t ∧ t.alk.link.answer = [0x02] ∧ s.sameButLink t := by
    intro h
    obtain ⟨hstay, hsame⟩ := takeEvent_answer (hcmd.trans h)
    exact ⟨_, next_congr hstay, rfl, hsame⟩
  cases hp : s.cyc.phase with
  | idle | cooling | tripped | unlocking | held => exact hrefused (by simp [abortCycle, hp])
  | locking =>
    have hrun : linkCommand 0 0 abortCycle s =
        linkAnswer .ok [] ((linkOpen 0 s).modCyc fun c => { c with abortPending := true }) := by
      simp [hcmd, abortCycle, hp]
    have hstay : takeEvent (linkCommand 0 0 abortCycle) s = linkCommand 0 0 abortCycle s :=
      takeEvent_of_phase _ _ (by simp [hrun, hp])
    refine ⟨_, next_congr (hstay.trans hrun), rfl, by simp, ?_⟩
    rw [linkOpen_eq]
    rfl
  | heating =>
    have hrun : linkCommand 0 0 abortCycle s =
        linkAnswer .ok [] (cycLeaveHeating .cooling (cycOutcome .aborted (linkOpen 0 s))) := by
      simp [hcmd, abortCycle, hp]
    have hstay : takeEvent (linkCommand 0 0 abortCycle) s = linkCommand 0 0 abortCycle s :=
      takeEvent_of_phase _ _ (by simp [hrun])
    have hout : s.drv.main = true →
        (cycLeaveHeating .cooling (cycOutcome .aborted (linkOpen 0 s))).drv.outputs.any = false :=
      fun hm => cycLeaveHeating_outputs (by simp) (by simpa using hm)
    refine ⟨_, next_congr (hstay.trans hrun), rfl, ?_⟩
    simpa [cycLeaveHeating_record, cycLeaveHeating_lck] using hout

/-! ## An abort-class fault in HEATING (R11) -/

/-- The heating ended by an abort notice carrying `c` (R11). -/
def heatingAborted (c : FaultCode) (s : State) : State :=
  cycLeaveHeating .cooling (cycOutcome .faultAborted (cycFirstFault c s))

theorem heatingAborted_effects (c : FaultCode) (s : State) :
    (heatingAborted c s).cyc.phase = .cooling ∧ (heatingAborted c s).cyc.record.outcome = .faultAborted ∧
    (heatingAborted c s).cyc.record.firstFault = some (s.cyc.record.firstFault.getD c) ∧
    (heatingAborted c s).ramp = { s.ramp with state := .idle, slotFlag := .none, stepTimer := none } ∧
    (heatingAborted c s).drv.main = false ∧ (heatingAborted c s).drv.mainsAbsentPresent = s.drv.mainsAbsentPresent ∧
    (heatingAborted c s).reg.demand = 0 ∧ (heatingAborted c s).shr.slot = .none ∧
    (heatingAborted c s).shr.request = .none ∧ (heatingAborted c s).prf = s.prf ∧ (heatingAborted c s).lck = s.lck ∧
    (heatingAborted c s).tms = s.tms ∧ (heatingAborted c s).ptb = s.ptb := by
  simp [heatingAborted, cycLeaveHeating_record, cycLeaveHeating_lck, Record.firstFaultAfter_eq]

/-- HEAT_TIMEOUT and SLOT_TIMEOUT are gone once the engine they stood for is IDLE (R36, R40, R42). -/
theorem flagIn_heatingAborted_timeout {c : FaultCode} {s : State} (hc : c = .heatTimeout ∨ c = .slotTimeout)
    (h : flagIn c true s.prt.faults = true) : flagIn c false (heatingAborted c s).prt.faults = true := by
  have hl : ¬ c = .elementLow := by rcases hc with rfl | rfl <;> simp
  have hgone : flagIn c false (clearFlag .slotTimeout (clearFlag .heatTimeout s.prt.faults)) = true := by
    rcases hc with rfl | rfl
    · rw [flagIn_clearFlag_ne (by simp)]
      exact flagIn_clearFlag_gone h
    · refine flagIn_clearFlag_gone (b := true) ?_
      rwa [flagIn_clearFlag_ne (by simp)]
  have hquiet : (cycSetPhase .cooling (cycOutcome .faultAborted (cycFirstFault c s))).prt = s.prt := by
    simp [cycSetPhase_quiet]
  simp [heatingAborted, cycLeaveHeating, hl, prfIdle_faults, hquiet, hgone]

/-- MAINS_ABSENT in HEATING ends the heating, whether the report is a new one or its condition still stands (log 34). -/
theorem drvMainsAbsent_eq {s : State} (hp : s.cyc.phase = .heating) :
    ∃ m : State, drvMainsAbsent s = heatingAborted .mainsAbsent m ∧ flagIn .mainsAbsent true m.prt.faults = true ∧
      m.drv = { s.drv with mainsAbsentPresent := true } ∧ m.cyc = s.cyc ∧ m.lck = s.lck ∧ m.prf = s.prf ∧ m.tms = s.tms ∧
      m.ptb = s.ptb := by
  cases hf : flagIn .mainsAbsent true s.prt.faults with
  | true =>
    refine ⟨s.modDrv fun d => { d with mainsAbsentPresent := true }, ?_, hf, rfl, rfl, rfl, rfl, rfl, rfl⟩
    simp [drvMainsAbsent, any_present_eq_flagIn, hf, prtAction, FaultCode.cls, cycAbort, hp, heatingAborted]
  | false =>
    refine ⟨prtEnter .mainsAbsent (s.modDrv fun d => { d with mainsAbsentPresent := true }), ?_, ?_, ?_⟩
    · refine Eq.trans ?_ (prtRaise_abort_heating (s := s.modDrv fun d => { d with mainsAbsentPresent := true }) rfl hp hf)
      simp [drvMainsAbsent, any_present_eq_flagIn, hf]
    · simpa using flagIn_raiseFlag .mainsAbsent _ _
    · simp [prtEnter]

/-- Settles O55: the drive suspends, and the minute's report aborts the heating. -/
theorem mainsLossSuspends : Obligations.MainsLossSuspends := by
  intro s
  refine ⟨fun hrun => ?suspend, fun hsus hp => ?absent⟩
  case suspend =>
    refine ⟨drvSuspend s, ?_, ?_⟩
    · show Host.Outcome.next _ = _
      rw [if_pos hrun]
    · have hrest : { drvSuspend s with drv := s.drv, reg := s.reg, prt := s.prt } = s := by
        apply State.eq_of_blocks <;> simp
      refine ⟨rfl, rfl, rfl, rfl, rfl, rfl, rfl, hrest, rfl⟩
  case absent =>
    obtain ⟨m, hrun, hf, mdrv, mcyc, mlck, mprf, mtms, mptb⟩ := drvMainsAbsent_eq hp
    obtain ⟨hphase, hout, -, hramp, hmain, hpresent, hdemand, -, -, hprf, hlck, htms, hptb⟩ :=
      heatingAborted_effects .mainsAbsent m
    have hflag : flagIn .mainsAbsent true (heatingAborted .mainsAbsent m).prt.faults = true := by
      simpa [heatingAborted, flagIn_cycLeaveHeating] using hf
    have htimer : (heatingAborted .mainsAbsent m).drv.mainsTimer = none :=
      cycLeaveHeating_mainsTimer (by simp [mcyc, hp]) (by simp)
    refine ⟨heatingAborted .mainsAbsent m, ?_, hphase, hout, hflag, by simp [hpresent, mdrv], htimer, hmain, by simp [hramp],
      hdemand, hprf.trans mprf, hlck.trans mlck, htms.trans mtms, hptb.trans mptb⟩
    show Host.Outcome.next _ = _
    rw [if_pos (by simp [State.mainsTimed, hsus, hp]), takeEvent_of_phase _ _ (by simp [hrun, hphase]), hrun]

/-! ## The two timeouts (R36, R40) -/

/-- A step of the engine's timers and setpoint touches the engine alone; it does not matter whether the step timer is set before
or after it. -/
theorem rampAdvance_rearm (s : State) : rampAdvance (rampRearm s) = rampRearm (rampAdvance s) := by
  have hlag : (rampRearm s).lagStalls = s.lagStalls := rfl
  have hlim : (rampRearm s).drv.limited = s.drv.limited := rfl
  unfold rampAdvance rampTime
  rw [hlag, hlim]
  split_ifs <;> rfl

/-- What a step moves (R33, R35). -/
theorem rampAdvance_eq (s : State) :
    rampAdvance s = s.modRamp fun r => { r with
      segTimer := if s.drv.limited then r.segTimer else satSucc 65535 r.segTimer
      frac := if s.lagStalls then r.frac else (r.frac + s.segment.rate) % 60
      sp := if s.lagStalls then r.sp else toward s.segment.target r.sp ((r.frac + s.segment.rate) / 60 : Nat) } := by
  unfold rampAdvance rampTime rampMove
  cases s.lagStalls <;> cases hl : s.drv.limited <;> simp
  all_goals rfl

/-- A report of a timeout in HEATING ends the heating, and leaves its entry standing gone (R11, R36, R40, R42). -/
theorem prtRaise_timeout {c : FaultCode} {m : State} (hc : c = .heatTimeout ∨ c = .slotTimeout) (hp : m.cyc.phase = .heating)
    (hf : flagIn c true m.prt.faults = false) :
    ∃ e : State, prtRaise c m = heatingAborted c e ∧ flagIn c false (heatingAborted c e).prt.faults = true ∧
      e.ramp = m.ramp ∧ e.cyc = m.cyc ∧ e.prf = m.prf ∧ e.lck = m.lck ∧ e.tms = m.tms ∧ e.ptb = m.ptb := by
  have hcls : c.cls = .abort := by rcases hc with rfl | rfl <;> rfl
  refine ⟨prtEnter c m, prtRaise_abort_heating hcls hp hf, flagIn_heatingAborted_timeout hc ?_, ?_⟩
  · simpa using flagIn_raiseFlag c _ _
  · simp [prtEnter]

/-- A RAMP step that neither completes nor is in time reports HEAT_TIMEOUT (R36). -/
theorem rampStep_late {s : State} (hs : s.ramp.state = .ramping) (hc : (rampAdvance s).rampComplete = false)
    (hl : (rampAdvance s).heatLate = true) :
    s.heatTimesOut = true ∧ rampStep s = rampLate (rampRearm (rampAdvance s)) := by
  have hc' : (rampRearm (rampAdvance s)).rampComplete = false := hc
  have hl' : (rampRearm (rampAdvance s)).heatLate = true := hl
  exact ⟨by simp [State.heatTimesOut, hs, hc, hl], by simp [rampStep, hs, rampAdvance_rearm, rampJudge, hc', hl']⟩

theorem State.lagStalls_iff (s : State) :
    s.lagStalls = true ↔ s.ramp.up = true ∧ (s.cfg .lg : Int) < s.ramp.sp - s.tms.a.filtered := by
  show _ ↔ s.ramp.up = true ∧ (s.cfg .lg : Int) < s.ramp.sp - s.filteredA
  simp [State.lagStalls]

/-- Completion of a RAMP as the step leaves it (R34). -/
theorem rampComplete_rampAdvance (s : State) :
    (rampAdvance s).rampComplete = true ↔ (rampAdvance s).ramp.sp = s.segment.target ∧
      (if s.ramp.up then (s.segment.target : Int) - s.cfg .ab ≤ s.tms.a.filtered
       else s.tms.a.filtered ≤ (s.segment.target : Int) + s.cfg .ab) := by
  have hseg : (rampAdvance s).segment = s.segment := by rw [rampAdvance_eq]; rfl
  have hcfg : (rampAdvance s).cfg .ab = s.cfg .ab := by rw [rampAdvance_eq]; rfl
  have hup : (rampAdvance s).ramp.up = s.ramp.up := by rw [rampAdvance_eq]; rfl
  have hA : (rampAdvance s).filteredA = s.tms.a.filtered := by rw [rampAdvance_eq]; rfl
  simp only [State.rampComplete, hseg, hcfg, hup, hA]
  cases s.ramp.up <;> simp

/-- The segment timer past the limit of the RAMP (R36). -/
theorem heatLate_rampAdvance (s : State) :
    (rampAdvance s).heatLate = true ↔ rampLimit s.segment.target s.ramp.segStart s.segment.rate <
      (if s.drv.limited then s.ramp.segTimer else satSucc 65535 s.ramp.segTimer) ∧ s.ramp.heatTimeoutRaised = false := by
  have hseg : (rampAdvance s).segment = s.segment := by rw [rampAdvance_eq]; rfl
  rw [State.heatLate, hseg, rampAdvance_eq]
  simp

/-- Settles O38: the step that is late, and the last second of the wait, report an abort-class fault in HEATING. -/
theorem timeoutsAbortHeating : Obligations.TimeoutsAbortHeating := by
  intro s target sp d hp htarget hd hsp
  refine ⟨fun hstate hnot hlate hraised hflag => ?heat, fun hstate hwait hflag => ?slot⟩
  case heat =>
    have hsp' : (rampAdvance s).ramp.sp = sp := by
      rw [rampAdvance_eq, hsp, hd, htarget]
      simp [State.lagStalls_iff, toward]
    have hcomplete : (rampAdvance s).rampComplete = false := by
      rw [Bool.eq_false_iff, ne_eq, rampComplete_rampAdvance, hsp', ← htarget]
      exact hnot
    have hheat : (rampAdvance s).heatLate = true := by
      rw [heatLate_rampAdvance]
      exact ⟨htarget ▸ hlate, hraised⟩
    obtain ⟨htimes, hrun⟩ := rampStep_late hstate hcomplete hheat
    obtain ⟨e, heq, hgone, eramp, ecyc, eprf, elck, etms, eptb⟩ :=
      prtRaise_timeout (m := (rampRearm (rampAdvance s)).modRamp fun r => { r with heatTimeoutRaised := true }) (.inl rfl)
        (by simp [rampRearm, rampAdvance_eq, hp]) (by simpa [rampRearm, rampAdvance_eq] using flagIn_of_not_holdsFault hflag)
    obtain ⟨hphase, hout, hfirst, hramp, hmain, -, hdemand, hslot, -, hprf, hlck, htms, hptb⟩ :=
      heatingAborted_effects .heatTimeout e
    have hend : rampStep s = heatingAborted .heatTimeout e := hrun.trans heq
    refine ⟨heatingAborted .heatTimeout e, ?_, hphase, hout, ?_, hgone, by simp [hramp], ?_, hmain, hdemand, hslot, ?_, ?_, ?_,
      ?_⟩
    · show Host.Outcome.next _ = _
      rw [if_pos htimes, takeEvent_of_phase _ _ (by simp [hend, hphase]), hend]
    · simp [hfirst, ecyc, rampRearm, rampAdvance_eq]
    · rw [hramp, eramp]
      exact hsp'
    · simp [hprf, eprf, rampRearm, rampAdvance_eq]
    · simp [hlck, elck, rampRearm, rampAdvance_eq]
    · simp [htms, etms, rampRearm, rampAdvance_eq]
    · simp [hptb, eptb, rampRearm, rampAdvance_eq]
  case slot =>
    have hrun : rampStep s = prtRaise .slotTimeout ((rampRearm s).modRamp fun r => { r with slotWait := r.slotWait + 1 }) := by
      simp only [rampStep, hstate]
      exact if_pos hwait
    obtain ⟨e, heq, hgone, eramp, ecyc, eprf, elck, etms, eptb⟩ :=
      prtRaise_timeout (m := (rampRearm s).modRamp fun r => { r with slotWait := r.slotWait + 1 }) (.inr rfl)
        (by simp [rampRearm, hp]) (flagIn_of_not_holdsFault hflag)
    obtain ⟨hphase, hout, hfirst, hramp, hmain, -, -, -, hrequest, hprf, hlck, htms, hptb⟩ :=
      heatingAborted_effects .slotTimeout e
    have hend : rampStep s = heatingAborted .slotTimeout e := hrun.trans heq
    refine ⟨heatingAborted .slotTimeout e, ?_, hphase, hout, ?_, hgone, by simp [hramp], ?_, hmain, hrequest, ?_, ?_, ?_, ?_⟩
    · show Host.Outcome.next _ = _
      rw [if_pos (by simp [State.slotTimesOut, hstate, hwait]), takeEvent_of_phase _ _ (by simp [hend, hphase]), hend]
    · simp [hfirst, ecyc, rampRearm]
    · simp [hramp, eramp, rampRearm, hwait]
    · simp [hprf, eprf, rampRearm]
    · simp [hlck, elck, rampRearm]
    · simp [htms, etms, rampRearm]
    · simp [hptb, eptb, rampRearm]

/-! ## The last HOLD (R9, R37, R38, R42) -/

theorem holdAdvance_rearm (s : State) : holdAdvance (rampRearm s) = rampRearm (holdAdvance s) := by
  have hlim : (rampRearm s).drv.limited = s.drv.limited := rfl
  unfold holdAdvance rampTime
  rw [hlim]
  split_ifs <;> rfl

/-- What a HOLDING step counts (R35, R37, R38). -/
theorem holdAdvance_eq (s : State) :
    holdAdvance s = s.modRamp fun r => { r with
      segTimer := if s.drv.limited then r.segTimer else satSucc 65535 r.segTimer
      holdTimer := if s.inHoldBand then satSucc 65535 r.holdTimer else r.holdTimer
      dropRun := if s.segment.restart && s.belowHoldBand then r.dropRun + 1 else 0 } := by
  unfold holdAdvance rampTime holdCount
  cases hl : s.drv.limited <;> simp
  all_goals rfl

/-- The engine at the END record `i`: the timers of the last segment stay (R32, R42). -/
def rampFinished (i : Nat) (s : State) : State :=
  s.modRamp fun r => { r with segIndex := i, dropRun := 0, heatTimeoutRaised := false, segStart := r.sp, state := .finished }

@[simp] theorem rampFinished_frame (i : Nat) (s : State) :
    (rampFinished i s).cyc = s.cyc ∧ (rampFinished i s).prf = s.prf ∧ (rampFinished i s).lck = s.lck ∧
      (rampFinished i s).tms = s.tms ∧ (rampFinished i s).ptb = s.ptb ∧ (rampFinished i s).ramp.segIndex = i ∧
      (rampFinished i s).ramp.sp = s.ramp.sp ∧ (rampFinished i s).ramp.holdTimer = s.ramp.holdTimer :=
  ⟨rfl, rfl, rfl, rfl, rfl, rfl, rfl, rfl⟩

/-- The engine reaches an END and reports completion: the cleaning ends (R9, R32, R42). -/
theorem rampBegin_end {i : Nat} {s : State} (hk : (s.segmentAt i).kind = .endRec) (hp : s.cyc.phase = .heating) :
    rampBegin i s = cycLeaveHeating .cooling (cycOutcome .completed (rampFinished i s)) := by
  have hseg : (s.modRamp fun r => { r with segIndex := i }).segment = s.segmentAt i := rfl
  have hheats : (s.segmentAt i).heats = false := by simp [Segment.heats, hk]
  have henter : rampEnter (s.modRamp fun r => { r with segIndex := i }) = cycComplete (rampFinished i s) := by
    simp only [rampEnter, hseg, hk]
    rfl
  have hphase : (rampFinished i s).cyc.phase = .heating := hp
  simp only [rampBegin, hseg, hheats, henter, cycComplete, hphase]
  simp

/-- The hold band after the step, as the filtered value and the segment stand before it. -/
theorem holdAdvance_holdTimer (s : State) :
    (holdAdvance s).ramp.holdTimer =
      if (s.tms.a.filtered - s.segment.target).natAbs ≤ s.cfg .hb then satSucc 65535 s.ramp.holdTimer
      else s.ramp.holdTimer := by
  have hband : s.inHoldBand = true ↔ (s.tms.a.filtered - s.segment.target).natAbs ≤ s.cfg .hb := by
    show _ ↔ (s.filteredA - s.segment.target).natAbs ≤ s.cfg .hb
    simp [State.inHoldBand]
  simp [holdAdvance_eq, ← hband]

/-- The drop run reaches 60 in this step (R38). -/
theorem dropped_holdAdvance (s : State) :
    (holdAdvance s).dropped = true ↔ s.segment.restart = true ∧
      s.tms.a.filtered < (s.segment.target : Int) - s.cfg .hb ∧ 59 ≤ s.ramp.dropRun := by
  have hseg : (holdAdvance s).segment = s.segment := by rw [holdAdvance_eq]; rfl
  have hbelow : s.belowHoldBand = true ↔ s.tms.a.filtered < (s.segment.target : Int) - s.cfg .hb := by
    show _ ↔ s.filteredA < (s.segment.target : Int) - s.cfg .hb
    simp [State.belowHoldBand]
  rw [State.dropped, hseg, holdAdvance_eq, ← hbelow]
  cases s.segment.restart <;> cases s.belowHoldBand <;> simp

theorem holdDone_holdAdvance (s : State) :
    (holdAdvance s).holdDone = true ↔ s.segment.holdMin * 60 ≤ (holdAdvance s).ramp.holdTimer := by
  have hseg : (holdAdvance s).segment = s.segment := by rw [holdAdvance_eq]; rfl
  simp [State.holdDone, hseg]

/-- Settles O36: the counted step is judged done, and the next segment is the END that completes the cleaning. -/
theorem holdCompletes : Obligations.HoldCompletes := by
  intro s n hp hstate hn hdone hdrop hend
  have htimer : (holdAdvance s).ramp.holdTimer = n := by rw [holdAdvance_holdTimer, hn]
  have hholds : (holdAdvance s).holdDone = true := by rwa [holdDone_holdAdvance, htimer]
  have hnot : (holdAdvance s).dropped = false := by
    rwa [Bool.eq_false_iff, ne_eq, dropped_holdAdvance]
  have hcompletes : s.holdCompletes = true := by simp [State.holdCompletes, hstate, hnot, hholds]
  have hrun : rampStep s = rampBegin (s.ramp.segIndex + 1) (rampRearm (holdAdvance s)) := by
    have hnot' : (rampRearm (holdAdvance s)).dropped = false := hnot
    have hholds' : (rampRearm (holdAdvance s)).holdDone = true := hholds
    have hidx : (rampRearm (holdAdvance s)).ramp.segIndex = s.ramp.segIndex := by rw [holdAdvance_eq]; rfl
    simp [rampStep, hstate, holdAdvance_rearm, holdJudge, hnot', hholds', hidx]
  have hleave := hrun.trans (rampBegin_end (s := rampRearm (holdAdvance s)) (by rw [holdAdvance_eq]; exact hend)
    (by simp [rampRearm, holdAdvance_eq, hp]))
  have hsame : (rampRearm (holdAdvance s)).lck = s.lck ∧ (rampRearm (holdAdvance s)).prf = s.prf ∧
      (rampRearm (holdAdvance s)).tms = s.tms ∧ (rampRearm (holdAdvance s)).ptb = s.ptb ∧
      (rampRearm (holdAdvance s)).ramp.sp = s.ramp.sp ∧ (rampRearm (holdAdvance s)).ramp.holdTimer = n := by
    rw [← htimer]
    simp [rampRearm, holdAdvance_eq]
  obtain ⟨hlck, hprf, htms, hptb, hsp, hhold⟩ := hsame
  have hstep : takeEvent rampStep s = rampStep s := takeEvent_of_phase _ _ (by simp [hleave])
  refine ⟨rampStep s, ?_, ?_, ?_⟩
  · show Host.Outcome.next _ = _
    rw [if_pos hcompletes, hstep]
  · show Host.Outcome.next _ = _
    rw [hstep]
  · rw [hleave]
    simp [cycLeaveHeating_record, cycLeaveHeating_lck, hlck, hprf, htms, hptb, hsp, hhold]

end Sys2Proof.Machine
end

section
/-! CERTIFICATE. Clearing: what CLEAR removes and what it leaves, in TRIPPED (R16, R166) and elsewhere (R17, R167). -/

namespace Sys2Proof.Machine

/-! ## The unlock test depends on the channels, the blind count and the items alone (R46) -/

theorem State.unlockTest_congr {s t : State} (ha : t.tms.a = s.tms.a) (hb : t.tms.b = s.tms.b)
    (hrun : t.prt.blindRunning = s.prt.blindRunning) (hcount : t.prt.blindCount = s.prt.blindCount)
    (hitems : t.alk.items = s.alk.items) (hcom : t.alk.committed = s.alk.committed) : t.unlockTest = s.unlockTest := by
  simp only [State.unlockTest, State.blindDone, State.cfg_congr hitems hcom, ha, hb, hrun, hcount, hcom]

/-! ## Removing entries (R166, R167) -/

/-- The entries that CLEAR keeps. -/
def State.keptFaults (classes : List FaultClass) (s : State) : List FaultEntry :=
  s.prt.faults.filter fun e => !(classes.contains e.code.cls && !e.present)

/-- A removal records its events and then lets DRV look at MAIN. -/
theorem prtRemove_eq (classes : List FaultClass) (s : State) : ∃ a : Alk,
    prtRemove classes s = drvMain { s with prt := { s.prt with faults := s.keptFaults classes }, alk := a } ∧
      a.items = s.alk.items ∧ a.committed = s.alk.committed ∧ a.link = s.alk.link := by
  obtain ⟨a, heq, hitems, hcom, -, -, hlink⟩ := foldl_alkRecord .faultRemoved (fun e => detail 0 e.code.code)
    (s.prt.faults.filter fun e => classes.contains e.code.cls && !e.present)
    (s.modPrt fun p => { p with faults := s.keptFaults classes })
  exact ⟨a, congrArg drvMain heq, hitems, hcom, hlink⟩

@[simp] theorem prtRemove_blocks (classes : List FaultClass) (s : State) :
    (prtRemove classes s).cyc = s.cyc ∧ (prtRemove classes s).prf = s.prf ∧ (prtRemove classes s).ramp = s.ramp ∧
      (prtRemove classes s).lck = s.lck ∧ (prtRemove classes s).tms = s.tms ∧ (prtRemove classes s).bli = s.bli ∧
      (prtRemove classes s).ptb = s.ptb ∧ (prtRemove classes s).shr = s.shr ∧
      (prtRemove classes s).latchEngaged = s.latchEngaged ∧ (prtRemove classes s).takesUnlock = s.takesUnlock := by
  obtain ⟨a, heq, hitems, hcom, -⟩ := prtRemove_eq classes s
  rw [heq]
  have htest := State.unlockTest_congr (s := s)
    (t := drvMain { s with prt := { s.prt with faults := s.keptFaults classes }, alk := a })
    (by simp) (by simp) (by simp) (by simp) (by simp [hitems]) (by simp [hcom])
  simp [State.latchEngaged, State.takesUnlock, htest]

/-- MAIN stays or closes where it is closed only under its conditions: DRV tells PRT nothing (R96). -/
theorem drvMain_prt {s : State} (h : s.drv.main = true → s.mainAllowed = true) : (drvMain s).prt = s.prt := by
  unfold drvMain
  split_ifs with ha hm
  · rfl
  · exact absurd (h hm) ha
  · rfl

/-- Removing entries cannot forbid MAIN. -/
theorem keptFaults_mainAllowed {classes : List FaultClass} {s : State} {a : Alk} (h : s.mainAllowed = true) :
    { s with prt := { s.prt with faults := s.keptFaults classes }, alk := a : State }.mainAllowed = true := by
  simp only [State.mainAllowed, State.hasTrip, Bool.and_eq_true, Bool.not_eq_true', List.any_eq_false] at h ⊢
  obtain ⟨⟨hper, hlocked⟩, hno⟩ := h
  exact ⟨⟨hper, hlocked⟩, fun e he => hno e (List.mem_of_mem_filter he)⟩

theorem prtRemove_faults_of_main {classes : List FaultClass} {s : State} (h : s.drv.main = s.mainAllowed) :
    (prtRemove classes s).prt.faults = s.keptFaults classes := by
  obtain ⟨a, heq, -⟩ := prtRemove_eq classes s
  rw [heq, drvMain_prt]
  intro hm
  exact keptFaults_mainAllowed (h ▸ hm)

/-! ## CLEAR outside TRIPPED (R17, R167) -/

theorem Phase.clears_contains (p : Phase) (hp : ¬ p = .tripped) (c : FaultClass) :
    p.clears.contains c = (p == .idle || c == .degrade) := by
  cases p with
  | tripped => exact absurd rfl hp
  | idle | locking | heating | cooling | unlocking | held => cases c <;> rfl

/-- Settles O30: outside TRIPPED a removal cannot open MAIN, so the fault set is the filtered one. -/
theorem clearElsewhere : Obligations.ClearElsewhere := by
  intro s hready hp hsafe
  obtain ⟨hmain, -⟩ := hsafe
  have hmainOpen : (linkOpen 0 s).drv.main = (linkOpen 0 s).mainAllowed := by
    simpa [State.mainAllowed, State.hasTrip] using hmain
  have hkept : (prtRemove s.cyc.phase.clears (linkOpen 0 s)).prt.faults =
      s.prt.faults.filter fun e => e.present || (s.cyc.phase != .idle && e.code.cls != .degrade) := by
    rw [prtRemove_faults_of_main hmainOpen]
    simp only [State.keptFaults, linkOpen_frame, Phase.clears_contains _ hp]
    refine List.filter_congr fun e _ => ?_
    simp only [bne]
    cases s.cyc.phase == .idle <;> cases e.code.cls == .degrade <;> cases e.present <;> rfl
  have hany : (prtRemove s.cyc.phase.clears (linkOpen 0 s)).prt.faults.any
        (fun e => s.cyc.phase.clears.contains e.code.cls && e.present) =
      s.prt.faults.any fun e => e.present && (s.cyc.phase == .idle || e.code.cls == .degrade) := by
    rw [hkept, List.any_filter]
    simp only [Phase.clears_contains _ hp]
    congr 1
    funext e
    cases e.present <;> simp
  have hrun : linkCommand 0 0 clearFaults s =
      linkAnswer (if s.prt.faults.any fun e => e.present && (s.cyc.phase == .idle || e.code.cls == .degrade) then
        .faultActive else .ok) [] (prtRemove s.cyc.phase.clears (linkOpen 0 s)) := by
    rw [linkCommand_ready _ _ _ _ hready, ← hany]
    simp [clearFaults, hp, clearOther]
  refine ⟨_, next_congr ((takeEvent_of_phase _ _ (by simpa [hrun] using hp)).trans hrun), ?_⟩
  simp only [linkAnswer_frame, linkAnswer_answer, prtRemove_blocks, linkOpen_frame, hkept, true_and]
  split_ifs <;> rfl

/-! ## CLEAR in TRIPPED (R16, R166) -/

theorem cycSetPhase_codes (p : Phase) (s : State) :
    (cycSetPhase p s).prt.faults.map FaultEntry.code = s.prt.faults.map FaultEntry.code := by
  rcases cycSetPhase_faults p s with h | h <;> simp [h, clearFlag_codes]

theorem lckUnlock_codes (s : State) :
    (lckUnlock s).prt.faults.map FaultEntry.code = s.prt.faults.map FaultEntry.code := by
  rcases lckSetState_faults .unlocking s with h | h <;> simp [lckUnlock, h, clearFlag_codes]

theorem cycMoveOn_codes (s : State) :
    (cycMoveOn s).prt.faults.map FaultEntry.code = s.prt.faults.map FaultEntry.code := by
  unfold cycMoveOn
  split_ifs <;> simp [cycSetPhase_codes, lckUnlock_codes]

/-- CYC moves on by the latch and the unlock test, its record kept (R16). -/
theorem cycMoveOn_effects (s : State) :
    (cycMoveOn s).cyc.record = s.cyc.record ∧ (cycMoveOn s).ramp = s.ramp ∧ (cycMoveOn s).prf = s.prf ∧
      (cycMoveOn s).tms = s.tms ∧ (cycMoveOn s).bli = s.bli ∧ (cycMoveOn s).ptb = s.ptb ∧ (cycMoveOn s).shr = s.shr ∧
      if s.latchEngaged then
        if s.takesUnlock then
          (cycMoveOn s).cyc.phase = .unlocking ∧ (cycMoveOn s).lck.state = .unlocking ∧ (cycMoveOn s).lck.attempts = 1
        else (cycMoveOn s).cyc.phase = .cooling ∧ (cycMoveOn s).lck = s.lck
      else (cycMoveOn s).cyc.phase = .idle ∧ (cycMoveOn s).lck = s.lck := by
  obtain ⟨hstate, hattempts, -⟩ := lckUnlock_effects s
  unfold cycMoveOn
  split_ifs <;> simp [cycSetPhase_quiet, hstate, hattempts]

theorem cycMoveOn_phase (s : State) : (cycMoveOn s).cyc.phase ≠ .tripped := by
  unfold cycMoveOn
  split_ifs <;> simp

/-- Settles O29: the two refusals, then the removal and CYC's move by the latch and the unlock test. -/
theorem clearInTripped : Obligations.ClearInTripped := by
  intro s hready hp
  have hrun : linkCommand 0 0 clearFaults s = clearTripped (linkOpen 0 s) := by
    rw [linkCommand_ready _ _ _ _ hready]
    simp [clearFaults, hp]
  have htravel : (linkOpen 0 s).travelling = s.travelling := by simp [State.travelling]
  have htrip : (linkOpen 0 s).hasTripPresent = s.hasTripPresent := by simp [State.hasTripPresent]
  simp only [clearTripped, htravel, htrip] at hrun
  cases hmoving : s.travelling with
  | true =>
    obtain ⟨heq, hsame⟩ := takeEvent_answer (hrun.trans (if_pos hmoving))
    exact ⟨_, next_congr heq, rfl, hsame⟩
  | false =>
    rw [hmoving] at hrun
    cases hactive : s.hasTripPresent with
    | true =>
      obtain ⟨heq, hsame⟩ := takeEvent_answer (hrun.trans (if_pos hactive))
      exact ⟨_, next_congr heq, rfl, hsame⟩
    | false =>
      rw [hactive] at hrun
      have hmove := cycMoveOn_effects (prtRemove [.trip, .abort, .degrade] (linkOpen 0 s))
      have hcodes := (cycMoveOn_codes (prtRemove [.trip, .abort, .degrade] (linkOpen 0 s))).trans (prtRemove_faults _ _)
      have hnot := cycMoveOn_phase (prtRemove [.trip, .abort, .degrade] (linkOpen 0 s))
      have hclasses : ∀ c : FaultClass, [FaultClass.trip, .abort, .degrade].contains c = true := by
        intro c
        cases c <;> rfl
      have hlatch : (linkOpen 0 s).latchEngaged = s.latchEngaged := by simp [State.latchEngaged]
      have htakes : (linkOpen 0 s).takesUnlock = s.takesUnlock := by
        simp [State.takesUnlock, State.unlockTest_congr (s := s) (t := linkOpen 0 s)]
      refine ⟨_, next_congr ((takeEvent_of_phase _ _ (by simpa [hrun] using hnot)).trans hrun), rfl, ?_⟩
      simp only [prtRemove_blocks, linkOpen_frame, hlatch, htakes] at hmove
      simp only [hclasses, Bool.true_and, Bool.not_not, linkOpen_frame] at hcodes
      obtain ⟨hrecord, hrest⟩ := hmove
      exact ⟨hcodes, congrArg Record.outcome hrecord, hrest⟩

end Sys2Proof.Machine
end

section
/-! CERTIFICATE. START: the profile's validation against the rules of R29, the refusals, and the beginning of a cycle (R4, R5). -/

namespace Sys2Proof.Machine

/-! ## The examined segments and the first burn (R29) -/

theorem State.endIndex_eq_iff (s : State) (n : Nat) :
    s.endIndex = n ↔
      (n < 16 ∧ (s.segmentAt n).kind = .endRec ∨ n = 16) ∧ ∀ j < n, (s.segmentAt j).kind ≠ .endRec := by
  unfold State.endIndex
  cases h : (List.range 16).find? fun i => (s.segmentAt i).kind == .endRec with
  | none =>
    rw [List.find?_range_eq_none] at h
    simp only [Bool.not_eq_true', beq_eq_false_iff_ne] at h
    constructor
    · rintro rfl
      exact ⟨.inr rfl, h⟩
    · rintro ⟨⟨hn, hend⟩ | rfl, -⟩
      · exact absurd hend (h n hn)
      · rfl
  | some k =>
    rw [List.find?_range_eq_some] at h
    simp only [beq_iff_eq, List.mem_range, Bool.not_eq_true', beq_eq_false_iff_ne] at h
    obtain ⟨hend, hk, hbefore⟩ := h
    constructor
    · rintro rfl
      exact ⟨.inl ⟨hk, hend⟩, hbefore⟩
    · rintro ⟨hn, hno⟩
      rcases Nat.lt_trichotomy k n with hlt | rfl | hgt
      · exact absurd hend (hno k hlt)
      · rfl
      · rcases hn with ⟨-, hn⟩ | rfl
        · exact absurd hn (hbefore n hgt)
        · omega

/-- What the model examines is what R29's rules speak of. -/
theorem State.examined_iff (s : State) (i : Nat) : s.examined i ↔ i < s.endIndex := by
  obtain ⟨hend, hbefore⟩ := (s.endIndex_eq_iff s.endIndex).mp rfl
  constructor
  · rintro ⟨hi, hno⟩
    rcases hend with ⟨-, hend⟩ | hend
    · exact Nat.lt_of_not_le fun hle => hno _ hle hend
    · omega
  · intro hi
    exact ⟨by omega, fun j hj => hbefore j (by omega)⟩

theorem State.firstBurn_eq_some (s : State) (i : Nat) :
    s.firstBurn = some i ↔
      i < s.endIndex ∧ (s.segmentAt i).burn = true ∧ ∀ j < i, (s.segmentAt j).burn = false := by
  simp only [State.firstBurn, List.find?_range_eq_some, List.mem_range, Bool.not_eq_true']
  tauto

/-! ## The rules that blame an examined segment (R29) -/

/-- The model's test of an examined segment, rule by rule. -/
theorem State.blamed_iff (s : State) (n : Nat) :
    s.blamed n = true ↔
      (n = 0 ∧ (s.segmentAt 0).kind ≠ .ramp) ∨
      (s.segmentAt n).kind = .code3 ∨
      ((s.segmentAt n).kind = .ramp ∧ (s.segmentAt n).rate < 10) ∨
      s.cfg .tmax < (s.segmentAt n).target ∨
      (0 < n ∧ (s.segmentAt n).kind = .hold ∧ (s.segmentAt n).target ≠ (s.segmentAt (n - 1)).target) ∨
      (0 < n ∧ (s.segmentAt n).burn = true ∧ (s.segmentAt (n - 1)).burn = false ∧ s.firstBurn ≠ some n) ∨
      (s.firstBurn = some (n + 1) ∧ s.cfg .tb < (s.segmentAt n).target) ∨
      (n = 0 ∧ s.firstBurn = some 0 ∧ (s.cfg .tb : Int) < s.tms.a.filtered) := by
  have hA : s.filteredA = s.tms.a.filtered := rfl
  unfold State.blamed
  rw [hA]
  rcases Nat.eq_zero_or_pos n with rfl | hn
  · simp [or_assoc]
  · simp [or_assoc, hn, Nat.ne_of_gt hn]
    tauto

/-- Whatever the model's test blames, a rule of R29 blames. -/
theorem State.blames_of_blamed {s : State} {n : Nat} (hn : n < s.endIndex) (h : s.blamed n = true) : s.blames n := by
  have hex : s.examined n := (s.examined_iff n).mpr hn
  rcases s.blamed_iff n |>.mp h with h | h | ⟨hk, hr⟩ | h | ⟨hpos, hk, ht⟩ | ⟨hpos, hburn, hgap, hfirst⟩ | ⟨hfirst, ht⟩ |
    ⟨rfl, hfirst, hA⟩
  · exact .inl h
  · exact .inr (.inl ⟨hex, h⟩)
  · exact .inr (.inr (.inl ⟨hex, hk, hr⟩))
  · exact .inr (.inr (.inr (.inl ⟨hex, h⟩)))
  · exact .inr (.inr (.inr (.inr (.inl ⟨hex, hpos, hk, ht⟩))))
  · obtain ⟨j, hj, hjburn⟩ : ∃ j < n, (s.segmentAt j).burn = true := by
      by_contra hnone
      push Not at hnone
      exact hfirst (s.firstBurn_eq_some n |>.mpr ⟨hn, hburn, fun j hj => by simpa using hnone j hj⟩)
    have hne : j ≠ n - 1 := by
      rintro rfl
      simp [hgap] at hjburn
    exact .inr (.inr (.inr (.inr (.inr (.inl ⟨hex, hburn, n - 1, by omega, hgap, j, by omega, hjburn⟩)))))
  · obtain ⟨hlt, hburn, hbefore⟩ := s.firstBurn_eq_some (n + 1) |>.mp hfirst
    exact .inr (.inr (.inr (.inr (.inr (.inr (.inl
      ⟨(s.examined_iff _).mpr hlt, hburn, fun j hj => hbefore j (by omega), ht⟩))))))
  · obtain ⟨-, hburn, -⟩ := s.firstBurn_eq_some 0 |>.mp hfirst
    exact .inr (.inr (.inr (.inr (.inr (.inr (.inr (.inl ⟨rfl, hex, hburn, hA⟩)))))))

/-- A second burn run begins at some segment after the gap: there the model's test blames. -/
theorem State.exists_blamed_of_burn_gap {s : State} {i j n : Nat} (hj : (s.segmentAt j).burn = true) (hji : j < i)
    (hi : (s.segmentAt i).burn = false) (hin : i < n) (hn : (s.segmentAt n).burn = true) :
    ∃ m ≤ n, s.blamed m = true := by
  have hex : ∃ m, i < m ∧ (s.segmentAt m).burn = true := ⟨n, hin, hn⟩
  obtain ⟨him, hburn⟩ := Nat.find_spec hex
  have hgap : (s.segmentAt (Nat.find hex - 1)).burn = false := by
    rcases Nat.lt_or_ge i (Nat.find hex - 1) with hlt | hge
    · have hmin := Nat.find_min hex (m := Nat.find hex - 1) (by omega)
      simpa [hlt] using hmin
    · rwa [show Nat.find hex - 1 = i by omega]
  have hfirst : s.firstBurn ≠ some (Nat.find hex) := by
    intro h
    obtain ⟨-, -, hbefore⟩ := s.firstBurn_eq_some _ |>.mp h
    simp [hbefore j (by omega)] at hj
  exact ⟨_, Nat.find_min' hex ⟨hin, hn⟩, s.blamed_iff _ |>.mpr
    (.inr (.inr (.inr (.inr (.inr (.inl ⟨by omega, hburn, hgap, hfirst⟩))))))⟩

/-- Where a rule of R29 blames an examined segment, the model's test blames it or one before it. -/
theorem State.exists_blamed_of_blames {s : State} {n : Nat} (hn : n < s.endIndex) (h : s.blames n) :
    ∃ m ≤ n, s.blamed m = true := by
  have here (hb : s.blamed n = true) : ∃ m ≤ n, s.blamed m = true := ⟨n, le_rfl, hb⟩
  have hend16 : s.endIndex ≤ 16 := by
    obtain ⟨hend, -⟩ := (s.endIndex_eq_iff s.endIndex).mp rfl
    omega
  rcases h with h | ⟨-, h⟩ | ⟨-, h⟩ | ⟨-, h⟩ | ⟨-, h⟩ | ⟨-, hburn, i, hi, hgap, j, hj, hjburn⟩ | ⟨hex, hburn, hbefore, ht⟩ |
    ⟨rfl, hex, hburn, hA⟩ | ⟨rfl, -⟩
  · exact here (s.blamed_iff n |>.mpr (.inl h))
  · exact here (s.blamed_iff n |>.mpr (.inr (.inl h)))
  · exact here (s.blamed_iff n |>.mpr (.inr (.inr (.inl h))))
  · exact here (s.blamed_iff n |>.mpr (.inr (.inr (.inr (.inl h)))))
  · exact here (s.blamed_iff n |>.mpr (.inr (.inr (.inr (.inr (.inl h))))))
  · exact s.exists_blamed_of_burn_gap hjburn hj hgap hi hburn
  · have hfirst : s.firstBurn = some (n + 1) :=
      s.firstBurn_eq_some _ |>.mpr ⟨(s.examined_iff _).mp hex, hburn, fun j hj => hbefore j (by omega)⟩
    exact here (s.blamed_iff n |>.mpr (.inr (.inr (.inr (.inr (.inr (.inr (.inl ⟨hfirst, ht⟩))))))))
  · have hfirst : s.firstBurn = some 0 := s.firstBurn_eq_some _ |>.mpr ⟨hn, hburn, by omega⟩
    exact here (s.blamed_iff 0 |>.mpr (.inr (.inr (.inr (.inr (.inr (.inr (.inr ⟨rfl, hfirst, hA⟩))))))))
  · omega

/-- Outside the examined segments the rules blame index 0 where none is examined, and index 16 where no END stands. -/
theorem State.blames_of_endIndex_le {s : State} {n : Nat} (hn : s.endIndex ≤ n) (h : s.blames n) :
    n = s.endIndex ∧ (n = 0 ∨ n = 16) := by
  have hnot : ¬ s.examined n := by
    rw [s.examined_iff]
    omega
  rcases h with ⟨rfl, -⟩ | ⟨hex, -⟩ | ⟨hex, -⟩ | ⟨hex, -⟩ | ⟨hex, -⟩ | ⟨hex, -⟩ | ⟨hex, -⟩ | ⟨rfl, -⟩ | ⟨rfl, hno⟩
  · omega
  · exact absurd hex hnot
  · exact absurd hex hnot
  · exact absurd hex hnot
  · exact absurd hex hnot
  · exact absurd hex hnot
  · have := (s.examined_iff _).mp hex
    omega
  · omega
  · exact ⟨((s.endIndex_eq_iff 16).mpr ⟨.inr rfl, hno⟩).symm, .inr rfl⟩

/-! ## The blamed index of PROFILE_INVALID (R29) -/

theorem State.blames_of_endIndex {s : State} (h : s.endIndex = 0 ∨ s.endIndex = 16) : s.blames s.endIndex := by
  obtain ⟨hend, hno⟩ := (s.endIndex_eq_iff s.endIndex).mp rfl
  rcases h with h | h <;> rw [h] at hend hno ⊢
  · have hkind : (s.segmentAt 0).kind = .endRec := by simpa using hend
    exact .inl ⟨rfl, by simp [hkind]⟩
  · exact .inr (.inr (.inr (.inr (.inr (.inr (.inr (.inr ⟨rfl, hno⟩)))))))

/-- The index that PROFILE_INVALID carries is the smallest one that a rule of R29 blames. -/
theorem State.blames_badSegment {s : State} {k : Nat} (h : s.badSegment = some k) :
    s.blames k ∧ ∀ m < k, ¬ s.blames m := by
  unfold State.badSegment at h
  by_cases hzero : s.endIndex = 0
  · obtain rfl : 0 = k := by simpa [hzero] using h
    exact ⟨hzero ▸ s.blames_of_endIndex (.inl hzero), by omega⟩
  · rw [if_neg hzero] at h
    cases hfind : (List.range s.endIndex).find? s.blamed with
    | some i =>
      obtain rfl : i = k := by simpa [hfind] using h
      simp only [List.find?_range_eq_some, List.mem_range, Bool.not_eq_true'] at hfind
      obtain ⟨hblamed, hi, hbefore⟩ := hfind
      refine ⟨s.blames_of_blamed hi hblamed, fun m hm hb => ?_⟩
      obtain ⟨l, hl, hlb⟩ := s.exists_blamed_of_blames (by omega) hb
      simp [hbefore l (by omega)] at hlb
    | none =>
      rw [hfind] at h
      simp only [List.find?_range_eq_none, Bool.not_eq_true'] at hfind
      obtain ⟨h16, rfl⟩ : s.endIndex = 16 ∧ 16 = k := by simpa using h
      refine ⟨h16 ▸ s.blames_of_endIndex (.inr h16), fun m hm hb => ?_⟩
      obtain ⟨l, hl, hlb⟩ := s.exists_blamed_of_blames (by omega) hb
      simp [hfind l (by omega)] at hlb

theorem State.not_blames_of_badSegment_none {s : State} (h : s.badSegment = none) (n : Nat) : ¬ s.blames n := by
  intro hb
  have hzero : s.endIndex ≠ 0 := by
    rintro hzero
    simp [State.badSegment, hzero] at h
  rw [State.badSegment, if_neg hzero] at h
  cases hfind : (List.range s.endIndex).find? s.blamed with
  | some i => simp [hfind] at h
  | none =>
    rw [hfind] at h
    simp only [List.find?_range_eq_none, Bool.not_eq_true'] at hfind
    have h16 : s.endIndex ≠ 16 := by simpa using h
    rcases Nat.lt_or_ge n s.endIndex with hlt | hge
    · obtain ⟨l, hl, hlb⟩ := s.exists_blamed_of_blames hlt hb
      simp [hfind l (by omega)] at hlb
    · obtain ⟨heq, hn⟩ := s.blames_of_endIndex_le hge hb
      omega

theorem State.badSegment_eq_some {s : State} {n : Nat} (hn : s.blames n) (hmin : ∀ m < n, ¬ s.blames m) :
    s.badSegment = some n := by
  cases h : s.badSegment with
  | none => exact absurd hn (s.not_blames_of_badSegment_none h n)
  | some k =>
    obtain ⟨hk, hkmin⟩ := s.blames_badSegment h
    rcases Nat.lt_trichotomy k n with hlt | rfl | hgt
    · exact absurd hk (hmin k hlt)
    · rfl
    · exact absurd hn (hkmin n hgt)

theorem State.badSegment_eq_none {s : State} (h : ∀ n ≤ 16, ¬ s.blames n) : s.badSegment = none := by
  cases hbad : s.badSegment with
  | none => rfl
  | some k =>
    obtain ⟨hk, -⟩ := s.blames_badSegment hbad
    refine absurd hk (h k ?_)
    by_contra hgt
    have hend : s.endIndex ≤ 16 := by
      obtain ⟨hend, -⟩ := (s.endIndex_eq_iff s.endIndex).mp rfl
      omega
    obtain ⟨-, hk0⟩ := s.blames_of_endIndex_le (by omega) hk
    omega

/-! ## START's other conditions (R4) -/

theorem Chan.readyAndValid_iff (c : Chan) : c.readyAndValid = true ↔ c.standing = .valid ∧ c.cls = .valid := by
  unfold Chan.readyAndValid Chan.valid Chan.standing
  cases c.ready <;> cases c.failed <;> simp

/-- START's refusal in the words of R4's list. -/
theorem State.startRefusal_eq (s : State) :
    s.startRefusal =
      if s.alk.committed = false then some (.notConfigured, 0)
      else if s.cyc.phase ≠ .idle then some (.wrongPhase, 0)
      else if s.lck.door.value ≠ some true ∨ s.lck.state ≠ .unlocked then some (.doorNotReady, 0)
      else if ¬((s.tms.a.standing = .valid ∧ s.tms.a.cls = .valid) ∧ (s.tms.b.standing = .valid ∧ s.tms.b.cls = .valid) ∧
        (s.tms.l.standing = .valid ∧ s.tms.l.cls = .valid)) then some (.notReady, 0)
      else if s.hasTrip then some (.faultActive, 0)
      else s.badSegment.map fun i => (.profileInvalid, i) := by
  have hdoor : (!(s.doorClosed && s.lck.state == .unlocked)) = true ↔
      s.lck.door.value ≠ some true ∨ s.lck.state ≠ .unlocked := by
    simp [State.doorClosed, ← not_and_or]
  have hchan : (!(s.tms.a.readyAndValid && s.tms.b.readyAndValid && s.tms.l.readyAndValid)) = true ↔
      ¬((s.tms.a.standing = .valid ∧ s.tms.a.cls = .valid) ∧ (s.tms.b.standing = .valid ∧ s.tms.b.cls = .valid) ∧
        (s.tms.l.standing = .valid ∧ s.tms.l.cls = .valid)) := by
    simp only [← Chan.readyAndValid_iff, ← Bool.and_eq_true, Bool.and_assoc, Bool.not_eq_true, Bool.not_eq_true']
  unfold State.startRefusal
  simp only [hdoor, hchan, Bool.not_eq_true']

theorem startRefusal_linkOpen (params : Nat) (s : State) : (linkOpen params s).startRefusal = s.startRefusal := by
  rw [linkOpen_eq]
  rfl

/-- START with a condition that fails answers with it and changes no block (R4). -/
theorem start_refused {s : State} {code : ResultCode} {n : Nat} (hready : s.alk.resetPending = none)
    (h : s.startRefusal = some (code, n)) :
    ∃ t, exec .start s = .next t ∧ t.alk.link.answer = [byteOf code.code, byteOf n] ∧ s.sameButLink t := by
  have hrun : linkCommand 0 1 startCycle s = linkAnswer code [byteOf n] (linkOpen 0 s) := by
    rw [linkCommand_ready _ _ _ _ hready, startCycle, startRefusal_linkOpen, h]
  obtain ⟨heq, hsame⟩ := takeEvent_answer hrun
  exact ⟨_, next_congr heq, rfl, hsame⟩

/-- Settles O26: R4's chain in order; the index is the smallest one that a rule of R29 blames. -/
theorem startRefusals : Obligations.StartRefusals := by
  intro s hready
  have hrefusal := s.startRefusal_eq
  split_ifs at hrefusal ⊢ with hcom hphase hdoor hchannels htrip
  · exact start_refused hready hrefusal
  · exact start_refused hready hrefusal
  · exact start_refused hready hrefusal
  · exact start_refused hready hrefusal
  · cases hbad : s.badSegment with
    | none =>
      exact ⟨_, rfl, fun n _ hn _ => absurd hn (s.not_blames_of_badSegment_none hbad n)⟩
    | some k =>
      obtain ⟨t, heq, hanswer, hsame⟩ := start_refused hready (hrefusal.trans (by rw [hbad]; rfl))
      refine ⟨t, heq, fun n _ hn hmin => ?_⟩
      obtain rfl : k = n := Option.some.inj (hbad.symm.trans (s.badSegment_eq_some hn hmin))
      exact ⟨hanswer, hsame⟩
  · exact start_refused hready hrefusal

/-! ## START accepted (R4, R5, R48, R49) -/

/-- A lock drive's first stage (R49). -/
theorem lckLockDrive_effects (s : State) :
    (lckLockDrive s).lck.state = s.lck.state ∧ (lckLockDrive s).lck.attempts = s.lck.attempts ∧
      (lckLockDrive s).lck.motor = .lock ∧
      if s.latchEngaged then (lckLockDrive s).lck.stage = .seat ∧ (lckLockDrive s).lck.stageTimer = some 200
      else (lckLockDrive s).lck.stage = .lockDrive ∧ (lckLockDrive s).lck.travelTimer = some (s.cfg .lt * 100) := by
  unfold lckLockDrive
  split_ifs <;> simp [lckSeat, State.travelMs]

/-- A lock request taken: LOCKING with the first attempt's drive (R48, R49). -/
theorem lckLock_taken {s : State} (h : s.takesLock = true) :
    lckLock s = lckLockDrive ((lckSetState .locking s).modLck fun l => { l with attempts := 1 }) :=
  if_pos h

/-- START's effect: the record cleared, LOCKING, and the lock drive (R5, R48, R49). -/
theorem cycStart_effects {s : State} (hp : s.cyc.phase = .idle) (hdoor : s.lck.door.value = some true)
    (hstate : s.lck.state = .unlocked) (hup : s.lck.startUp = false) :
    (cycStart s).cyc = { (cycClearRecord .none s).cyc with phase := .locking, abortPending := false } ∧
      (cycStart s).lck.state = .locking ∧ (cycStart s).lck.attempts = 1 ∧ (cycStart s).lck.motor = .lock ∧
      (if s.latchEngaged then (cycStart s).lck.stage = .seat ∧ (cycStart s).lck.stageTimer = some 200
       else (cycStart s).lck.stage = .lockDrive ∧ (cycStart s).lck.travelTimer = some (s.cfg .lt * 100)) ∧
      (cycStart s).ramp = s.ramp ∧ (cycStart s).prf = s.prf ∧ (cycStart s).tms = s.tms ∧ (cycStart s).bli = s.bli ∧
      (cycStart s).ptb = s.ptb ∧ (cycStart s).shr = s.shr ∧ (cycStart s).reg.demand = s.reg.demand ∧
      (cycStart s).alk.items = s.alk.items ∧ (cycStart s).alk.committed = s.alk.committed := by
  have htakes : (cycSetPhase .locking (cycClearRecord .none s)).takesLock = true := by
    simp [State.takesLock, State.doorClosed, cycSetPhase_quiet, hdoor, hstate, hup]
  obtain ⟨-, -, hmotor, hstage⟩ := lckLockDrive_effects
    ((lckSetState .locking (cycSetPhase .locking (cycClearRecord .none s))).modLck fun l => { l with attempts := 1 })
  have hcfg : ((lckSetState .locking (cycSetPhase .locking (cycClearRecord .none s))).modLck
      fun l => { l with attempts := 1 }).cfg .lt = s.cfg .lt := State.cfg_congr (by simp) (by simp) _
  have hlatch : ((lckSetState .locking (cycSetPhase .locking (cycClearRecord .none s))).modLck
      fun l => { l with attempts := 1 }).latchEngaged = s.latchEngaged := by simp [State.latchEngaged]
  have hphase : ¬ s.cyc.phase = .locking := by simp [hp]
  rw [hcfg, hlatch] at hstage
  simp only [cycStart, lckLock_taken htakes]
  refine ⟨?_, by simp, by simp, hmotor, hstage, ?_⟩
  · simp [cycSetPhase_cyc, hphase]
  · simp

/-- Settles O27: no condition fails, so the record is cleared, LOCKING entered and the lock request taken. -/
theorem startLocks : Obligations.StartLocks := by
  intro s hready hcom hp hdoor hstate hup hchan htrip hblames
  have hrefusal : s.startRefusal = none := by
    rw [s.startRefusal_eq, if_neg (by simp [hcom]), if_neg (by simp [hp]), if_neg (by simp [hdoor, hstate]),
      if_neg (not_not.mpr ⟨hchan .a, hchan .b, hchan .l⟩), if_neg (by simp [htrip]), s.badSegment_eq_none hblames]
    rfl
  have hrun : linkCommand 0 1 startCycle s = linkAnswer .ok [0x00] (cycStart (linkOpen 0 s)) := by
    rw [linkCommand_ready _ _ _ _ hready, startCycle, startRefusal_linkOpen, hrefusal]
    rfl
  obtain ⟨hcyc, hlocking, hattempts, hmotor, hstage, hrest⟩ :=
    cycStart_effects (s := linkOpen 0 s) (by simpa using hp) (by simpa using hdoor) (by simpa using hstate)
      (by simpa using hup)
  have hlatch : (linkOpen 0 s).latchEngaged = s.latchEngaged := by simp [State.latchEngaged]
  have hcfg : (linkOpen 0 s).cfg .lt = s.cfg .lt := State.cfg_congr (by simp) (by simp) _
  rw [hlatch, hcfg] at hstage
  refine ⟨_, next_congr ((takeEvent_of_state (by simp [hrun, hlocking])).trans hrun), rfl, ?_⟩
  simp only [linkAnswer_frame, hcyc, hlocking, hattempts, hmotor]
  refine ⟨trivial, trivial, rfl, rfl, ?_, trivial, trivial, trivial, hstage, ?_⟩
  · simp [cycClearRecord, Record.reset, State.filteredA]
  · simpa using hrest

end Sys2Proof.Machine
end

section
/-! CERTIFICATE. The element drive: what a zero-cross does to the window and to the mains condition (R91 to R95, R102, R103). -/

namespace Sys2Proof.Machine

/-! ## The supply is back (R102, R103) -/

/-- DRV shows a supply that is present: no absence counted, no minute running, RUNNING, MAINS_ABSENT not present. -/
def State.MainsUp (s : State) : Prop :=
  s.drv.absence = 0 ∧ s.drv.mainsTimer = none ∧ s.drv.state = .running ∧ s.drv.mainsAbsentPresent = false

theorem mainsUp_cycSetPhase {p : Phase} {s : State} (h : s.MainsUp) : (cycSetPhase p s).MainsUp := by
  obtain ⟨habsence, htimer, hstate, hpresent⟩ := h
  refine ⟨by simp [habsence], ?_, by simp [hstate], by simp [hpresent]⟩
  by_cases hp : s.cyc.phase = p
  · simp [cycSetPhase, hp, htimer]
  · exact cycSetPhase_mainsTimer hp (.inr hstate)

theorem mainsUp_cycLeaveHeating {p : Phase} {s : State} (h : s.MainsUp) : (cycLeaveHeating p s).MainsUp := by
  simpa [cycLeaveHeating, State.MainsUp] using mainsUp_cycSetPhase (p := p) h

theorem mainsUp_cycTrip {c : FaultCode} {s : State} (h : s.MainsUp) : (cycTrip c s).MainsUp := by
  have hnote : (cycFirstFault c (cycOutcome .tripped s)).MainsUp := h
  cases hp : s.cyc.phase <;> simp only [cycTrip, hp]
  case idle | tripped => exact h
  case heating => exact mainsUp_cycLeaveHeating hnote
  case locking | cooling | unlocking | held => exact mainsUp_cycSetPhase hnote

theorem mainsUp_cycAbort {c : FaultCode} {s : State} (h : s.MainsUp) : (cycAbort c s).MainsUp := by
  have hnote : (cycOutcome .faultAborted (cycFirstFault c s)).MainsUp := h
  cases hp : s.cyc.phase <;> simp only [cycAbort, hp]
  case idle | held => exact h
  case heating => exact mainsUp_cycLeaveHeating hnote
  case locking | cooling | unlocking | tripped => exact h

theorem mainsUp_prtAction {c : FaultCode} {s : State} (h : s.MainsUp) : (prtAction c s).MainsUp := by
  have hmain : (drvMain s).MainsUp := by simpa [State.MainsUp] using h
  cases hcls : c.cls <;> simp only [prtAction, hcls]
  case trip => exact mainsUp_cycTrip hmain
  case abort => exact mainsUp_cycAbort h
  case degrade => exact h

theorem mainsUp_prtRaise {c : FaultCode} {s : State} (h : s.MainsUp) : (prtRaise c s).MainsUp := by
  unfold prtRaise
  split_ifs
  · exact h
  · exact mainsUp_prtAction (by simpa [State.MainsUp] using h)

theorem mainsUp_prtGone {c : FaultCode} {s : State} (h : s.MainsUp) : (prtGone c s).MainsUp := by
  simpa [State.MainsUp] using h

theorem mainsUp_drvLowGone {s : State} (h : s.MainsUp) : (drvLowGone s).MainsUp := by
  unfold drvLowGone
  split_ifs
  · exact mainsUp_prtGone h
  · exact h

theorem mainsUp_drvOverCheck {measured expected : Nat} {s : State} (h : s.MainsUp) :
    (drvOverCheck measured expected s).MainsUp := by
  unfold drvOverCheck
  simp only
  split_ifs
  · exact mainsUp_prtGone h
  · exact h
  · exact mainsUp_prtRaise h
  · exact h
  · exact mainsUp_prtGone h
  · exact h

theorem mainsUp_drvStuckCheck {measured : Nat} {s : State} (h : s.MainsUp) : (drvStuckCheck measured s).MainsUp := by
  have hgone : (if s.drv.stuckPresent ∧ measured ≤ 10 then
      prtGone .driveStuck (s.modDrv fun d => { d with stuckPresent := false }) else s).MainsUp := by
    split_ifs
    · exact mainsUp_prtGone h
    · exact h
  unfold drvStuckCheck
  dsimp only
  generalize (if s.drv.stuckPresent ∧ measured ≤ 10 then _ else s) = m at hgone ⊢
  split_ifs
  · exact mainsUp_prtRaise hgone
  · exact hgone
  · exact hgone
  · exact hgone

theorem mainsUp_drvLowCheck {measured expected : Nat} {s : State} (h : s.MainsUp) :
    (drvLowCheck measured expected s).MainsUp := by
  unfold drvLowCheck
  simp only
  split_ifs
  · exact mainsUp_prtRaise h
  · exact h
  · exact mainsUp_drvLowGone h
  · exact h

theorem mainsUp_drvComplete {s : State} (h : s.MainsUp) : (drvComplete s).MainsUp :=
  mainsUp_drvLowCheck (mainsUp_drvStuckCheck (mainsUp_drvOverCheck h))

theorem mainsUp_drvBoundary {sample : Nat} {s : State} (h : s.MainsUp) : (drvBoundary sample s).MainsUp := by
  have hsum : (s.modDrv fun d => { d with sampleSum := d.sampleSum + sample }).MainsUp := h
  unfold drvBoundary
  simp only
  split_ifs
  · exact mainsUp_drvComplete hsum
  · exact hsum
  · exact hsum

theorem mainsUp_lckUnlock {s : State} (h : s.MainsUp) : (lckUnlock s).MainsUp := by
  simpa [lckUnlock, State.MainsUp] using h

/-! ## A zero-cross (R91, R102, R103) -/

/-- The state in which the window's own effects find the machine. -/
def crossed (s : State) : State :=
  drvMainsBack (s.modDrv fun d => { d with absence := 0, mainsTimer := none, state := .running })

theorem crossed_drv (s : State) :
    (crossed s).drv = { s.drv with absence := 0, mainsTimer := none, state := .running, mainsAbsentPresent := false } := by
  unfold crossed drvMainsBack
  cases h : s.drv.mainsAbsentPresent <;> simp [h]

theorem crossed_faults (s : State) :
    (crossed s).prt.faults =
      if s.drv.mainsAbsentPresent then clearFlag .mainsAbsent s.prt.faults else s.prt.faults := by
  unfold crossed drvMainsBack
  cases h : s.drv.mainsAbsentPresent <;> simp [h, prtGone_faults]

@[simp] theorem crossed_frame (s : State) :
    (crossed s).cyc = s.cyc ∧ (crossed s).prf = s.prf ∧ (crossed s).ramp = s.ramp ∧ (crossed s).lck = s.lck ∧
      (crossed s).tms = s.tms ∧ (crossed s).reg = s.reg ∧ (crossed s).bli = s.bli ∧ (crossed s).ptb = s.ptb ∧
      (crossed s).shr = s.shr ∧ (crossed s).pending = s.pending ∧ (crossed s).draws = s.draws := by
  unfold crossed drvMainsBack
  cases h : s.drv.mainsAbsentPresent <;> simp [h]

theorem mainsUp_crossed (s : State) : (crossed s).MainsUp := by
  simp [State.MainsUp, crossed_drv]

theorem drvZeroCross_eq (sample : Nat) (s : State) :
    drvZeroCross sample s =
      if s.drv.state = .running ∧ s.drv.windowRunning then drvBoundary sample (crossed s) else drvBegin (crossed s) := rfl

theorem mainsUp_drvZeroCross (sample : Nat) (s : State) : (drvZeroCross sample s).MainsUp := by
  rw [drvZeroCross_eq]
  split_ifs
  · exact mainsUp_drvBoundary (mainsUp_crossed s)
  · exact mainsUp_crossed s

theorem mainsUp_takeEvent {f : State → State} {s : State} (h : (f s).MainsUp) : (takeEvent f s).MainsUp := by
  rcases takeEvent_cases f s with heq | ⟨heq, -⟩ <;> rw [heq]
  · exact h
  · exact mainsUp_lckUnlock h

/-! ## The sensor failures alone present (R13) -/

/-- Some trip-class condition is present, and every one that is present is a sensor failure. -/
def sensorsAlone (l : List FaultEntry) : Bool :=
  (l.any fun e => e.isTrip && e.present) &&
    l.all fun e => !(e.isTrip && e.present) || e.code == .sensorAFail || e.code == .sensorBFail

theorem trippedRelease_eq (s : State) :
    s.trippedRelease =
      (s.cyc.phase == .tripped && s.lck.state == .locked && s.unlockTest && sensorsAlone s.prt.faults) :=
  Bool.and_assoc _ _ _

theorem sensorsAlone_iff (l : List FaultEntry) :
    sensorsAlone l = true ↔ (∃ e ∈ l, e.code.cls = .trip ∧ e.present = true) ∧
      ∀ e ∈ l, e.code.cls = .trip → e.present = true → e.code = .sensorAFail ∨ e.code = .sensorBFail := by
  simp only [sensorsAlone, FaultEntry.isTrip, Bool.and_eq_true, List.any_eq_true, List.all_eq_true, Bool.or_eq_true,
    Bool.not_eq_true', beq_iff_eq, ← Bool.not_eq_true, or_assoc]
  refine and_congr Iff.rfl (forall₂_congr fun e _ => ?_)
  tauto

/-- A condition's end in another class leaves the present trips as they were. -/
theorem sensorsAlone_clearFlag_of_cls {c : FaultCode} (hc : ¬ c.cls = .trip) (l : List FaultEntry) :
    sensorsAlone (clearFlag c l) = sensorsAlone l := by
  have hentry : ∀ e : FaultEntry, (if e.code = c then { e with present := false } else e).code = e.code ∧
      ((if e.code = c then { e with present := false } else e).isTrip &&
        (if e.code = c then { e with present := false } else e).present) = (e.isTrip && e.present) := by
    intro e
    split_ifs with he
    · simp [FaultEntry.isTrip, he, hc]
    · exact ⟨rfl, rfl⟩
  unfold sensorsAlone clearFlag
  rw [List.any_map, List.all_map]
  congr 2 <;> funext e <;> obtain ⟨hcode, hpresent⟩ := hentry e
  · exact hpresent
  · simp only [Function.comp_apply, hcode, hpresent]

/-- The end of any condition but a sensor's leaves the sensor failures alone present. -/
theorem sensorsAlone_clearFlag {c : FaultCode} (ha : ¬ c = .sensorAFail) (hb : ¬ c = .sensorBFail) {l : List FaultEntry}
    (h : sensorsAlone l = true) : sensorsAlone (clearFlag c l) = true := by
  obtain ⟨⟨e, he, htrip, hpresent⟩, hall⟩ := (sensorsAlone_iff l).mp h
  have hne : ¬ e.code = c := by
    rintro rfl
    rcases hall e he htrip hpresent with h1 | h1
    · exact ha h1
    · exact hb h1
  refine (sensorsAlone_iff _).mpr ⟨⟨e, List.mem_map.mpr ⟨e, he, if_neg hne⟩, htrip, hpresent⟩, fun f hf => ?_⟩
  obtain ⟨g, hg, rfl⟩ := List.mem_map.mp hf
  split_ifs
  · intro _ hfalse
    exact absurd hfalse (by simp)
  · exact hall g hg

/-! ## The window's own effects -/

theorem drvBegin_drv (s : State) :
    (drvBegin s).drv = { s.drv with
      windowRunning := true, position := 0, window := s.newWindow, sampleSum := 0
      outputs := if s.drv.main then outputsAt s.newWindow.n 0 else PerElement.all false } := rfl

theorem drvSwitch_drv (s : State) :
    (drvSwitch s).drv = { s.drv with
      outputs := if s.drv.main then outputsAt s.drv.window.n s.drv.position else PerElement.all false } := rfl

/-- `t` is `s` after a zero-cross that completes no window: DRV and PRT's second aside, only MAINS_ABSENT may have ended. -/
def Crossed (s t : State) : Prop :=
  { t with drv := s.drv, prt := s.prt, alk := s.alk } = s ∧ t.prt.faults = (crossed s).prt.faults ∧
    t.prt.blindRunning = s.prt.blindRunning ∧ t.prt.blindCount = s.prt.blindCount ∧ t.alk = (crossed s).alk

theorem crossed_alk (s : State) :
    (crossed s).alk.items = s.alk.items ∧ (crossed s).alk.committed = s.alk.committed ∧
      (crossed s).prt.blindRunning = s.prt.blindRunning ∧ (crossed s).prt.blindCount = s.prt.blindCount := by
  unfold crossed drvMainsBack
  cases h : s.drv.mainsAbsentPresent <;> simp [h]

/-- The zero-cross ends a MAINS_ABSENT that is in the set. -/
def State.mainsReported (s : State) : Bool :=
  s.drv.mainsAbsentPresent && s.prt.faults.any fun e => e.code == .mainsAbsent && e.present

theorem mainsReported_eq (s : State) :
    s.mainsReported = (s.drv.mainsAbsentPresent && flagIn .mainsAbsent true s.prt.faults) := by
  rw [State.mainsReported, any_present_eq_flagIn]

/-- A zero-cross that ends no reported MAINS_ABSENT leaves the fault set and the list as they were. -/
theorem crossed_of_unreported {s : State} (h : s.mainsReported = false) :
    (crossed s).prt.faults = s.prt.faults ∧ (crossed s).alk = s.alk := by
  unfold crossed drvMainsBack
  cases hm : s.drv.mainsAbsentPresent with
  | false => simp [hm]
  | true =>
    have hflag : (s.prt.faults.any fun e => e.code == .mainsAbsent && e.present) = false := by
      simpa [State.mainsReported, hm] using h
    simp [hm, prtGone, hflag]

theorem crossed_trippedRelease {s t : State} (h : Crossed s t) : t.trippedRelease = s.trippedRelease := by
  obtain ⟨heq, hfaults, hrun, hcount, halk⟩ := h
  obtain ⟨hitems, hcom, -, -⟩ := crossed_alk s
  have hcyc : t.cyc = s.cyc := by simpa using congrArg State.cyc heq
  have hlck : t.lck = s.lck := by simpa using congrArg State.lck heq
  have htms : t.tms = s.tms := by simpa using congrArg State.tms heq
  have htest : t.unlockTest = s.unlockTest := 
    State.unlockTest_congr (by rw [htms]) (by rw [htms]) hrun hcount (halk ▸ hitems) (halk ▸ hcom)
  have hsensors : sensorsAlone t.prt.faults = sensorsAlone s.prt.faults := by
    rw [hfaults, crossed_faults]
    split_ifs
    · exact sensorsAlone_clearFlag_of_cls (by decide) _
    · rfl
  rw [trippedRelease_eq, trippedRelease_eq, hcyc, hlck, htest, hsensors]

/-- No unlock travel begins where no report ends, R13's conditions do not hold, or start-up lasts (R13, R44). -/
theorem crossed_takeEvent {f : State → State} {s : State} (h : Crossed s (f s))
    (hno : s.mainsReported = false ∨ s.trippedRelease = false ∨ s.lck.startUp = true) : takeEvent f s = f s := by
  have hlck : (f s).lck = s.lck := by simpa using congrArg State.lck h.1
  rcases hno with hno | hno | hno
  · refine takeEvent_of_unexamined (examines_eq_false hlck ?_)
    rw [h.2.1, (crossed_of_unreported hno).1]
  · simp [takeEvent, cycTrippedExam, crossed_trippedRelease h, hno]
  · simp [takeEvent, cycTrippedExam, State.takesUnlock, hlck, hno]

theorem crossed_self (s : State) : Crossed s (crossed s) := by
  obtain ⟨-, -, hrun, hcount⟩ := crossed_alk s
  refine ⟨?_, rfl, hrun, hcount, rfl⟩
  apply State.eq_of_blocks <;> simp

/-- DRV's own changes to the outputs and the window keep to what a zero-cross may change. -/
theorem crossed_of_begin {s m : State} (h : Crossed s m) : Crossed s (drvBegin m) := by
  obtain ⟨heq, hfaults, hrun, hcount, halk⟩ := h
  exact ⟨heq, by simp [hfaults], by simp [hrun], by simp [hcount], by simp [halk]⟩

theorem crossed_of_switch {s m : State} (h : Crossed s m) : Crossed s (drvSwitch m) := by
  obtain ⟨heq, hfaults, hrun, hcount, halk⟩ := h
  exact ⟨heq, by simp [hfaults], by simp [hrun], by simp [hcount], by simp [halk]⟩

/-- A boundary short of the window's end: truncation where SHR's Ho has fallen, else the next half-cycle (R91, R95). -/
theorem drvBoundary_short {sample : Nat} {m : State} (h : ¬ m.drv.position = 63) :
    drvBoundary sample m =
      if m.shr.ho < m.drv.window.ho then drvBegin (m.modDrv fun d => { d with sampleSum := d.sampleSum + sample })
      else drvSwitch (m.modDrv fun d => { d with sampleSum := d.sampleSum + sample, position := d.position + 1 }) :=
  if_neg h

theorem crossed_of_boundary {sample : Nat} {s m : State} (h : Crossed s m) (hp : ¬ m.drv.position = 63) :
    Crossed s (drvBoundary sample m) := by
  rw [drvBoundary_short hp]
  split_ifs
  · exact crossed_of_begin h
  · exact crossed_of_switch h

theorem newWindow_ho (s : State) : s.newWindow.ho = s.shr.ho ∧ s.newWindow.ig ≤ s.shr.ho := by
  unfold State.newWindow
  split_ifs <;> simp

theorem flagIn_clearFlag_self (c : FaultCode) (l : List FaultEntry) : flagIn c true (clearFlag c l) = false := by
  rw [Bool.eq_false_iff, ne_eq, flagIn_iff]
  rintro ⟨e, he, hcode, hpresent⟩
  obtain ⟨g, -, rfl⟩ := List.mem_map.mp he
  split_ifs at hcode hpresent with hg
  exact hg hcode

/-- The unlock travel begins in the zero-cross that ends a report of MAINS_ABSENT, MAIN being open (R13, R54). -/
theorem crossed_lckUnlock_faults {s t : State} (h : Crossed s t) (hmain : t.drv.main = false) :
    (lckUnlock t).prt.faults = (crossed s).prt.faults := by
  have hset : (lckSetState .unlocking t).prt.faults = t.prt.faults := by
    unfold lckSetState
    split_ifs
    · rfl
    · rw [drvMain_prt] <;> simp [hmain]
  simp [lckUnlock, hset, h.2.1]

theorem crossed_takeEvent_unlocks {f : State → State} {s : State} (h : Crossed s (f s)) (hreported : s.mainsReported = true)
    (hrelease : s.trippedRelease = true) (hup : s.lck.startUp = false) : takeEvent f s = lckUnlock (f s) := by
  have hlck : (f s).lck = s.lck := by simpa using congrArg State.lck h.1
  have hrelease' := (crossed_trippedRelease h).trans hrelease
  have hexam : examines s (f s) = true := by
    rw [mainsReported_eq, Bool.and_eq_true] at hreported
    obtain ⟨hpresent, hflag⟩ := hreported
    have hflags : flagIn .mainsAbsent true (f s).prt.faults ≠ flagIn .mainsAbsent true s.prt.faults := by
      rw [h.2.1, crossed_faults, if_pos hpresent, flagIn_clearFlag_self, hflag]
      decide
    have hne : s.prt.faults ≠ (f s).prt.faults := fun heq => hflags (heq ▸ rfl)
    simp [examines, hne]
  have htakes : (f s).takesUnlock = true := by
    rw [trippedRelease_eq] at hrelease'
    simp only [Bool.and_eq_true] at hrelease'
    obtain ⟨⟨⟨-, hlocked⟩, htest⟩, -⟩ := hrelease'
    simp [State.takesUnlock, hlck ▸ hup, hlocked, htest]
  simp [takeEvent, hexam, cycTrippedExam, hrelease', htakes]

theorem hasTrip_of_trippedRelease {s : State} (h : s.trippedRelease = true) : s.hasTrip = true := by
  rw [trippedRelease_eq, Bool.and_eq_true, sensorsAlone_iff] at h
  obtain ⟨-, ⟨e, he, htrip, -⟩, -⟩ := h
  exact List.any_eq_true.mpr ⟨e, he, by simp [FaultEntry.isTrip, htrip]⟩

/-- Settles O52: the supply is back, then the window's own effects, then R13's examination where a report ended. -/
theorem zeroCrossAdvances : Obligations.ZeroCrossAdvances := by
  intro s sample gone reported
  have hgone : (crossed s).prt.faults = gone := crossed_faults s
  refine ⟨fun hno => ?_, fun hreported hrelease hup hsusp hsafe => ?_⟩
  · obtain ⟨habsence, htimer, hstate, hpresent⟩ := mainsUp_takeEvent (mainsUp_drvZeroCross sample s)
    refine ⟨takeEvent (drvZeroCross sample) s, rfl, habsence, htimer, hstate, hpresent, fun hrun hwindow hpos => ?_,
      fun hsusp => ?_⟩
    · have hpos' : ¬ (crossed s).drv.position = 63 := by
        simp only [crossed_drv]
        omega
      have heq : drvZeroCross sample s = drvBoundary sample (crossed s) := by
        rw [drvZeroCross_eq, if_pos ⟨hrun, hwindow⟩]
      have hcrossed : Crossed s (drvZeroCross sample s) := heq ▸ crossed_of_boundary (crossed_self s) hpos'
      rw [crossed_takeEvent hcrossed hno]
      obtain ⟨hsame, hfaults, -, -, halk⟩ := hcrossed
      refine ⟨?_, ?_, ?_, hsame, hfaults.trans hgone, fun h => halk.trans (crossed_of_unreported h).2, fun hle => ?_,
        fun hlt => ?_⟩
      all_goals rw [heq, drvBoundary_short hpos']
      · split_ifs <;> simp [crossed_drv]
      · split_ifs <;> simp [crossed_drv]
      · split_ifs <;> simp [crossed_drv]
      · rw [if_neg (by simpa [crossed_drv] using hle)]
        simp [drvSwitch_drv, crossed_drv]
      · rw [if_pos (by simpa [crossed_drv] using hlt)]
        obtain ⟨hho, hig⟩ := newWindow_ho ((crossed s).modDrv fun d => { d with sampleSum := d.sampleSum + sample })
        exact ⟨rfl, rfl, by simpa [drvBegin_drv] using hho, by simpa [drvBegin_drv] using hig⟩
    · have heq : drvZeroCross sample s = drvBegin (crossed s) := by
        rw [drvZeroCross_eq, if_neg (by simp [hsusp])]
      have hcrossed : Crossed s (drvZeroCross sample s) := heq ▸ crossed_of_begin (crossed_self s)
      rw [crossed_takeEvent hcrossed hno]
      obtain ⟨hsame, hfaults, -, -, halk⟩ := hcrossed
      obtain ⟨hitems, hcom, -, -⟩ := crossed_alk s
      have hrate : (crossed s).ratings = s.ratings := by simp [State.ratings, State.cfg_congr hitems hcom]
      have hweight : (crossed s).weights = s.weights := by simp [State.weights, State.cfg_congr hitems hcom]
      refine ⟨?_, ?_, ?_, ?_, ?_, ?_, hsame, hfaults.trans hgone, fun h => halk.trans (crossed_of_unreported h).2⟩
      all_goals simp [heq, drvBegin_drv, crossed_drv, State.newWindow, State.wantOf, hrate, hweight, ceilDiv]
  · have heq : drvZeroCross sample s = drvBegin (crossed s) := by
      rw [drvZeroCross_eq, if_neg (by simp [hsusp])]
    have hcrossed : Crossed s (drvZeroCross sample s) := heq ▸ crossed_of_begin (crossed_self s)
    obtain ⟨-, -, hstate, hpresent⟩ := mainsUp_takeEvent (mainsUp_drvZeroCross sample s)
    have hopen : (drvZeroCross sample s).drv.main = false := by
      obtain ⟨hmain, -⟩ := hsafe
      simp [heq, crossed_drv, hmain, State.mainAllowed, hasTrip_of_trippedRelease hrelease]
    have hrun := crossed_takeEvent_unlocks hcrossed hreported hrelease hup
    have hfaults := crossed_lckUnlock_faults hcrossed hopen
    obtain ⟨hunlocking, hattempts, hmotor, -⟩ := lckUnlock_effects (drvZeroCross sample s)
    refine ⟨takeEvent (drvZeroCross sample) s, rfl, hstate, hpresent, ?_⟩
    rw [hrun]
    refine ⟨hfaults.trans hgone, ?_⟩
    simp only [hunlocking, hattempts, hmotor]
    simp [heq]

end Sys2Proof.Machine
end

section
/-! CERTIFICATE. The unlock test (R46, R47) and the release that a new value or a blind-cool second brings about (R13, R164). -/

namespace Sys2Proof.Machine

/-! ## The unlock test by its table (R46) -/

theorem Chan.standing_eq_valid (c : Chan) : c.standing = .valid ↔ c.ready = true ∧ c.failed = false := by
  unfold Chan.standing
  cases c.ready <;> cases c.failed <;> simp

theorem Chan.standing_eq_failed (c : Chan) : c.standing = .failed ↔ c.failed = true := by
  unfold Chan.standing
  cases c.ready <;> cases c.failed <;> simp

theorem State.unlockTest_iff (s : State) :
    s.unlockTest = true ↔ s.alk.committed = true ∧
      ((s.tms.a.standing = .valid ∧ s.tms.b.standing = .valid ∧ max s.tms.a.filtered s.tms.b.filtered < s.cfg .tu) ∨
       (s.tms.a.standing = .valid ∧ s.tms.b.standing = .failed ∧ s.tms.a.filtered < (s.cfg .tu : Int) - 300) ∨
       (s.tms.a.standing = .failed ∧ s.tms.b.standing = .valid ∧ s.tms.b.filtered < (s.cfg .tu : Int) - 300) ∨
       (s.tms.a.standing = .failed ∧ s.tms.b.standing = .failed ∧ s.blindDone = true)) := by
  unfold State.unlockTest
  rw [Bool.and_eq_true]
  refine and_congr_right fun _ => ?_
  cases s.tms.a.standing <;> cases s.tms.b.standing <;> simp

/-- The blind count matters with both channels failed alone. -/
theorem State.unlockTest_congr_of_reading {s t : State} (ha : t.tms.a = s.tms.a) (hb : t.tms.b = s.tms.b)
    (hitems : t.alk.items = s.alk.items) (hcom : t.alk.committed = s.alk.committed)
    (hone : ¬(s.tms.a.failed = true ∧ s.tms.b.failed = true)) : t.unlockTest = s.unlockTest := by
  rw [Bool.eq_iff_iff, State.unlockTest_iff, State.unlockTest_iff, ha, hb, hcom, State.cfg_congr hitems hcom]
  simp only [Chan.standing_eq_failed]
  tauto

/-! ## What the examination of the test leaves as it was -/

/-- What every operation of an examination keeps: no other block acts, and the cavity's values stand. -/
structure ExamKept (s m : State) : Prop where
  ramp : m.ramp = s.ramp
  prf : m.prf = s.prf
  bli : m.bli = s.bli
  ptb : m.ptb = s.ptb
  shr : m.shr = s.shr
  outcome : m.cyc.record.outcome = s.cyc.record.outcome
  a : m.tms.a = s.tms.a
  b : m.tms.b = s.tms.b
  items : m.alk.items = s.alk.items
  committed : m.alk.committed = s.alk.committed

/-- No unlock travel has begun, and R13's conditions are as they were: only a fault that is no sensor failure may have ended. -/
structure ExamCalm (s m : State) : Prop extends ExamKept s m where
  phase : m.cyc.phase = s.cyc.phase
  lck : m.lck = { s.lck with testPass := m.lck.testPass, lockLostPresent := m.lck.lockLostPresent }
  test : m.unlockTest = s.unlockTest
  sensors : sensorsAlone s.prt.faults = true → sensorsAlone m.prt.faults = true

/-- The unlock travel has begun: from COOLING in UNLOCKING, else without leaving TRIPPED (R13, R53, R54). -/
structure ExamReleased (s t : State) : Prop extends ExamKept s t where
  phase : t.cyc.phase = if s.cyc.phase = .cooling then .unlocking else .tripped
  state : t.lck.state = .unlocking
  attempts : t.lck.attempts = 1
  motor : t.lck.motor = .unlock
  stage : if s.latchEngaged then t.lck.stage = .unlockDrive ∧ t.lck.travelTimer = some (s.cfg .lt * 100)
    else t.lck.stage = .clearance ∧ t.lck.stageTimer = some 200

theorem examKept_trans {s m t : State} (h : ExamKept s m) (h' : ExamKept m t) : ExamKept s t where
  ramp := h'.ramp.trans h.ramp
  prf := h'.prf.trans h.prf
  bli := h'.bli.trans h.bli
  ptb := h'.ptb.trans h.ptb
  shr := h'.shr.trans h.shr
  outcome := h'.outcome.trans h.outcome
  a := h'.a.trans h.a
  b := h'.b.trans h.b
  items := h'.items.trans h.items
  committed := h'.committed.trans h.committed

theorem examCalm_trans {s m t : State} (h : ExamCalm s m) (h' : ExamCalm m t) : ExamCalm s t where
  toExamKept := examKept_trans h.toExamKept h'.toExamKept
  phase := h'.phase.trans h.phase
  lck := by rw [h'.lck, h.lck]
  test := h'.test.trans h.test
  sensors hs := h'.sensors (h.sensors hs)

theorem examCalm_latchEngaged {s m : State} (h : ExamCalm s m) : m.latchEngaged = s.latchEngaged := by
  rw [State.latchEngaged, State.latchEngaged, h.lck]

theorem examReleased_of_calm {s m t : State} (h : ExamCalm s m) (h' : ExamReleased m t) : ExamReleased s t where
  toExamKept := examKept_trans h.toExamKept h'.toExamKept
  phase := h.phase ▸ h'.phase
  state := h'.state
  attempts := h'.attempts
  motor := h'.motor
  stage := by
    have hstage := h'.stage
    rwa [examCalm_latchEngaged h, State.cfg_congr h.items h.committed] at hstage

theorem examReleased_calm {s m t : State} (h : ExamReleased s m) (h' : ExamCalm m t) : ExamReleased s t where
  toExamKept := examKept_trans h.toExamKept h'.toExamKept
  phase := h'.phase.trans h.phase
  state := by rw [h'.lck, ← h.state]
  attempts := by rw [h'.lck, ← h.attempts]
  motor := by rw [h'.lck, ← h.motor]
  stage := by rw [h'.lck]; exact h.stage

/-! ## The operations that are calm -/

/-- A report gone of anything but a sensor failure. -/
theorem examCalm_prtGone {c : FaultCode} (ha : ¬ c = .sensorAFail) (hb : ¬ c = .sensorBFail) (s : State) :
    ExamCalm s (prtGone c s) := by
  constructor
  case toExamKept => constructor <;> simp
  case phase => simp
  case lck => simp
  case test => exact State.unlockTest_congr (by simp) (by simp) (by simp) (by simp) (by simp) (by simp)
  case sensors =>
    rw [prtGone_faults]
    exact sensorsAlone_clearFlag ha hb

/-- A change of TMS's record outside the cavity's values. -/
theorem examCalm_modTms {f : Tms → Tms} {s : State} (ha : (f s.tms).a = s.tms.a) (hb : (f s.tms).b = s.tms.b) :
    ExamCalm s (s.modTms f) := by
  constructor
  case toExamKept => constructor <;> simp [ha, hb]
  case phase => rfl
  case lck => rfl
  case test => exact State.unlockTest_congr ha hb rfl rfl rfl rfl
  case sensors => exact id

theorem examCalm_cycPeak (s : State) : ExamCalm s (cycPeak s) := by
  have houtcome : (cycPeak s).cyc.record.outcome = s.cyc.record.outcome := by
    unfold cycPeak
    split_ifs <;> rfl
  constructor
  case toExamKept => constructor <;> simp [houtcome]
  case phase => simp
  case lck => simp
  case test => exact State.unlockTest_congr (by simp) (by simp) (by simp) (by simp) (by simp) (by simp)
  case sensors => simp

/-- PRT's timer does not matter with a channel that reads. -/
theorem examCalm_prtBlind {s : State} (hone : ¬(s.tms.a.failed = true ∧ s.tms.b.failed = true)) :
    ExamCalm s (prtBlind s) := by
  constructor
  case toExamKept => constructor <;> simp
  case phase => simp
  case lck => simp
  case test => exact State.unlockTest_congr_of_reading (by simp) (by simp) (by simp) (by simp) hone
  case sensors => simp

theorem examCalm_lckLostGone (s : State) : ExamCalm s (lckLostGone s) := by
  have hkept : ExamKept s (lckLostGone s) := by constructor <;> simp
  have hsensors : sensorsAlone s.prt.faults = true → sensorsAlone (lckLostGone s).prt.faults = true := by
    unfold lckLostGone
    split_ifs
    · rw [prtGone_faults]
      exact sensorsAlone_clearFlag (by decide) (by decide)
    · exact id
  constructor
  case toExamKept => exact hkept
  case phase => simp
  case lck => simp [lckLostGone_lck]
  case test => exact State.unlockTest_congr (by simp) (by simp) (by simp) (by simp) (by simp) (by simp)
  case sensors => exact hsensors

theorem examCalm_lckReevaluate (s : State) :
    ExamCalm s (lckReevaluate s) ∧ (lckReevaluate s).lck.testPass = s.unlockTest := by
  have hpass : ExamCalm s (s.modLck fun l => { l with testPass := s.unlockTest }) := by
    constructor
    case toExamKept => constructor <;> rfl
    case phase => rfl
    case lck => rfl
    case test => rfl
    case sensors => exact id
  unfold lckReevaluate
  simp only
  split_ifs
  · exact ⟨examCalm_trans hpass (examCalm_lckLostGone _), by simp [lckLostGone_lck]⟩
  · exact ⟨hpass, rfl⟩

/-- The comparison with a ceiling that is not passed. -/
theorem examCalm_tmsCeiling {s : State} (h : ∀ v, s.cavityValue = some v → v ≤ (s.cfg .tmax : Int) + 300) :
    ExamCalm s (tmsCeiling s) := by
  have hrefl : ExamCalm s s := examCalm_modTms (f := id) rfl rfl
  cases hv : s.cavityValue with
  | none => simpa [tmsCeiling, hv] using hrefl
  | some v =>
    have hle : ¬ (s.cfg .tmax : Int) + 300 < v := by
      have := h v hv
      omega
    simp only [tmsCeiling, hv, if_neg hle]
    split_ifs
    · exact examCalm_trans (examCalm_modTms rfl rfl) (examCalm_prtGone (by decide) (by decide) _)
    · exact hrefl
    · exact hrefl

/-- A judged pair short of the tenth that disagrees (R66, R67). -/
theorem examCalm_tmsPair {s : State} (h : s.tms.disagreeCount < 9) : ExamCalm s (tmsPair s) := by
  have hcounts : ExamCalm s (tmsCounts s) ∧ (tmsCounts s).tms.disagreeCount < 10 := by
    unfold tmsCounts
    split_ifs
    · exact ⟨examCalm_modTms rfl rfl, by simp [satSucc, if_pos (show s.tms.disagreeCount < 10 by omega)]; omega⟩
    · exact ⟨examCalm_modTms rfl rfl, by simp⟩
  obtain ⟨hcalm, hlt⟩ := hcounts
  unfold tmsPair tmsDisagree
  simp only [hlt.ne, false_and, if_false]
  split_ifs
  · exact examCalm_trans hcalm
      (examCalm_trans (examCalm_modTms rfl rfl) (examCalm_prtGone (by decide) (by decide) _))
  · exact hcalm
  · exact examCalm_modTms (f := id) rfl rfl

/-! ## The examination itself (R13, R47) -/

/-- CYC waits for the unlock test, which passes: in COOLING with a held door or a jam, or in TRIPPED with the door LOCKED. -/
structure ExamWaits (s : State) : Prop where
  startUp : s.lck.startUp = false
  waits : s.cyc.phase = .cooling ∧ (s.lck.state = .locked ∨ s.lck.state = .jammed) ∨
    s.cyc.phase = .tripped ∧ s.lck.state = .locked ∧ sensorsAlone s.prt.faults = true
  test : s.unlockTest = true

theorem examWaits_takesUnlock {s : State} (h : ExamWaits s) : s.takesUnlock = true := by
  obtain ⟨hup, ⟨-, hstate | hstate⟩ | ⟨-, hstate, -⟩, htest⟩ := h <;> simp [State.takesUnlock, hup, hstate, htest]

theorem examWaits_of_calm {s m : State} (h : ExamWaits s) (hcalm : ExamCalm s m) : ExamWaits m where
  startUp := by rw [hcalm.lck, ← h.startUp]
  waits := by
    rw [hcalm.phase, hcalm.lck]
    exact h.waits.imp_right fun ⟨hphase, hstate, hsensors⟩ => ⟨hphase, hstate, hcalm.sensors hsensors⟩
  test := hcalm.test.trans h.test

/-- What an examination comes to: the release in COOLING, a result handed on for the event's end in TRIPPED. -/
def ExamResult (s m : State) : Prop :=
  if s.cyc.phase = .cooling then ExamReleased s m else ExamCalm s m ∧ m.lck.testPass = true

/-- LCK's part of the release (R53, R54). -/
theorem examKept_lckUnlock (s : State) : ExamKept s (lckUnlock s) := by
  constructor <;> simp

theorem examReleased_lckUnlock {s : State} (hp : s.cyc.phase = .tripped) : ExamReleased s (lckUnlock s) := by
  obtain ⟨hstate, hattempts, hmotor, hstage⟩ := lckUnlock_effects s
  exact ⟨examKept_lckUnlock s, by simp [hp], hstate, hattempts, hmotor, hstage⟩

theorem examReleased_cooling {s : State} (hp : s.cyc.phase = .cooling) :
    ExamReleased s (cycSetPhase .unlocking (lckUnlock s)) := by
  obtain ⟨hstate, hattempts, hmotor, hstage⟩ := lckUnlock_effects s
  have hlck : (cycSetPhase .unlocking (lckUnlock s)).lck = (lckUnlock s).lck := (cycSetPhase_quiet (.inl (by simp))).1
  exact ⟨by constructor <;> simp, by simp [hp], hlck ▸ hstate, hlck ▸ hattempts, hlck ▸ hmotor, hlck ▸ hstage⟩

theorem unlockExam_of_phase {s : State} (hp : ¬ s.cyc.phase = .cooling) : unlockExam s = lckReevaluate s := by
  simp [unlockExam, cycCoolExam, hp]

theorem examResult_unlockExam {s : State} (h : ExamWaits s) : ExamResult s (unlockExam s) := by
  obtain ⟨hcalm, hpass⟩ := examCalm_lckReevaluate s
  unfold ExamResult
  split_ifs with hp
  · have hphase := hcalm.phase.trans hp
    have heq : unlockExam s = cycSetPhase .unlocking (lckUnlock (lckReevaluate s)) :=
      if_pos ⟨hphase, examWaits_takesUnlock (examWaits_of_calm h hcalm)⟩
    rw [heq]
    exact examReleased_of_calm hcalm (examReleased_cooling hphase)
  · rw [unlockExam_of_phase hp]
    exact ⟨hcalm, hpass.trans h.test⟩

theorem examResult_of_calm {s m t : State} (h : ExamCalm s m) (h' : ExamResult m t) : ExamResult s t := by
  unfold ExamResult at h' ⊢
  rw [h.phase] at h'
  split_ifs at h' ⊢
  · exact examReleased_of_calm h h'
  · exact ⟨examCalm_trans h h'.1, h'.2⟩

theorem examResult_calm {s m t : State} (h : ExamResult s m) (h' : ExamCalm m t)
    (hpass : t.lck.testPass = m.lck.testPass) : ExamResult s t := by
  unfold ExamResult at h ⊢
  split_ifs at h ⊢
  · exact examReleased_calm h h'
  · exact ⟨examCalm_trans h.1 h', hpass.trans h.2⟩

theorem examResult_kept {s m : State} (h : ExamResult s m) : ExamKept s m := by
  unfold ExamResult at h
  split_ifs at h
  · exact h.toExamKept
  · exact h.1.toExamKept

/-- A second examination in the event finds the travel begun, or the same result again. -/
theorem examResult_again {s m : State} (hw : ExamWaits s) (h : ExamResult s m) : ExamResult s (unlockExam m) := by
  obtain ⟨hcalm, hpass⟩ := examCalm_lckReevaluate m
  unfold ExamResult at h ⊢
  split_ifs at h ⊢ with hp
  · have hphase := h.phase
    rw [if_pos hp] at hphase
    rw [unlockExam_of_phase (by simp [hphase])]
    exact examReleased_calm h hcalm
  · obtain ⟨hsm, -⟩ := h
    rw [unlockExam_of_phase (by rwa [hsm.phase])]
    exact ⟨examCalm_trans hsm hcalm, hpass.trans (hsm.test.trans hw.test)⟩

/-- At the event's end CYC in TRIPPED asks for the unlock (R13). -/
theorem examReleased_takeEvent {f : State → State} {s p : State} (hw : ExamWaits p) (h : ExamResult p (f s))
    (hpass : p.cyc.phase = .tripped → s.lck.testPass = false) : ExamReleased p (takeEvent f s) := by
  unfold ExamResult at h
  split_ifs at h with hp
  · have hphase := h.phase
    rw [if_pos hp] at hphase
    rwa [takeEvent_of_phase _ _ (by simp [hphase])]
  · obtain ⟨hcalm, htrue⟩ := h
    have hwaits := examWaits_of_calm hw hcalm
    have htakes := examWaits_takesUnlock hwaits
    obtain ⟨-, ⟨hc, -⟩ | ⟨htripped, hlocked, hsensors⟩, htest⟩ := hwaits
    · exact absurd (hcalm.phase.symm.trans hc) hp
    · have hexam : examines s (f s) = true := by
        simp [examines, hpass (hcalm.phase.symm.trans htripped), htrue]
      have hrelease : (f s).trippedRelease = true := by
        simp [trippedRelease_eq, htripped, hlocked, htest, hsensors]
      have heq : takeEvent f s = lckUnlock (f s) := by simp [takeEvent, hexam, cycTrippedExam, hrelease, htakes]
      rw [heq]
      exact examReleased_of_calm hcalm (examReleased_lckUnlock htripped)

/-! ## A new value of A or B (R47, R62) -/

@[simp] theorem tmsCeiling_disagreeCount (s : State) : (tmsCeiling s).tms.disagreeCount = s.tms.disagreeCount := by
  unfold tmsCeiling
  cases s.cavityValue <;> simp only <;> split_ifs <;> simp

/-- A channel's valid reading as it is taken. -/
def readingTaken (ch : Channel) (raw : Int) (s : State) : State :=
  tmsSet ch { s.tms.chan ch with
    history := pushReading (s.tms.chan ch).history raw, invalidRun := 0
    filtered := meanOf (pushReading (s.tms.chan ch).history raw), ready := true } s

theorem tmsValid_eq (ch : Channel) (raw : Int) (s : State) :
    tmsValid ch raw s =
      tmsNew ch (if (s.tms.chan ch).ready then readingTaken ch raw s else tmsStanding ch (readingTaken ch raw s)) := rfl

/-- The comparison with the ceiling as the values of an event's beginning decide it. -/
def CeilingKept (s : State) : Prop := ∀ v, s.cavityValue = some v → v ≤ (s.cfg .tmax : Int) + 300

theorem ceilingKept_of_kept {s m : State} (h : CeilingKept s) (hk : ExamKept s m) : CeilingKept m := by
  intro v hv
  rw [State.cfg_congr hk.items hk.committed]
  refine h v ?_
  simpa [State.cavityValue, hk.a, hk.b] using hv

/-- The unlock test and the comparison with the ceiling, handed on together. -/
theorem examResult_handOn {s m : State} (hw : ExamWaits s) (hceil : CeilingKept s)
    (h : ExamCalm s m ∨ ExamResult s m) : ExamResult s (tmsCeiling (unlockExam m)) := by
  have hexam : ExamResult s (unlockExam m) := by
    rcases h with h | h
    · exact examResult_of_calm h (examResult_unlockExam (examWaits_of_calm hw h))
    · exact examResult_again hw h
  exact examResult_calm hexam (examCalm_tmsCeiling (ceilingKept_of_kept hceil (examResult_kept hexam))) (by simp)

theorem examResult_tmsNew {ch : Channel} (hch : ¬ ch = .l) {s m : State} (hw : ExamWaits s) (hceil : CeilingKept s)
    (h : ExamCalm s m ∨ ExamResult s m) : ExamResult s (tmsNew ch m) := by
  cases ch with
  | l => exact absurd rfl hch
  | b => exact examResult_handOn hw hceil h
  | a =>
    have hpeak := examCalm_cycPeak m
    exact examResult_handOn hw hceil
      (h.imp (fun h => examCalm_trans h hpeak) fun h => examResult_calm h hpeak (by simp))

theorem examResult_tmsStanding {ch : Channel} (hch : ¬ ch = .l) {s : State} (hw : ExamWaits s) (hceil : CeilingKept s)
    (hone : ¬(s.tms.a.failed = true ∧ s.tms.b.failed = true)) : ExamResult s (tmsStanding ch s) := by
  cases ch with
  | l => exact absurd rfl hch
  | a | b => exact examResult_handOn hw hceil (.inl (examCalm_prtBlind hone))

/-- A valid reading that makes the test pass, under a ceiling that is not passed. -/
theorem examResult_tmsValid {ch : Channel} {raw : Int} (hch : ¬ ch = .l) {s : State} (hw : ExamWaits (readingTaken ch raw s))
    (hceil : CeilingKept (readingTaken ch raw s))
    (hone : ¬((readingTaken ch raw s).tms.a.failed = true ∧ (readingTaken ch raw s).tms.b.failed = true)) :
    ExamResult (readingTaken ch raw s) (tmsValid ch raw s) := by
  rw [tmsValid_eq]
  split_ifs
  · exact examResult_tmsNew hch hw hceil (.inl (examCalm_modTms (f := id) rfl rfl))
  · exact examResult_tmsNew hch hw hceil (.inr (examResult_tmsStanding hch hw hceil hone))

/-! ## The conversion that makes the test pass (R60, R62) -/

/-- The other of the two cavity channels. -/
def Tms.otherOf (t : Tms) (ch : Channel) : Chan := if ch = .a then t.b else t.a

/-- The channel's reading as a completion's event has taken it. -/
def conversionTaken (ch : Channel) (raw : Int) (s : State) : State :=
  readingTaken ch raw (tmsLatest ch raw (s.modTms fun t => { t with due := nextDue ch }))

@[simp] theorem conversionTaken_frame (ch : Channel) (raw : Int) (s : State) :
    (conversionTaken ch raw s).cyc = s.cyc ∧ (conversionTaken ch raw s).lck = s.lck ∧
      (conversionTaken ch raw s).ramp = s.ramp ∧ (conversionTaken ch raw s).prf = s.prf ∧
      (conversionTaken ch raw s).bli = s.bli ∧ (conversionTaken ch raw s).ptb = s.ptb ∧
      (conversionTaken ch raw s).shr = s.shr ∧ (conversionTaken ch raw s).prt = s.prt ∧
      (conversionTaken ch raw s).alk = s.alk := by
  simp [conversionTaken, readingTaken]

/-- The channel reads, with the mean of its history; the other cavity channel is as it was (R62). -/
theorem conversionTaken_chan {ch : Channel} (hch : ¬ ch = .l) (raw : Int) (s : State) :
    ((conversionTaken ch raw s).tms.chan ch).ready = true ∧
      ((conversionTaken ch raw s).tms.chan ch).failed = (s.tms.chan ch).failed ∧
      ((conversionTaken ch raw s).tms.chan ch).filtered = meanOf (pushReading (s.tms.chan ch).history raw) ∧
      (conversionTaken ch raw s).tms.otherOf ch = s.tms.otherOf ch := by
  cases ch with
  | l => exact absurd rfl hch
  | a | b => exact ⟨rfl, rfl, rfl, rfl⟩

/-- The test of a channel that reads beside its partner (R46). -/
theorem State.unlockTest_of_reading {ch : Channel} (hch : ¬ ch = .l) {s : State} (hcom : s.alk.committed = true)
    (hvalid : (s.tms.chan ch).standing = .valid)
    (h : (s.tms.otherOf ch).standing = .valid ∧ max (s.tms.chan ch).filtered (s.tms.otherOf ch).filtered < s.cfg .tu ∨
      (s.tms.otherOf ch).standing = .failed ∧ (s.tms.chan ch).filtered < (s.cfg .tu : Int) - 300) :
    s.unlockTest = true := by
  refine s.unlockTest_iff.mpr ⟨hcom, ?_⟩
  cases ch with
  | l => exact absurd rfl hch
  | a => exact h.imp (fun h => ⟨hvalid, h⟩) fun h => .inl ⟨hvalid, h⟩
  | b => exact h.imp (fun h => ⟨h.1, hvalid, max_comm s.tms.b.filtered _ ▸ h.2⟩) fun h => .inr (.inl ⟨h.1, hvalid, h.2⟩)

theorem Chan.valid_eq (c : Chan) : c.valid = decide (c.standing = .valid) := by
  unfold Chan.valid Chan.standing
  cases c.ready <;> cases c.failed <;> rfl

/-- The cavity's value of a channel that reads beside its partner (R68). -/
theorem State.cavityValue_of_reading {ch : Channel} (hch : ¬ ch = .l) {s : State} (hvalid : (s.tms.chan ch).standing = .valid) :
    s.cavityValue = some (if (s.tms.otherOf ch).standing = .valid then
      max (s.tms.chan ch).filtered (s.tms.otherOf ch).filtered else (s.tms.chan ch).filtered) := by
  unfold State.cavityValue
  rw [Chan.valid_eq, Chan.valid_eq]
  cases ch with
  | l => exact absurd rfl hch
  | a =>
    have ha : s.tms.a.standing = .valid := hvalid
    show _ = some (if s.tms.b.standing = .valid then max s.tms.a.filtered s.tms.b.filtered else s.tms.a.filtered)
    by_cases hb : s.tms.b.standing = .valid <;> simp [ha, hb]
  | b =>
    have hb : s.tms.b.standing = .valid := hvalid
    show _ = some (if s.tms.a.standing = .valid then max s.tms.b.filtered s.tms.a.filtered else s.tms.b.filtered)
    by_cases ha : s.tms.a.standing = .valid <;> simp [ha, hb, max_comm]

/-- A valid reading of the channel that is due and not failed (R60, R62, R66). -/
theorem tmsComplete_valid {ch : Channel} (hch : ¬ ch = .l) {raw : Int} {s : State} (hdue : s.tms.due = ch)
    (hfailed : (s.tms.chan ch).failed = false) (hlow : -400 ≤ raw) (hhigh : raw ≤ 7000) :
    tmsComplete ch raw s =
      tmsCheck ch (tmsValid ch raw (tmsLatest ch raw (s.modTms fun t => { t with due := nextDue ch }))) := by
  have hcls : classOf raw = .valid := by
    rw [classOf, if_neg (by omega), if_neg (by omega)]
  have hno : ((tmsLatest ch raw (s.modTms fun t => { t with due := nextDue ch })).tms.chan ch).failed = false := by
    rw [← hfailed]
    cases ch <;> rfl
  simp only [tmsComplete, if_pos hdue, tmsConvert, tmsReading, hno, hcls]

theorem tmsValid_disagreeCount (raw : Int) (s : State) :
    (tmsValid .b raw s).tms.disagreeCount = s.tms.disagreeCount := by
  rw [tmsValid_eq]
  split_ifs <;> simp [tmsNew, tmsStanding, readingTaken, tmsSet, Tms.setChan]

theorem examResult_tmsComplete {ch : Channel} (hch : ¬ ch = .l) {raw : Int} {s : State} (hdue : s.tms.due = ch)
    (hfailed : (s.tms.chan ch).failed = false) (hlow : -400 ≤ raw) (hhigh : raw ≤ 7000)
    (hw : ExamWaits (conversionTaken ch raw s)) (hceil : CeilingKept (conversionTaken ch raw s))
    (hcount : ch = .b → s.tms.disagreeCount < 9) :
    ExamResult (conversionTaken ch raw s) (tmsComplete ch raw s) := by
  obtain ⟨-, hno, -, -⟩ := conversionTaken_chan hch raw s
  have hone : ¬((conversionTaken ch raw s).tms.a.failed = true ∧ (conversionTaken ch raw s).tms.b.failed = true) := by
    rw [hfailed] at hno
    rintro ⟨ha, hb⟩
    cases ch with
    | l => exact hch rfl
    | a => exact absurd (ha.symm.trans hno) (by simp)
    | b => exact absurd (hb.symm.trans hno) (by simp)
  have hvalid := examResult_tmsValid hch hw hceil hone
  rw [tmsComplete_valid hch hdue hfailed hlow hhigh]
  cases ch with
  | l => exact absurd rfl hch
  | a => exact hvalid
  | b =>
    refine examResult_calm hvalid (examCalm_tmsPair ?_) (by simp [tmsCheck])
    rw [tmsValid_disagreeCount]
    exact hcount rfl

/-! ## The blind-cool second (R164, R165) -/

/-- The second as PRT has counted it. -/
def secondCounted (s : State) : State :=
  s.modPrt fun p => { p with blindCount := p.blindAfterSecond, secondMs := 0, heatSeen := s.drv.outputs.any }

theorem prtSecond_eq {s : State} (h : s.prt.blindRunning = true) :
    prtSecond s =
      if (secondCounted s).prt.blindCount = s.prt.blindCount then secondCounted s else unlockExam (secondCounted s) := by
  simp only [prtSecond, if_pos h]
  rfl

/-- Whatever the examination does, the count and the other blocks are those of the second (R164). -/
theorem prtSecond_kept {s : State} (h : s.prt.blindRunning = true) :
    (prtSecond s).prt.blindRunning = true ∧ (prtSecond s).prt.blindCount = s.prt.blindAfterSecond ∧
      (prtSecond s).ramp = s.ramp ∧ (prtSecond s).tms = s.tms ∧ (prtSecond s).bli = s.bli ∧ (prtSecond s).ptb = s.ptb ∧
      (prtSecond s).shr = s.shr ∧ (prtSecond s).alk.items = s.alk.items := by
  rw [prtSecond_eq h]
  split_ifs <;> simp [secondCounted, h]

theorem takeEvent_blind (f : State → State) (s : State) :
    (takeEvent f s).prt.blindRunning = (f s).prt.blindRunning ∧ (takeEvent f s).prt.blindCount = (f s).prt.blindCount := by
  rcases takeEvent_cases f s with h | ⟨h, -⟩ <;> simp [h]

theorem Prt.blindAfterSecond_eq (p : Prt) :
    p.blindAfterSecond =
      if p.heatSeen = true then p.blindCount else if p.blindCount < 14400 then p.blindCount + 1 else 14400 := rfl

theorem blindCoolTick_kept {s : State} (h : s.prt.blindRunning = true) :
    (takeEvent prtSecond s).prt.blindRunning = true ∧
      (takeEvent prtSecond s).prt.blindCount = s.prt.blindAfterSecond ∧ (takeEvent prtSecond s).ramp = s.ramp ∧
      (takeEvent prtSecond s).tms = s.tms ∧ (takeEvent prtSecond s).bli = s.bli ∧ (takeEvent prtSecond s).ptb = s.ptb ∧
      (takeEvent prtSecond s).shr = s.shr ∧ (takeEvent prtSecond s).alk.items = s.alk.items := by
  obtain ⟨hrun, hcount⟩ := takeEvent_blind prtSecond s
  simpa [hrun, hcount] using prtSecond_kept h

/-! ## The release (R13, R47, R164) -/

/-- With both channels failed the test passes at the full count (R46, R165). -/
theorem unlockTest_secondCounted {s : State} (hcom : s.alk.committed = true) (ha : s.tms.a.failed = true)
    (hb : s.tms.b.failed = true) (hrun : s.prt.blindRunning = true) (hfull : s.cfg .bc * 60 ≤ s.prt.blindAfterSecond) :
    (secondCounted s).unlockTest = true := by
  have hdone : (secondCounted s).blindDone = true := Bool.and_eq_true_iff.mpr ⟨hrun, decide_eq_true hfull⟩
  exact (secondCounted s).unlockTest_iff.mpr
    ⟨hcom, .inr (.inr (.inr ⟨(Chan.standing_eq_failed _).mpr ha, (Chan.standing_eq_failed _).mpr hb, hdone⟩))⟩

/-- Settles O51: the event's own operations end in `ExamResult`, and the event's end releases the door. -/
theorem unlockTestReleases : Obligations.UnlockTestReleases := by
  intro s sensorTrips waits released
  have hreleased {p t : State} (h : ExamReleased p t) (hcyc : p.cyc = s.cyc) (hlck : p.lck = s.lck) (hramp : p.ramp = s.ramp)
      (hprf : p.prf = s.prf) (hbli : p.bli = s.bli) (hptb : p.ptb = s.ptb) (hshr : p.shr = s.shr) (halk : p.alk = s.alk) :
      released t := by
    have hcfg : p.cfg .lt = s.cfg .lt := State.cfg_congr (by rw [halk]) (by rw [halk]) _
    have hlatch : p.latchEngaged = s.latchEngaged := by rw [State.latchEngaged, hlck, State.latchEngaged]
    exact ⟨hcyc ▸ h.phase, hcyc ▸ h.outcome, h.state, h.attempts, h.motor, hcfg ▸ hlatch ▸ h.stage, hramp ▸ h.ramp,
      hprf ▸ h.prf, hbli ▸ h.bli, hptb ▸ h.ptb, hshr ▸ h.shr⟩
  have hwaits {p : State} (h : waits) (hcyc : p.cyc = s.cyc) (hlck : p.lck = s.lck) (hprt : p.prt.faults = s.prt.faults)
      (htest : p.unlockTest = true) :
      ExamWaits p ∧ (p.cyc.phase = .tripped → s.lck.testPass = false) := by
    obtain ⟨hup, hcase⟩ := h
    refine ⟨⟨hlck ▸ hup, ?_, htest⟩, fun hp => ?_⟩
    · rw [hcyc, hlck, hprt]
      exact hcase.imp_right fun ⟨hp, hstate, _, hsensors⟩ => ⟨hp, hstate, (sensorsAlone_iff _).mpr hsensors⟩
    · rw [hcyc] at hp
      rcases hcase with ⟨hc, -⟩ | ⟨-, -, hpass, -⟩
      · exact absurd (hc.symm.trans hp) (by decide)
      · exact hpass
  refine ⟨?table, ?conversion, ?second, ?count⟩
  case table =>
    simp only [State.unlockTest_iff, Chan.standing_eq_valid, Chan.standing_eq_failed, State.blindDone, Bool.and_eq_true,
      decide_eq_true_eq]
  case conversion =>
    intro ch raw x v other hch hother hdue hfailed hlow hhigh hx hv hcom htest hceil hcount hwait
    have hother' : s.tms.otherOf ch = other := hother.symm
    obtain ⟨hready, hno, hfiltered, hsame⟩ := conversionTaken_chan hch raw s
    have hx' : ((conversionTaken ch raw s).tms.chan ch).filtered = x := hfiltered.trans hx.symm
    have hvalid : ((conversionTaken ch raw s).tms.chan ch).standing = .valid :=
      (Chan.standing_eq_valid _).mpr ⟨hready, hno.trans hfailed⟩
    have hcfg (i : Item) : (conversionTaken ch raw s).cfg i = s.cfg i := State.cfg_congr (by simp) (by simp) i
    have hpass : (conversionTaken ch raw s).unlockTest = true := by
      refine State.unlockTest_of_reading hch (by simpa using hcom) hvalid ?_
      rw [hsame, hother', hx', hcfg]
      refine htest.imp_left fun ⟨hstanding, hlt⟩ => ⟨hstanding, ?_⟩
      rwa [hv, if_pos hstanding] at hlt
    have hkept : CeilingKept (conversionTaken ch raw s) := by
      intro w hw
      rw [State.cavityValue_of_reading hch hvalid, hsame, hother', hx', ← hv, Option.some.injEq] at hw
      rw [hcfg, ← hw]
      exact hceil
    obtain ⟨hexam, hfalse⟩ := hwaits hwait (p := conversionTaken ch raw s) (by simp) (by simp) (by simp) hpass
    have hresult := examResult_tmsComplete hch hdue hfailed hlow hhigh hexam hkept hcount
    have hend := examReleased_takeEvent hexam hresult hfalse
    refine ⟨_, rfl, hreleased hend (by simp) (by simp) (by simp) (by simp) (by simp) (by simp) (by simp) (by simp), ?_⟩
    rw [← hx']
    cases ch with
    | l => exact absurd rfl hch
    | a => exact congrArg Chan.filtered hend.a
    | b => exact congrArg Chan.filtered hend.b
  case second =>
    intro hcom ha hb hrun hheat hcount hlimit hwait
    have hafter : s.prt.blindAfterSecond = s.cfg .bc * 60 := by
      simp [Prt.blindAfterSecond_eq, hheat, hlimit, hcount]
    have hpass := unlockTest_secondCounted hcom ha hb hrun hafter.ge
    obtain ⟨hexam, hfalse⟩ := hwaits hwait (p := secondCounted s) rfl rfl rfl hpass
    have hresult : ExamResult (secondCounted s) (prtSecond s) := by
      rw [prtSecond_eq hrun, if_neg]
      · exact examResult_unlockExam hexam
      · show ¬ s.prt.blindAfterSecond = s.prt.blindCount
        omega
    have hend := examReleased_takeEvent hexam hresult hfalse
    obtain ⟨-, hcounted, -, htms, -⟩ := blindCoolTick_kept hrun
    exact ⟨_, rfl, hreleased hend rfl rfl rfl rfl rfl rfl rfl rfl, hcounted.trans hafter, htms⟩
  case count =>
    intro hrun
    have hkept := blindCoolTick_kept hrun
    rw [Prt.blindAfterSecond_eq] at hkept
    exact ⟨_, rfl, hkept⟩

end Sys2Proof.Machine
end

section
/-! CERTIFICATE. The profile table's commands: PROFILE_SEEK, PROFILE_PUT and PROFILE_GET (R25 to R28). -/

namespace Sys2Proof.Machine

/-! ## A command that touches PRF alone -/

/-- A command that opens its transaction, changes PRF and answers leaves every other block as it was (R171). -/
theorem sameButLink_answer_modPrf (c : ResultCode) (bytes : List Byte) (params : Nat) (f : Prf → Prf) (s : State) :
    s.sameButLink { linkAnswer c bytes ((linkOpen params s).modPrf f) with prf := s.prf } := by
  rw [linkOpen_eq]
  rfl

/-- Two commands in a row that touch PRF and the port alone. -/
theorem sameButLink_prf_trans {s t u : State} (hst : s.sameButLink { t with prf := s.prf })
    (htu : t.sameButLink { u with prf := t.prf }) : s.sameButLink { u with prf := s.prf } := by
  have hback := congrArg (fun v : State =>
    { v with prf := s.prf, alk := { v.alk with link := s.alk.link, resetPending := s.alk.resetPending } }) htu
  exact hback.trans hst

/-! ## PROFILE_SEEK (R25) -/

/-- The mode bytes of section 12.3 are 0 for WRITE and 1 for READ. -/
theorem PointerMode.ofCode?_byte (mode : Byte) :
    PointerMode.ofCode? mode.toNat = if mode.toNat ≤ 1 then some (if mode = 0 then .write else .read) else none := by
  have hzero : mode = 0 ↔ mode.toNat = 0 := BitVec.toNat_inj.symm
  simp only [hzero]
  match mode.toNat with
  | 0 | 1 => rfl
  | _ + 2 => simp [PointerMode.ofCode?]

/-- PROFILE_SEEK's two cases, told apart as R25 does. -/
theorem profileSeek_eq (index mode : Byte) (s : State) :
    profileSeek index mode s =
      if index.toNat ≤ 15 ∧ mode.toNat ≤ 1 then
        linkAnswer .ok [] (prfSeek index.toNat (if mode = 0 then .write else .read) s)
      else linkAnswer .badParameter [] s := by
  rw [profileSeek, PointerMode.ofCode?_byte]
  by_cases hmode : mode.toNat ≤ 1
  · simp [hmode]
  · simp [hmode]

/-- Settles O22: the accepted seek writes the pointer, the refused one answers alone. -/
theorem seekSetsThePointer : Obligations.SeekSetsThePointer := by
  intro s index mode hready
  refine ⟨profileSeek index mode (linkOpen 2 s), next_congr (linkCommand_ready _ _ _ _ hready), ?_⟩
  rw [profileSeek_eq]
  by_cases hok : index.toNat ≤ 15 ∧ mode.toNat ≤ 1
  · simp only [if_pos hok]
    refine ⟨sameButLink_answer_modPrf .ok [] 2 _ s, rfl, ?_⟩
    rw [linkOpen_eq]
    rfl
  · simp only [if_neg hok]
    exact ⟨sameButLink_answer_modPrf .badParameter [] 2 id s, rfl, by rw [linkOpen_eq]; rfl⟩

/-! ## PROFILE_PUT's refusals (R26) -/

/-- PROFILE_PUT's checks read the pointer and the phase, which the opening of the transaction leaves. -/
theorem profilePut_linkOpen (w : Half) (params : Nat) (s : State) :
    profilePut w (linkOpen params s) =
      if s.prf.mode = .read then linkAnswer .wrongMode [] (linkOpen params s)
      else if 16 ≤ s.prf.index then linkAnswer .tableEnd [] (linkOpen params s)
      else if s.cyc.phase ≠ .idle then linkAnswer .wrongPhase [] (linkOpen params s)
      else linkAnswer (if prfClamps s.prf.wordPhase w then .clamped else .ok) [] (prfStage w (linkOpen params s)) := by
  simp [profilePut]

/-- Settles O23: each refusal answers alone; where the mode and the index pass, the phase is the check that fails. -/
theorem putRefusals : Obligations.PutRefusals := by
  intro s w hready hrefused
  refine ⟨profilePut w (linkOpen 2 s), next_congr (linkCommand_ready _ _ _ _ hready), ?_⟩
  rw [profilePut_linkOpen]
  by_cases hmode : s.prf.mode = .read
  · simp only [if_pos hmode]
    exact ⟨sameButLink_answer .wrongMode [] 2 s, rfl⟩
  by_cases hindex : 16 ≤ s.prf.index
  · simp only [if_neg hmode, if_pos hindex]
    exact ⟨sameButLink_answer .tableEnd [] 2 s, rfl⟩
  · have hphase : s.cyc.phase ≠ .idle := (hrefused.resolve_left hmode).resolve_left hindex
    simp only [if_neg hmode, if_neg hindex, if_pos hphase]
    exact ⟨sameButLink_answer .wrongPhase [] 2 s, rfl⟩

/-! ## The clamps of a record's words (R27) -/

/-- A first word as staged: the four high bits kept, the unused bits 0, the hold minutes in range. -/
theorem stageFirst_toNat (w : Half) : (stageFirst w).toNat = w.toNat / 4096 * 4096 + min (w.toNat % 1024) 600 := by
  have hhigh : (w.extractLsb' 12 4).toNat = w.toNat / 4096 := by
    rw [BitVec.extractLsb'_toNat, Nat.shiftRight_eq_div_pow]
    omega
  have hhold : (w.extractLsb' 0 10).toNat = w.toNat % 1024 := BitVec.extractLsb'_toNat ..
  have hlow : (BitVec.ofNat 10 (min (w.toNat % 1024) 600)).toNat = min (w.toNat % 1024) 600 :=
    Nat.mod_eq_of_lt (by omega)
  rw [stageFirst, BitVec.toNat_append, BitVec.toNat_append, hhigh, hhold, hlow, ← Nat.shiftLeft_add_eq_or_of_lt (by omega),
    Nat.shiftLeft_eq, Nat.shiftLeft_eq, BitVec.toNat_zero, Nat.or_zero]
  omega

/-- The clamp of the hold minutes leaves the two flags. -/
theorem stageFirst_getLsbD (w : Half) {i : Nat} (h : i = 12 ∨ i = 13) : (stageFirst w).getLsbD i = w.getLsbD i := by
  rw [BitVec.getLsbD, BitVec.getLsbD, Nat.testBit_eq_decide_div_mod_eq, Nat.testBit_eq_decide_div_mod_eq, stageFirst_toNat,
    decide_eq_decide]
  rcases h with rfl | rfl <;> omega

theorem stageFirst_kind (w : Half) : ((stageFirst w).extractLsb' 14 2).toNat = w.toNat / 16384 := by
  rw [BitVec.extractLsb'_toNat, stageFirst_toNat, Nat.shiftRight_eq_div_pow]
  omega

theorem stageFirst_holdMin (w : Half) : ((stageFirst w).extractLsb' 0 10).toNat = min (w.toNat % 1024) 600 := by
  rw [BitVec.extractLsb'_toNat, stageFirst_toNat, Nat.shiftRight_eq_div_pow]
  omega

theorem firstClamped_eq (w : Half) : firstClamped w = decide (600 < w.toNat % 1024) := by
  simp [firstClamped]

theorem stageSecond_toNat (w : Half) : (stageSecond w).toNat = min w.toNat 5000 := by
  rw [stageSecond, BitVec.toNat_ofNat]
  omega

theorem stageSecond_ne_iff (w : Half) : stageSecond w ≠ w ↔ 5000 < w.toNat := by
  rw [ne_eq, ← BitVec.toNat_inj, stageSecond_toNat]
  omega

theorem clampNat_cases (lo hi v : Nat) :
    v < lo ∧ clampNat lo hi v = lo ∨ lo ≤ v ∧ hi < v ∧ clampNat lo hi v = hi ∨ lo ≤ v ∧ v ≤ hi ∧ clampNat lo hi v = v := by
  unfold clampNat
  split_ifs <;> omega

theorem stageThird_toNat (w : Half) : (stageThird w).toNat = if w = 0 then 0 else clampNat 10 1200 w.toNat := by
  unfold stageThird
  split_ifs
  · rfl
  · have := clampNat_cases 10 1200 w.toNat
    rw [BitVec.toNat_ofNat]
    omega

theorem stageThird_ne_iff (w : Half) : stageThird w ≠ w ↔ w ≠ 0 ∧ (w.toNat < 10 ∨ 1200 < w.toNat) := by
  rw [ne_eq, ← BitVec.toNat_inj, stageThird_toNat]
  split_ifs with hzero
  · simp [hzero]
  · have := clampNat_cases 10 1200 w.toNat
    simp only [ne_eq, hzero, not_false_eq_true, true_and]
    omega

/-- The record of three staged words (section 12.2). -/
theorem segmentOfWords_staged (w1 w2 w3 : Half) :
    segmentOfWords (stageFirst w1) (stageSecond w2) (stageThird w3) = {
      kind := SegKind.ofCode (w1.toNat / 16384)
      target := min w2.toNat 5000
      burn := w1.getLsbD 13
      rate := if w3 = 0 then 0 else clampNat 10 1200 w3.toNat
      holdMin := min (w1.toNat % 1024) 600
      restart := w1.getLsbD 12 } := by
  rw [segmentOfWords, stageFirst_kind, stageFirst_holdMin, stageFirst_getLsbD w1 (.inl rfl), stageFirst_getLsbD w1 (.inr rfl),
    stageSecond_toNat, stageThird_toNat]

/-! ## PROFILE_PUT accepted (R27) -/

/-- Staging touches PRF alone, and goes by PRF alone. -/
theorem prfStage_eq {s t : State} (w : Half) (h : t.prf = s.prf) :
    prfStage w t = t.modPrf fun _ => (prfStage w s).prf := by
  unfold prfStage
  rw [h]
  split <;> simp [State.modPrf, h]

/-- A PUT that passes R26's checks answers by its clamp, stages its word, and touches PRF alone. -/
theorem profilePut_accepted {s : State} (w : Half) (hready : s.alk.resetPending = none) (hphase : s.cyc.phase = .idle)
    (hmode : s.prf.mode = .write) (hindex : s.prf.index ≤ 15) :
    ∃ t, exec (.profilePut w) s = .next t ∧ t.alk.link.answer = [if prfClamps s.prf.wordPhase w then 0x01 else 0x00] ∧
      t.prf = (prfStage w s).prf ∧ t.alk.resetPending = none ∧ t.cyc = s.cyc ∧ s.sameButLink { t with prf := s.prf } := by
  have hrun : linkCommand 2 0 (profilePut w) s = linkAnswer (if prfClamps s.prf.wordPhase w then .clamped else .ok) []
      ((linkOpen 2 s).modPrf fun _ => (prfStage w s).prf) := by
    rw [linkCommand_ready _ _ _ _ hready, profilePut_linkOpen, prfStage_eq w (s := s) (by simp)]
    simp [hmode, hphase, Nat.not_le.mpr (Nat.lt_succ_of_le hindex)]
  refine ⟨_, next_congr hrun, ?_, rfl, linkOpen_resetPending_none 2 s hready, ?_, sameButLink_answer_modPrf _ _ _ _ _⟩
  · cases prfClamps s.prf.wordPhase w <;> rfl
  · rw [linkOpen_eq]
    rfl

theorem prfStage_first {s : State} (w : Half) (h : s.prf.wordPhase = 0) :
    (prfStage w s).prf = { s.prf with staged := [stageFirst w], wordPhase := 1 } := by
  simp [prfStage, h]

theorem prfStage_second {s : State} (w : Half) (h : s.prf.wordPhase = 1) :
    (prfStage w s).prf = { s.prf with staged := s.prf.staged ++ [stageSecond w], wordPhase := 2 } := by
  simp [prfStage, h]

/-- The third word writes the whole record (R27). -/
theorem prfStage_third {s : State} {w1 w2 : Half} (w : Half) (h : s.prf.wordPhase = 2) (hstaged : s.prf.staged = [w1, w2]) :
    (prfStage w s).prf = { s.prf with
      table := s.prf.table.setIfInBounds s.prf.index (segmentOfWords w1 w2 (stageThird w))
      index := s.prf.index + 1, wordPhase := 0, staged := [] } := by
  simp [prfStage, h, hstaged]

/-- Settles O24: each PUT is an accepted one, the first two stage, and the third writes what they staged. -/
theorem putsWriteARecord : Obligations.PutsWriteARecord := by
  intro s w1 w2 w3 hready hphase hmode hword hindex
  obtain ⟨t1, hrun1, hans1, hprf1, hready1, hcyc1, hsame1⟩ := profilePut_accepted w1 hready hphase hmode hindex
  rw [prfStage_first w1 hword] at hprf1
  obtain ⟨t2, hrun2, hans2, hprf2, hready2, hcyc2, hsame2⟩ :=
    profilePut_accepted (s := t1) w2 hready1 (hcyc1 ▸ hphase) (by simpa [hprf1] using hmode) (by simpa [hprf1] using hindex)
  rw [prfStage_second w2 (by simp [hprf1]), hprf1] at hprf2
  obtain ⟨t3, hrun3, hans3, hprf3, -, -, hsame3⟩ :=
    profilePut_accepted (s := t2) w3 hready2 (hcyc2 ▸ hcyc1 ▸ hphase) (by simpa [hprf2] using hmode)
      (by simpa [hprf2] using hindex)
  rw [prfStage_third w3 (by simp [hprf2]) (w1 := stageFirst w1) (w2 := stageSecond w2) (by simp [hprf2]),
    segmentOfWords_staged] at hprf3
  refine ⟨t1, t2, t3, hrun1, hrun2, hrun3, ?_, ?_, ?_, by simp [hprf1], by simp [hprf2], by simp [hprf1], by simp [hprf2],
    by simp [hprf3, hprf2, hmode], sameButLink_prf_trans hsame1 (sameButLink_prf_trans hsame2 hsame3)⟩
  · simp [hans1, hword, prfClamps, firstClamped_eq]
  · simp [hans2, hprf1, prfClamps, stageSecond_ne_iff]
  · simp only [hans3, hprf2, prfClamps, bne_iff_ne, stageThird_ne_iff]

/-! ## PROFILE_GET (R28) -/

/-- PROFILE_GET's cases, with the pointer and the table as the command found them. -/
theorem profileGet_linkOpen (params : Nat) (s : State) :
    profileGet (linkOpen params s) =
      if s.prf.mode = .write then linkAnswer .wrongMode [0x00, 0x00] (linkOpen params s)
      else if 16 ≤ s.prf.index then linkAnswer .tableEnd [0x00, 0x00] (linkOpen params s)
      else linkAnswer .ok (halfBytes ((s.segmentAt s.prf.index).word s.prf.wordPhase)) (prfNext (linkOpen params s)) := by
  rw [linkOpen_eq]
  rfl

/-- The read pointer's step (R28). -/
theorem prfNext_prf (s : State) :
    (prfNext s).prf.table = s.prf.table ∧ (prfNext s).prf.mode = s.prf.mode ∧
      if s.prf.wordPhase < 2 then (prfNext s).prf.wordPhase = s.prf.wordPhase + 1 ∧ (prfNext s).prf.index = s.prf.index
      else (prfNext s).prf.wordPhase = 0 ∧ (prfNext s).prf.index = s.prf.index + 1 := by
  simp only [prfNext, State.modPrf_prf]
  split_ifs
  · exact ⟨rfl, rfl, rfl, rfl⟩
  · exact ⟨rfl, rfl, rfl, rfl⟩

/-- Settles O25: the two refusals answer alone; a READ within the table answers with its word and steps on. -/
theorem getReturnsAWord : Obligations.GetReturnsAWord := by
  intro s
  have hprf : (linkOpen 0 s).prf = s.prf := by simp
  refine ⟨profileGet (linkOpen 0 s), rfl, ?_⟩
  rw [profileGet_linkOpen]
  by_cases hmode : s.prf.mode = .write
  · simp only [if_pos hmode]
    exact ⟨sameButLink_answer_modPrf .wrongMode _ 0 id s, rfl, hprf⟩
  · have hread : s.prf.mode = .read := by
      cases hm : s.prf.mode
      · exact absurd hm hmode
      · rfl
    by_cases hindex : s.prf.index < 16
    · have hstep := prfNext_prf (linkOpen 0 s)
      simp only [hprf, hread] at hstep
      simp only [if_neg hmode, if_neg (Nat.not_le.mpr hindex), dif_pos hindex]
      refine ⟨sameButLink_answer_modPrf .ok _ 0 _ s, ?_, hstep⟩
      simp [State.segmentAt, hindex, ResultCode.code, byteOf]
    · simp only [if_neg hmode, if_pos (Nat.le_of_not_lt hindex), dif_neg hindex]
      exact ⟨sameButLink_answer_modPrf .tableEnd _ 0 id s, rfl, hprf⟩

end Sys2Proof.Machine
end

section
/-! CERTIFICATE. The ramp engine's steps: the movement of SP, the stall, the arrival, the next segment and the wait for the
slot, the counts of HOLDING and WAITING_SLOT, and the hold that starts again (R32 to R40, R150). -/

namespace Sys2Proof.Machine

/-! ## Whole steps, and records -/

/-- A step that touches the engine alone is the whole event: CYC has nothing to examine (R13). -/
theorem rampStep_of_ramp {s : State} {r : Ramp} (h : rampStep s = s.modRamp fun _ => r) :
    ∃ t, exec .rampStep s = .next t ∧ { t with ramp := s.ramp } = s ∧ t.ramp = r := by
  have hwhole : takeEvent rampStep s = rampStep s :=
    takeEvent_of_unexamined (by rw [h]; exact examines_eq_false (by simp) (by simp))
  exact ⟨_, next_congr (hwhole.trans h), rfl, rfl⟩

/-- In HEATING a step that stays there is the whole event (R13). -/
theorem exec_rampStep_heating {s : State} (hcyc : (rampStep s).cyc = s.cyc) (hp : s.cyc.phase = .heating) :
    exec .rampStep s = .next (rampStep s) :=
  next_congr (takeEvent_of_phase _ _ (by rw [hcyc, hp]; decide))

/-- A record touches ALK alone (R177). -/
theorem alkRecord_eq (k : EventKind) (d : Half) (s : State) :
    alkRecord k d s = { s with alk := (alkRecord k d s).alk } := by
  unfold alkRecord
  split_ifs <;> rfl

/-- A routed record with room in the list is appended (R177). -/
theorem alkRecord_events_of_room {k : EventKind} {d : Half} {s : State} (hroute : s.routing k.cls ≠ 0)
    (hroom : s.alk.events.length < 32) : (alkRecord k d s).alk.events = s.alk.events ++ [s.stamp k d] := by
  rw [alkRecord_events, if_neg (not_or.mpr ⟨hroute, Nat.not_le.mpr hroom⟩)]

/-! ## SP's movement (R33) -/

theorem toward_of_far {target sp : Int} {d : Nat} (h : d < (target - sp).natAbs) :
    toward target sp d = (if sp ≤ target then sp + d else sp - d) ∧ toward target sp d ≠ target := by
  unfold toward
  split_ifs <;> omega

theorem toward_of_near {target sp : Int} {d : Nat} (h : (target - sp).natAbs ≤ d) : toward target sp d = target := by
  unfold toward
  split_ifs <;> omega

/-- The engine after the timer and the movement of a step that leaves SP at `sp`, the next step a second on (R30, R33, R35). -/
def rampMoved (sp : Int) (s : State) : Ramp :=
  { s.ramp with
    segTimer := if s.drv.limited then s.ramp.segTimer else satSucc 65535 s.ramp.segTimer
    frac := if s.lagStalls then s.ramp.frac else (s.ramp.frac + s.segment.rate) % 60
    sp := sp
    stepTimer := some 1000 }

/-- Where SP stands after a step's movement (R33). -/
def State.spAfterStep (s : State) : Int :=
  if s.lagStalls then s.ramp.sp else toward s.segment.target s.ramp.sp ((s.ramp.frac + s.segment.rate) / 60 : Nat)

theorem rampRearm_rampAdvance (s : State) :
    rampRearm (rampAdvance s) = s.modRamp fun _ => rampMoved s.spAfterStep s := by
  rw [rampAdvance_eq]
  rfl

theorem rampAdvance_sp (s : State) : (rampAdvance s).ramp.sp = s.spAfterStep := by
  rw [rampAdvance_eq]
  rfl

/-- SP reaches the target of the segment in the stall or in the movement (R33, R34). -/
theorem spAfterStep_eq_target {s : State} (h : if s.lagStalls then s.ramp.sp = s.segment.target
    else ((s.segment.target : Int) - s.ramp.sp).natAbs ≤ (s.ramp.frac + s.segment.rate) / 60) :
    s.spAfterStep = s.segment.target := by
  unfold State.spAfterStep
  split_ifs at h ⊢
  · exact h
  · exact toward_of_near h

/-- A has come within the approach band of the target (R34). -/
abbrev State.inApproachBand (s : State) : Prop :=
  if s.ramp.up then (s.segment.target : Int) - s.cfg .ab ≤ s.tms.a.filtered
  else s.tms.a.filtered ≤ (s.segment.target : Int) + s.cfg .ab

theorem satSucc_le (limit n : Nat) : satSucc limit n ≤ n + 1 := by
  unfold satSucc
  split_ifs <;> omega

/-- A step on from a segment timer short of the limit, or after the report, reports no HEAT_TIMEOUT (R36). -/
theorem heatLate_rampAdvance_eq_false {s : State}
    (h : s.ramp.segTimer < rampLimit s.segment.target s.ramp.segStart s.segment.rate ∨ s.ramp.heatTimeoutRaised = true) :
    (rampAdvance s).heatLate = false := by
  rw [Bool.eq_false_iff, ne_eq, heatLate_rampAdvance]
  rintro ⟨hlate, hraised⟩
  have hlt := h.resolve_right (by simp [hraised])
  have hsat := satSucc_le 65535 s.ramp.segTimer
  split_ifs at hlate <;> omega

/-- A RAMPING step is judged as it stands after its movement (R34, R36). -/
theorem rampStep_ramping {s : State} (hs : s.ramp.state = .ramping) :
    rampStep s = rampJudge (rampRearm (rampAdvance s)) := by
  simp only [rampStep, hs, rampAdvance_rearm]

/-- A RAMPING step that neither completes nor is late is its movement (R33, R35). -/
theorem rampStep_moves {s : State} (hs : s.ramp.state = .ramping)
    (hshort : s.ramp.segTimer < rampLimit s.segment.target s.ramp.segStart s.segment.rate ∨ s.ramp.heatTimeoutRaised = true)
    (hc : ¬ (s.spAfterStep = s.segment.target ∧ s.inApproachBand)) :
    rampStep s = s.modRamp fun _ => rampMoved s.spAfterStep s := by
  have hcomplete : (rampRearm (rampAdvance s)).rampComplete = false := by
    show (rampAdvance s).rampComplete = false
    rwa [Bool.eq_false_iff, ne_eq, rampComplete_rampAdvance, rampAdvance_sp]
  have hlate : (rampRearm (rampAdvance s)).heatLate = false := heatLate_rampAdvance_eq_false hshort
  rw [rampStep_ramping hs, rampJudge, hcomplete, hlate, rampRearm_rampAdvance]
  rfl

/-! ## The next segment (R32, R34, R39, R150) -/

/-- The engine as the step that completes a RAMP leaves it, its timers still those of the RAMP (R34). -/
def rampArrived (s : State) : Ramp :=
  { rampMoved s.segment.target s with frac := 0 }

/-- A RAMPING step on the target within the approach band begins the next segment, from a state that differs from the one
before the step in the engine, the fault set and the event list alone (R34, R36). -/
theorem rampStep_arrives {s : State} (hs : s.ramp.state = .ramping) (hsp : s.spAfterStep = s.segment.target)
    (hband : s.inApproachBand) :
    ∃ m, rampStep s = rampBegin (s.ramp.segIndex + 1) m ∧ m.ramp = rampArrived s ∧ m.cyc = s.cyc ∧ m.prf = s.prf ∧
      m.lck = s.lck ∧ m.tms = s.tms ∧ m.reg = s.reg ∧ m.drv = s.drv ∧ m.bli = s.bli ∧ m.ptb = s.ptb ∧ m.shr = s.shr ∧
      m.cfg .k = s.cfg .k := by
  have hcomplete : (rampRearm (rampAdvance s)).rampComplete = true := by
    show (rampAdvance s).rampComplete = true
    rw [rampComplete_rampAdvance, rampAdvance_sp]
    exact ⟨hsp, hband⟩
  have hrun : rampStep s =
      rampBegin (s.ramp.segIndex + 1) (prtGone .heatTimeout (s.modRamp fun _ => rampArrived s)) := by
    rw [rampStep_ramping hs, rampJudge, hcomplete, rampRearm_rampAdvance, hsp]
    rfl
  exact ⟨_, hrun, by simp, by simp, by simp, by simp, by simp, by simp, by simp, by simp, by simp, by simp,
    State.cfg_congr (by simp) (by simp) _⟩

/-- A RAMP or HOLD that needs no slot begins with its timers at 0 and its event recorded (R32). -/
theorem rampBegin_heats {i : Nat} {s : State} (hk : (s.segmentAt i).kind = .ramp ∨ (s.segmentAt i).kind = .hold)
    (hb : (s.segmentAt i).burn = false) (hf : s.ramp.slotFlag = .none) :
    (rampBegin i s).ramp = { s.ramp with
        state := if (s.segmentAt i).kind = .ramp then .ramping else .holding
        segIndex := i, segStart := s.ramp.sp
        up := if (s.segmentAt i).kind = .ramp then decide (s.ramp.sp ≤ ((s.segmentAt i).target : Int)) else s.ramp.up
        holdTimer := 0, segTimer := 0, dropRun := 0, heatTimeoutRaised := false } ∧
      (rampBegin i s).cyc = s.cyc ∧ (rampBegin i s).lck = s.lck ∧ (rampBegin i s).reg = s.reg ∧
      (rampBegin i s).drv = s.drv ∧ (rampBegin i s).bli = s.bli ∧ (rampBegin i s).shr = s.shr := by
  have hseg : (s.modRamp fun r => { r with segIndex := i }).segment = s.segmentAt i := rfl
  rcases hk with hk | hk <;> simp [rampBegin, hseg, hb, hf, rampEnter, hk]

/-- In SHARING a first request becomes a claim where a slot is free, and backs off else (R150). -/
theorem shrRequest_sharing {s : State} (hstate : s.shr.state = .sharing) (hreq : s.shr.request = .none)
    (hslot : s.shr.slot = .none) :
    (if s.shr.sums.holders < s.cfg .k then (shrRequest s).shr.request = .claiming ∧ (shrRequest s).shr.slot = .claim
     else (shrRequest s).shr.request = .backingOff ∧ (shrRequest s).shr.slot = .none) ∧
      (shrRequest s).shr.ho = s.shr.ho ∧ (shrRequest s).ramp = s.ramp ∧ (shrRequest s).cyc = s.cyc ∧
      (shrRequest s).lck = s.lck ∧ (shrRequest s).reg = s.reg ∧ (shrRequest s).drv = s.drv := by
  by_cases hfree : s.shr.sums.holders < s.cfg .k
  · simp [shrRequest, shrTakeRequest, hstate, hreq, hfree]
  · have hrequest : (shrBackOff s).shr.request = .backingOff := rfl
    simp [shrRequest, shrTakeRequest, hstate, hreq, hfree, hslot, hrequest]

/-- The first burn-flagged RAMP or HOLD waits for the slot, which it asks of SHR in SHARING (R39, R150). -/
theorem rampBegin_asks {i : Nat} {s : State} (hk : (s.segmentAt i).kind = .ramp ∨ (s.segmentAt i).kind = .hold)
    (hb : (s.segmentAt i).burn = true) (hf : s.ramp.slotFlag = .none) (hstate : s.shr.state = .sharing)
    (hreq : s.shr.request = .none) (hslot : s.shr.slot = .none) :
    (rampBegin i s).ramp = { s.ramp with
        state := .waitingSlot, segIndex := i, slotWait := 0, slotFlag := .requested } ∧
      (if s.shr.sums.holders < s.cfg .k then (rampBegin i s).shr.request = .claiming ∧ (rampBegin i s).shr.slot = .claim
       else (rampBegin i s).shr.request = .backingOff ∧ (rampBegin i s).shr.slot = .none) ∧
      (rampBegin i s).shr.ho = s.shr.ho ∧ (rampBegin i s).cyc = s.cyc ∧ (rampBegin i s).lck = s.lck ∧
      (rampBegin i s).reg = s.reg ∧ (rampBegin i s).drv = s.drv := by
  have hseg : (s.modRamp fun r => { r with segIndex := i }).segment = s.segmentAt i := rfl
  have hheats : (s.segmentAt i).heats = true := by rcases hk with hk | hk <;> simp [Segment.heats, hk]
  have hwaits : rampBegin i s = rampWait (s.modRamp fun r => { r with segIndex := i }) := by
    simp [rampBegin, hseg, hheats, hb, hf]
  obtain ⟨m, hm, hramp, hshr, hcyc, hlck, hreg, hdrv, hcfg⟩ : ∃ m, rampBegin i s = shrRequest m ∧
      m.ramp = { s.ramp with state := .waitingSlot, segIndex := i, slotWait := 0, slotFlag := .requested } ∧
      m.shr = s.shr ∧ m.cyc = s.cyc ∧ m.lck = s.lck ∧ m.reg = s.reg ∧ m.drv = s.drv ∧ m.cfg .k = s.cfg .k :=
    ⟨_, hwaits, by simp, by simp, by simp, by simp, by simp, by simp, State.cfg_congr (by simp) (by simp) _⟩
  obtain ⟨hslots, hho, eramp, ecyc, elck, ereg, edrv⟩ :=
    shrRequest_sharing (s := m) (hshr ▸ hstate) (hshr ▸ hreq) (hshr ▸ hslot)
  rw [hshr, hcfg] at hslots
  rw [hm]
  exact ⟨eramp.trans hramp, hslots, hho.trans (by rw [hshr]), ecyc.trans hcyc, elck.trans hlck, ereg.trans hreg,
    edrv.trans hdrv⟩

/-! ## HOLDING and WAITING_SLOT (R37, R38, R40) -/

/-- A HOLDING step is judged as it stands after its counting (R37, R38). -/
theorem rampStep_holding {s : State} (hs : s.ramp.state = .holding) :
    rampStep s = holdJudge (rampRearm (holdAdvance s)) := by
  simp only [rampStep, hs, holdAdvance_rearm]

theorem State.inHoldBand_iff (s : State) :
    s.inHoldBand = true ↔ (s.tms.a.filtered - s.segment.target).natAbs ≤ s.cfg .hb :=
  decide_eq_true_iff

theorem State.belowHoldBand_iff (s : State) :
    s.belowHoldBand = true ↔ s.tms.a.filtered < (s.segment.target : Int) - s.cfg .hb :=
  decide_eq_true_iff

/-- The engine after a HOLDING step's counting, the next step a second on (R30, R35, R37, R38). -/
theorem rampRearm_holdAdvance (s : State) :
    rampRearm (holdAdvance s) = s.modRamp fun r => { r with
      holdTimer := if (s.tms.a.filtered - s.segment.target).natAbs ≤ s.cfg .hb then satSucc 65535 r.holdTimer
        else r.holdTimer
      segTimer := if s.drv.limited then r.segTimer else satSucc 65535 r.segTimer
      stepTimer := some 1000
      dropRun := if s.segment.restart = true ∧ s.tms.a.filtered < (s.segment.target : Int) - s.cfg .hb then r.dropRun + 1
        else 0 } := by
  rw [holdAdvance_eq]
  simp only [State.inHoldBand_iff, Bool.and_eq_true, State.belowHoldBand_iff]
  rfl

/-- A HOLDING step that neither restarts nor completes is its counting (R37, R38). -/
theorem rampStep_counts {s : State} (hs : s.ramp.state = .holding) (hnot : (holdAdvance s).dropped = false)
    (hshort : (holdAdvance s).holdDone = false) : rampStep s = rampRearm (holdAdvance s) := by
  have hnot' : (rampRearm (holdAdvance s)).dropped = false := hnot
  have hshort' : (rampRearm (holdAdvance s)).holdDone = false := hshort
  simp [rampStep_holding hs, holdJudge, hnot', hshort']

/-- A HOLDING step in which the drop run reaches 60 clears the hold's counts and is recorded (R38). -/
theorem rampStep_restarts {s : State} (hs : s.ramp.state = .holding) (hdropped : (holdAdvance s).dropped = true) :
    rampStep s = alkRecord .segmentRestart (detail 0 s.ramp.segIndex) (s.modRamp fun r => { r with
      holdTimer := 0, dropRun := 0, segTimer := if s.drv.limited then r.segTimer else satSucc 65535 r.segTimer
      stepTimer := some 1000 }) := by
  have hdropped' : (rampRearm (holdAdvance s)).dropped = true := hdropped
  rw [rampStep_holding hs, holdJudge, if_pos hdropped', rampRearm_holdAdvance]
  rfl

/-- A WAITING_SLOT step short of the limit counts the wait (R40). -/
theorem rampStep_waits {s : State} (hs : s.ramp.state = .waitingSlot) (hlimit : s.ramp.slotWait + 1 ≠ s.cfg .ws * 60) :
    rampStep s = s.modRamp fun r => { r with slotWait := r.slotWait + 1, stepTimer := some 1000 } := by
  simp only [rampStep, hs]
  exact if_neg hlimit

/-! ## The obligations -/

/-- Settles O35: a RAMPING step short of its limit is its movement, or the next segment's beginning where SP arrives within the
approach band; the other two states' steps are their counts. -/
theorem rampStepMoves : Obligations.RampStepMoves := by
  rintro s target d n segTime stalled rfl rfl hstalled rfl rfl
  obtain rfl : s.lagStalls = stalled := hstalled.symm
  refine ⟨fun hs hshort => ⟨?stall, ?move, ?wait, ?next, ?ask⟩, ?hold, ?slot⟩
  case stall =>
    intro hstall hfar
    have hup : s.ramp.up = true := (s.lagStalls_iff.mp hstall).1
    have hsp : s.spAfterStep = s.ramp.sp := if_pos hstall
    refine rampStep_of_ramp ((rampStep_moves hs hshort ?_).trans ?_)
    · rintro ⟨htarget, hband⟩
      rw [State.inApproachBand, if_pos hup] at hband
      exact absurd (hfar (hsp.symm.trans htarget)) (not_lt.mpr hband)
    · rw [hsp]
      simp [rampMoved, hstall]
  case move =>
    intro hstall hfar
    obtain ⟨hmoved, hne⟩ := toward_of_far hfar
    have hsp : s.spAfterStep = _ := if_neg (by simp [hstall])
    refine rampStep_of_ramp ((rampStep_moves hs hshort fun h => hne (hsp.symm.trans h.1)).trans ?_)
    rw [hsp, hmoved]
    simp [rampMoved, hstall]
  case wait =>
    intro hstall hnear hband
    have hsp : s.spAfterStep = s.segment.target := spAfterStep_eq_target (by simpa [hstall] using hnear)
    refine rampStep_of_ramp ((rampStep_moves hs hshort ?_).trans ?_)
    · rintro ⟨-, hin⟩
      split_ifs at hband hin <;> omega
    · rw [hsp]
      simp [rampMoved, hstall]
  case next =>
    intro hat hband hp hflag hburn hkind
    obtain ⟨m, hrun, mramp, mcyc, mprf, mlck, mtms, mreg, mdrv, mbli, -, mshr, -⟩ :=
      rampStep_arrives hs (spAfterStep_eq_target hat) hband
    have hnext : m.segmentAt (s.ramp.segIndex + 1) = _ := State.segmentAt_congr mprf _
    obtain ⟨hramp, hcyc, hlck, hreg, hdrv, hbli, hshr⟩ :=
      rampBegin_heats (s := m) (hnext ▸ hkind) (hnext ▸ hburn) (by rw [mramp]; exact hflag)
    rw [← hrun] at hramp hcyc hlck hreg hdrv hbli hshr
    refine ⟨rampStep s, exec_rampStep_heating (hcyc.trans mcyc) hp, ?_, hcyc.trans mcyc, ?_, hlck.trans mlck, ?_,
      hreg.trans mreg, hdrv.trans mdrv, hbli.trans mbli, hshr.trans mshr⟩
    · rw [hramp, hnext, mramp]
      rfl
    · simp [hrun, mprf]
    · simp [hrun, mtms]
  case ask =>
    intro hat hband hp hflag hburn hkind hstate hreq hslot
    obtain ⟨m, hrun, mramp, mcyc, mprf, mlck, mtms, mreg, mdrv, -, mptb, mshr, mk⟩ :=
      rampStep_arrives hs (spAfterStep_eq_target hat) hband
    have hnext : m.segmentAt (s.ramp.segIndex + 1) = _ := State.segmentAt_congr mprf _
    obtain ⟨hramp, hslots, hho, hcyc, hlck, hreg, hdrv⟩ :=
      rampBegin_asks (s := m) (hnext ▸ hkind) (hnext ▸ hburn) (by rw [mramp]; exact hflag) (mshr ▸ hstate) (mshr ▸ hreq)
        (mshr ▸ hslot)
    rw [← hrun] at hramp hslots hho hcyc hlck hreg hdrv
    rw [mshr, mk] at hslots
    refine ⟨rampStep s, exec_rampStep_heating (hcyc.trans mcyc) hp, ?_, hslots, hho.trans (by rw [mshr]), hcyc.trans mcyc, ?_,
      hlck.trans mlck, ?_, hreg.trans mreg, hdrv.trans mdrv, ?_⟩
    · rw [hramp, mramp]
      rfl
    · simp [hrun, mprf]
    · simp [hrun, mtms]
    · simp [hrun, mptb]
  case hold =>
    intro hs hmore hdrop
    have hnot : (holdAdvance s).dropped = false := by
      rwa [Bool.eq_false_iff, ne_eq, dropped_holdAdvance]
    have hshort : (holdAdvance s).holdDone = false := by
      rw [Bool.eq_false_iff, ne_eq, holdDone_holdAdvance, holdAdvance_holdTimer]
      exact Nat.not_le.mpr hmore
    exact rampStep_of_ramp ((rampStep_counts hs hnot hshort).trans (rampRearm_holdAdvance s))
  case slot =>
    intro hs hlimit
    exact rampStep_of_ramp (rampStep_waits hs hlimit)

/-- Settles O37: the drop run reaches 60, and the judgement of the counted step restarts the hold before it asks for its end. -/
theorem holdRestarts : Obligations.HoldRestarts := by
  intro s hs hrestart hrun hbelow hroute hroom
  have hdropped : (holdAdvance s).dropped = true :=
    (dropped_holdAdvance s).mpr ⟨hrestart, hbelow, hrun.ge⟩
  have hrestarts : s.holdRestarts = true := by simp [State.holdRestarts, hs, hdropped]
  have hstep := rampStep_restarts hs hdropped
  have hwhole : takeEvent rampStep s = rampStep s :=
    takeEvent_of_unexamined (by rw [hstep]; exact examines_eq_false (by simp) (by simp))
  refine ⟨rampStep s, ?_, by simp [hstep], by simp [hstep], by simp [hstep, hs], by simp [hstep], by simp [hstep], ?_, ?_⟩
  · show Host.Outcome.next _ = _
    rw [if_pos hrestarts, hwhole]
  · rw [hstep, alkRecord_eq]
    rfl
  · rw [hstep]
    exact alkRecord_events_of_room hroute hroom

end Sys2Proof.Machine
end

section
/-! SUPPORT. The law of heat (R44, R96) under the shared operations: MAIN and the phase, the notices of PRT, the ramp engine
and the burn slot. -/

namespace Sys2Proof.Machine

/-! ## The law and its part that a change of the phase keeps -/

/-- The law of heat but for the permission, which a change of the phase leaves for its next step (R10, R96). -/
def State.heatWired (s : State) : Prop :=
  s.drv.main = s.mainAllowed ∧ (s.drv.outputs.any = true → s.drv.main = true) ∧
    (s.lck.startUp = true → s.lck.state = .locked ∧ s.lck.stage = .none)

theorem heatSafe_iff (s : State) :
    s.heatSafe ↔ s.heatWired ∧ s.drv.permitted = (s.cyc.phase == .heating) := by
  unfold State.heatWired
  tauto

theorem heatWired_of_heatSafe {s : State} (h : s.heatSafe) : s.heatWired := ((heatSafe_iff s).mp h).1

/-- A travel or a lock state other than LOCKED tells that start-up is over (R44). -/
theorem startUp_of_stage {s : State} (h : s.heatSafe) (hg : s.lck.stage ≠ .none) : s.lck.startUp = false := by
  obtain ⟨-, -, -, hstart⟩ := h
  exact Bool.eq_false_iff.mpr fun hu => hg (hstart hu).2

theorem startUp_of_state {s : State} (h : s.heatWired) (hl : s.lck.state ≠ .locked) : s.lck.startUp = false := by
  obtain ⟨-, -, hstart⟩ := h
  exact Bool.eq_false_iff.mpr fun hu => hl (hstart hu).1

@[simp] theorem prtGone_codes (c : FaultCode) (s : State) :
    (prtGone c s).prt.faults.map FaultEntry.code = s.prt.faults.map FaultEntry.code := by
  simp [prtGone_faults, clearFlag_codes]

/-- An operation that touches neither LCK nor DRV, and keeps the codes of the fault set, keeps the wiring. -/
theorem heatWired_of_calm {s t : State} (h : s.heatWired) (hcalm : t.lck = s.lck ∧ t.drv = s.drv ∧
    t.prt.faults.map FaultEntry.code = s.prt.faults.map FaultEntry.code) : t.heatWired := by
  obtain ⟨hlck, hdrv, hcodes⟩ := hcalm
  unfold State.heatWired State.mainAllowed at h ⊢
  rwa [hlck, hdrv, hasTrip_congr hcodes]

/-- An operation that keeps the phase too keeps the law. -/
theorem heatSafe_of_calm {s t : State} (h : s.heatSafe) (hcalm : t.cyc.phase = s.cyc.phase ∧ t.lck = s.lck ∧
    t.drv = s.drv ∧ t.prt.faults.map FaultEntry.code = s.prt.faults.map FaultEntry.code) : t.heatSafe := by
  obtain ⟨hphase, hlck, hdrv, hcodes⟩ := hcalm
  rw [heatSafe_iff] at h ⊢
  rw [hphase, hdrv]
  exact ⟨heatWired_of_calm h.1 ⟨hlck, hdrv, hcodes⟩, h.2⟩

theorem heatSafe_alkRecord {k : EventKind} {d : Half} {s : State} (h : s.heatSafe) : (alkRecord k d s).heatSafe :=
  heatSafe_of_calm h (by simp)

theorem heatSafe_prtGone {c : FaultCode} {s : State} (h : s.heatSafe) : (prtGone c s).heatSafe :=
  heatSafe_of_calm h (by simp)

/-! ## MAIN (R96, R97) -/

/-- MAIN's opening switches the elements off (R97). -/
theorem drvMain_outputs {s : State} (h : s.drv.outputs.any = true → s.drv.main = true) :
    (drvMain s).drv.outputs.any = true → (drvMain s).drv.main = true := by
  unfold drvMain
  split_ifs
  · exact fun _ => rfl
  · simp [drvAbandon, drvOutputs, PerElement.any, PerElement.all]
  · exact h

/-- Where MAIN is made to follow its conditions the wiring is restored. -/
theorem heatWired_drvMain {s : State} (hout : s.drv.outputs.any = true → s.drv.main = true)
    (hstart : s.lck.startUp = true → s.lck.state = .locked ∧ s.lck.stage = .none) : (drvMain s).heatWired := by
  refine ⟨?_, drvMain_outputs hout, by simpa using hstart⟩
  simp [State.mainAllowed]

/-- The permission that goes with the phase is handed to DRV, and MAIN follows (R7, R10, R96). -/
theorem heatSafe_permit {b : Bool} {s : State} (h : s.heatWired) (hb : b = (s.cyc.phase == .heating)) :
    (drvMain (s.modDrv fun d => { d with permitted := b })).heatSafe := by
  obtain ⟨-, hout, hstart⟩ := h
  rw [heatSafe_iff]
  exact ⟨heatWired_drvMain hout hstart, by simpa using hb⟩

/-- Whatever has become of the fault set, the law stands once MAIN has followed it (R96, R160). -/
theorem heatSafe_drvMain_of_faults {s t : State} (h : s.heatSafe)
    (hsame : t.cyc.phase = s.cyc.phase ∧ t.lck = s.lck ∧ t.drv = s.drv) : (drvMain t).heatSafe := by
  obtain ⟨hphase, hlck, hdrv⟩ := hsame
  obtain ⟨-, hpermitted, hout, hstart⟩ := h
  exact (heatSafe_iff _).mpr
    ⟨heatWired_drvMain (by rwa [hdrv]) (by rwa [hlck]), by simpa [hphase, hdrv] using hpermitted⟩

/-! ## The lock state (R45, R58, R96) -/

theorem heatWired_lckSetState {st : LockState} {s : State} (h : s.heatWired)
    (hup : s.lck.startUp = false ∨ st = .locked) : (lckSetState st s).heatWired := by
  obtain ⟨-, hout, hstart⟩ := id h
  unfold lckSetState
  split_ifs
  · exact h
  · refine heatWired_drvMain (by simpa using hout) fun hu => ?_
    have hu' : s.lck.startUp = true := by simpa using hu
    simpa [(hstart hu').2] using hup.resolve_left (by simp [hu'])

theorem heatWired_lckSetJammed {v : Bool} {s : State} (h : s.heatWired) (hup : s.lck.startUp = false) :
    (lckSetJammed v s).heatWired := by
  obtain ⟨-, hout, -⟩ := id h
  unfold lckSetJammed
  split_ifs
  · exact h
  · exact heatWired_drvMain (by simpa using hout) (by simp [hup])

theorem heatWired_lckTripped {s : State} (h : s.heatWired) : (lckTripped s).heatWired := by
  unfold lckTripped
  split_ifs with ht
  · obtain ⟨-, hunlocked, -⟩ := ht
    exact heatWired_lckSetJammed h (startUp_of_state h (by simp [hunlocked]))
  · exact h

theorem heatSafe_lckSetState {st : LockState} {s : State} (h : s.heatSafe)
    (hup : s.lck.startUp = false ∨ st = .locked) : (lckSetState st s).heatSafe := by
  rw [heatSafe_iff] at h ⊢
  exact ⟨heatWired_lckSetState h.1 hup, by simpa using h.2⟩

theorem heatSafe_lckSetJammed {v : Bool} {s : State} (h : s.heatSafe) (hup : s.lck.startUp = false) :
    (lckSetJammed v s).heatSafe := by
  rw [heatSafe_iff] at h ⊢
  exact ⟨heatWired_lckSetJammed h.1 hup, by simpa using h.2⟩

theorem heatSafe_lckTripped {s : State} (h : s.heatSafe) : (lckTripped s).heatSafe := by
  rw [heatSafe_iff] at h ⊢
  exact ⟨heatWired_lckTripped h.1, by simpa using h.2⟩

/-! ## The phase (R10, R14, R22) -/

/-- REG and DRV hear of the phase; what they do touches no output (R83, R85, R103). -/
theorem heatWired_phaseTold {old new : Phase} {s : State} (h : s.heatWired) :
    (regFan (drvPhase (regPhase old new s))).heatWired := by
  have hreg : (regPhase old new s).heatWired := heatWired_of_calm h (by simp)
  have hdrv : (drvPhase (regPhase old new s)).heatWired := hreg
  exact heatWired_of_calm hdrv (by simp)

theorem heatWired_cycSetPhase {p : Phase} {s : State} (h : s.heatWired) : (cycSetPhase p s).heatWired := by
  unfold cycSetPhase
  split_ifs
  · exact h
  · exact heatWired_lckTripped (heatWired_phaseTold (heatWired_of_calm h (by simp)))

/-- Between two phases other than HEATING the permission stays away. -/
theorem heatSafe_cycSetPhase {p : Phase} {s : State} (h : s.heatSafe) (hs : s.cyc.phase ≠ .heating) (hp : p ≠ .heating) :
    (cycSetPhase p s).heatSafe := by
  obtain ⟨hwired, hpermitted⟩ := (heatSafe_iff s).mp h
  exact (heatSafe_iff _).mpr ⟨heatWired_cycSetPhase hwired, by simp [hpermitted, hs, hp]⟩

theorem heatSafe_cycLeaveHeating {p : Phase} {s : State} (h : s.heatWired) (hp : p ≠ .heating) :
    (cycLeaveHeating p s).heatSafe := by
  have hidle : (prfIdle (cycSetPhase p s)).heatWired :=
    heatWired_of_calm (heatWired_cycSetPhase (p := p) h) (by simp [prfIdle])
  have hopen := heatSafe_permit (b := false) hidle (by simp [hp])
  exact heatSafe_of_calm hopen (by simp [cycLeaveHeating])

/-! ## PRT's notices (R11, R12, R160, R161) -/

theorem heatSafe_cycTrip {c : FaultCode} {s : State} (h : s.heatSafe) : (cycTrip c s).heatSafe := by
  have hnote : (cycFirstFault c (cycOutcome .tripped s)).heatSafe := h
  cases hp : s.cyc.phase <;> simp only [cycTrip, hp]
  case idle | tripped => exact h
  case heating => exact heatSafe_cycLeaveHeating (heatWired_of_heatSafe hnote) (by decide)
  case locking | cooling | unlocking | held => exact heatSafe_cycSetPhase hnote (by simp [hp]) (by decide)

theorem heatSafe_cycAbort {c : FaultCode} {s : State} (h : s.heatSafe) : (cycAbort c s).heatSafe := by
  have hnote : (cycOutcome .faultAborted (cycFirstFault c s)).heatSafe := h
  cases hp : s.cyc.phase <;> simp only [cycAbort, hp]
  case idle | held => exact h
  case heating => exact heatSafe_cycLeaveHeating (heatWired_of_heatSafe hnote) (by decide)
  case locking | cooling | unlocking | tripped => exact h

theorem heatSafe_cycComplete {s : State} (h : s.heatSafe) : (cycComplete s).heatSafe := by
  have hnote : (cycOutcome .completed s).heatSafe := h
  unfold cycComplete
  split_ifs
  · exact heatSafe_cycLeaveHeating (heatWired_of_heatSafe hnote) (by decide)
  · exact h

/-- An entry of another class brings no trip (R157). -/
theorem any_isTrip_raiseFlag {c : FaultCode} (hc : c.cls ≠ .trip) (now : Nat) (l : List FaultEntry) :
    (raiseFlag c now l).any FaultEntry.isTrip = l.any FaultEntry.isTrip := by
  unfold raiseFlag
  split_ifs
  · rw [List.any_map]
    congr 1
    funext e
    by_cases he : e.code = c <;> simp [he, FaultEntry.isTrip]
  · simp [FaultEntry.isTrip, hc]

/-- A report of another class than a trip leaves MAIN's conditions as they are. -/
theorem heatSafe_prtEnter {c : FaultCode} (hc : c.cls ≠ .trip) {s : State} (h : s.heatSafe) :
    (prtEnter c s).heatSafe := by
  have htrip : (prtEnter c s).hasTrip = s.hasTrip := by simp [State.hasTrip, any_isTrip_raiseFlag hc]
  simpa [State.heatSafe, State.mainAllowed, htrip] using h

theorem heatSafe_prtRaise {c : FaultCode} {s : State} (h : s.heatSafe) : (prtRaise c s).heatSafe := by
  cases hf : flagIn c true s.prt.faults with
  | true => rwa [prtRaise_present]; rwa [any_present_eq_flagIn]
  | false =>
    rw [prtRaise_new hf]
    cases hcls : c.cls <;> simp only [prtAction, hcls]
    case trip => exact heatSafe_cycTrip (heatSafe_drvMain_of_faults h (by simp))
    case abort => exact heatSafe_cycAbort (heatSafe_prtEnter (by simp [hcls]) h)
    case degrade => exact heatSafe_prtEnter (by simp [hcls]) h

/-! ## The ramp engine and the burn slot (R32, R39, R41, R149 to R155) -/

theorem heatSafe_rampEnter {s : State} (h : s.heatSafe) : (rampEnter s).heatSafe := by
  unfold rampEnter
  simp only
  split
  · exact heatSafe_of_calm h (by simp)
  · exact heatSafe_of_calm h (by simp)
  · exact heatSafe_cycComplete h
  · exact heatSafe_cycComplete h

theorem heatSafe_prfGrant {s : State} (h : s.heatSafe) : (prfGrant s).heatSafe := by
  unfold prfGrant
  split_ifs
  · exact heatSafe_rampEnter (heatSafe_of_calm h (by simp))
  · exact heatSafe_of_calm h (by simp)

theorem heatSafe_shrHold {s : State} (h : s.heatSafe) : (shrHold s).heatSafe :=
  heatSafe_prfGrant (heatSafe_of_calm h (by simp))

theorem heatSafe_shrStatic {s : State} (h : s.heatSafe) : (shrStatic s).heatSafe := by
  unfold shrStatic
  split_ifs
  · exact heatSafe_shrHold h
  · exact h

theorem heatSafe_shrTakeRequest {s : State} (h : s.heatSafe) : (shrTakeRequest s).heatSafe := by
  unfold shrTakeRequest
  split
  · exact h
  · exact heatSafe_shrStatic h
  · exact heatSafe_shrStatic h
  · split_ifs
    · exact heatSafe_of_calm h (by simp)
    · exact heatSafe_of_calm h (by simp)

theorem heatSafe_shrRequest {s : State} (h : s.heatSafe) : (shrRequest s).heatSafe := by
  unfold shrRequest
  split_ifs
  · exact heatSafe_shrTakeRequest h
  · exact h

theorem heatSafe_rampBegin {i : Nat} {s : State} (h : s.heatSafe) : (rampBegin i s).heatSafe := by
  unfold rampBegin
  simp only
  split_ifs
  · exact heatSafe_shrRequest (heatSafe_of_calm h (by simp))
  · exact heatSafe_rampEnter (heatSafe_of_calm h (by simp))
  · exact heatSafe_rampEnter h

/-! ## SHR's causes and fallback (R138, R140, R154) -/

theorem heatSafe_shrSlotFallback {s : State} (h : s.heatSafe) : (shrSlotFallback s).heatSafe := by
  unfold shrSlotFallback
  split
  · exact heatSafe_shrStatic (heatSafe_of_calm h (by simp))
  · exact heatSafe_shrStatic h
  · exact h
  · exact h
  · exact h

theorem heatSafe_shrRecord {s : State} (h : s.heatSafe) : (shrRecord s).heatSafe := heatSafe_of_calm h (by simp)

theorem heatSafe_shrEnterFallback {s : State} (h : s.heatSafe) : (shrEnterFallback s).heatSafe :=
  heatSafe_shrRecord (heatSafe_shrSlotFallback (heatSafe_of_calm h (by simp)))

theorem heatSafe_shrAddCause {c : Cause} {s : State} (h : s.heatSafe) : (shrAddCause c s).heatSafe := by
  unfold shrAddCause
  simp only
  split
  · exact h
  · exact h
  all_goals
    split_ifs
    · exact heatSafe_shrEnterFallback h
    · exact h

end Sys2Proof.Machine
end

section
/-! SUPPORT. The law of heat (R44, R96) under the operations of LCK, TMS, DRV, BLI and PTB. -/

namespace Sys2Proof.Machine

/-! ## The entry to HEATING and CYC's examinations (R7, R13, R47) -/

theorem heatSafe_rampStart {s : State} (h : s.heatSafe) : (rampStart s).heatSafe := heatSafe_rampBegin h

theorem heatSafe_heatingStart {s : State} (h : s.heatSafe) : (heatingStart s).heatSafe := h

theorem heatSafe_cycEnterHeating {s : State} (h : s.heatSafe) : (cycEnterHeating s).heatSafe := by
  have hheating : (cycSetPhase .heating s).heatWired := heatWired_cycSetPhase (heatWired_of_heatSafe h)
  have hpermitted := heatSafe_permit (b := true) hheating (by simp)
  unfold cycEnterHeating
  exact heatSafe_rampStart (heatSafe_heatingStart hpermitted)

/-- A change of LCK's fields outside the lock state, with start-up over. -/
theorem heatSafe_modLck {f : Lck → Lck} {s : State} (h : s.heatSafe) (hup : (f s.lck).startUp = false)
    (hstate : (f s.lck).state = s.lck.state) : (s.modLck f).heatSafe := by
  obtain ⟨hmain, hpermitted, hout, -⟩ := h
  have htrip : (s.modLck f).hasTrip = s.hasTrip := rfl
  refine ⟨?_, hpermitted, hout, by simp [hup]⟩
  simpa [State.mainAllowed, hstate, htrip] using hmain

theorem heatSafe_lckLostGone {s : State} (h : s.heatSafe) : (lckLostGone s).heatSafe := by
  unfold lckLostGone
  split_ifs
  · exact heatSafe_prtGone h
  · exact h

theorem heatSafe_lckForcedGone {s : State} (h : s.heatSafe) : (lckForcedGone s).heatSafe := by
  unfold lckForcedGone
  split_ifs
  · exact heatSafe_prtGone h
  · exact h

theorem heatSafe_lckReevaluate {s : State} (h : s.heatSafe) : (lckReevaluate s).heatSafe := by
  unfold lckReevaluate
  simp only
  split_ifs
  · exact heatSafe_lckLostGone h
  · exact h

theorem heatSafe_lckUnlockDrive {s : State} (h : s.heatSafe) (hup : s.lck.startUp = false) :
    (lckUnlockDrive s).heatSafe := by
  unfold lckUnlockDrive
  split_ifs
  · exact heatSafe_modLck h hup rfl
  · exact heatSafe_modLck h hup rfl

theorem heatSafe_lckUnlock {s : State} (h : s.heatSafe) (hup : s.lck.startUp = false) : (lckUnlock s).heatSafe :=
  heatSafe_lckUnlockDrive (heatSafe_modLck (heatSafe_lckSetState h (.inl hup)) (by simp [hup]) rfl) (by simp [hup])

theorem startUp_of_takesUnlock {s : State} (h : s.takesUnlock = true) : s.lck.startUp = false := by
  simp only [State.takesUnlock, Bool.and_eq_true, Bool.not_eq_true'] at h
  exact h.1.1

theorem heatSafe_cycCoolExam {s : State} (h : s.heatSafe) : (cycCoolExam s).heatSafe := by
  unfold cycCoolExam
  split_ifs with hc
  · obtain ⟨hp, htakes⟩ := hc
    exact heatSafe_cycSetPhase (heatSafe_lckUnlock h (startUp_of_takesUnlock htakes)) (by simp [hp]) (by decide)
  · exact h

theorem heatSafe_unlockExam {s : State} (h : s.heatSafe) : (unlockExam s).heatSafe :=
  heatSafe_cycCoolExam (heatSafe_lckReevaluate h)

theorem heatSafe_cycTrippedExam {s : State} (h : s.heatSafe) : (cycTrippedExam s).heatSafe := by
  unfold cycTrippedExam
  split_ifs with hc
  · obtain ⟨-, htakes⟩ := Bool.and_eq_true_iff.mp hc
    exact heatSafe_lckUnlock h (startUp_of_takesUnlock htakes)
  · exact h

theorem heatSafe_takeEvent {f : State → State} {s : State} (h : (f s).heatSafe) : (takeEvent f s).heatSafe := by
  unfold takeEvent
  simp only
  split_ifs
  · exact heatSafe_cycTrippedExam h
  · exact h

/-! ## The lock travel (R48 to R52) -/

theorem heatSafe_cycLocked {s : State} (h : s.heatSafe) : (cycLocked s).heatSafe := by
  unfold cycLocked
  split_ifs with hp
  · exact heatSafe_cycSetPhase h (by simp [hp]) (by decide)
  · exact heatSafe_cycEnterHeating h
  · exact h

theorem heatSafe_cycLockFailure {engaged : Bool} {s : State} (h : s.heatSafe) : (cycLockFailure engaged s).heatSafe := by
  unfold cycLockFailure
  by_cases hp : s.cyc.phase = .locking
  · rw [if_pos hp]
    exact heatSafe_cycSetPhase h (by simp [hp]) (by cases engaged <;> simp)
  · rwa [if_neg hp]

theorem heatSafe_cycUnlocked {s : State} (h : s.heatSafe) : (cycUnlocked s).heatSafe := by
  unfold cycUnlocked
  split_ifs with hp
  · exact heatSafe_cycSetPhase h (by simp [hp]) (by decide)
  · exact h

theorem heatSafe_lckStop {s : State} (h : s.heatSafe) : (lckStop s).heatSafe := by
  obtain ⟨hmain, hpermitted, hout, hstart⟩ := h
  exact ⟨hmain, hpermitted, hout, fun hu => ⟨(hstart hu).1, rfl⟩⟩

theorem heatSafe_lckLockDrive {s : State} (h : s.heatSafe) (hup : s.lck.startUp = false) : (lckLockDrive s).heatSafe := by
  unfold lckLockDrive
  split_ifs
  · exact heatSafe_modLck h hup rfl
  · exact heatSafe_modLck h hup rfl

/-- A lock failure leaves LCK's state and stage, so it may come in start-up too (R48). -/
theorem heatSafe_lckFail {s : State} (h : s.heatSafe) : (lckFail s).heatSafe :=
  heatSafe_cycLockFailure (heatSafe_prtGone (heatSafe_prtRaise h))

theorem heatSafe_lckLock {s : State} (h : s.heatSafe) : (lckLock s).heatSafe := by
  unfold lckLock
  split_ifs with ht
  · have hup : s.lck.startUp = false := by
      simp only [State.takesLock, Bool.and_eq_true, Bool.not_eq_true'] at ht
      exact ht.1.1
    exact heatSafe_lckLockDrive (heatSafe_modLck (heatSafe_lckSetState h (.inl hup)) (by simp [hup]) rfl) (by simp [hup])
  · exact heatSafe_lckFail h

theorem heatSafe_lckEnterUnlocked {s : State} (h : s.heatSafe) (hup : s.lck.startUp = false) :
    (lckEnterUnlocked s).heatSafe :=
  heatSafe_lckTripped (heatSafe_lckSetState h (.inl hup))

theorem heatSafe_lckAttemptFailed {s : State} (h : s.heatSafe) (hup : s.lck.startUp = false) :
    (lckAttemptFailed s).heatSafe := by
  unfold lckAttemptFailed
  split_ifs
  · exact heatSafe_modLck h hup rfl
  · exact heatSafe_lckFail (heatSafe_lckSetJammed (heatSafe_lckStop h) hup)

/-- A travel given up ends in JAMMED or UNLOCKED, as a lock failure (R51, R52). -/
theorem heatSafe_lckGiveUp {s : State} (h : s.heatSafe) (hup : s.lck.startUp = false) : (lckGiveUp s).heatSafe := by
  unfold lckGiveUp
  refine heatSafe_lckFail ?_
  split_ifs
  · exact heatSafe_lckSetJammed h hup
  · exact heatSafe_lckEnterUnlocked h hup

theorem heatSafe_lckReturnEnd {s : State} (h : s.heatSafe) (hup : s.lck.startUp = false) : (lckReturnEnd s).heatSafe := by
  rw [lckReturnEnd_eq]
  exact heatSafe_lckGiveUp (heatSafe_lckStop h) hup

theorem heatSafe_lckDoorOpened {s : State} (h : s.heatSafe) (hup : s.lck.startUp = false) : (lckDoorOpened s).heatSafe := by
  have hstop : ((lckStop s).modLck fun l => { l with attempts := 0 }).heatSafe :=
    heatSafe_modLck (heatSafe_lckStop h) hup rfl
  cases ht : s.unlockTest with
  | true =>
    have htest : ((lckStop s).modLck fun l => { l with attempts := 0 }).unlockTest = true := ht
    simp only [lckDoorOpened, htest, if_true]
    exact heatSafe_modLck hstop hup rfl
  | false =>
    rw [lckDoorOpened_eq s ht]
    exact heatSafe_lckGiveUp hstop hup

/-! ## The unlock travel (R54, R55) -/

theorem heatSafe_lckJamEnds {s : State} (h : s.heatSafe) (hup : s.lck.startUp = false) : (lckJamEnds s).heatSafe := by
  unfold lckJamEnds
  split_ifs
  · exact heatSafe_lckEnterUnlocked h hup
  · exact h

theorem heatSafe_jamEntered {s : State} (h : s.heatSafe) (hup : s.lck.startUp = false) : (jamEntered s).heatSafe :=
  heatSafe_modLck (heatSafe_lckSetJammed (heatSafe_lckStop h) hup) (by simp [hup]) rfl

theorem heatSafe_lckUnlockJam {s : State} (h : s.heatSafe) (hup : s.lck.startUp = false) : (lckUnlockJam s).heatSafe := by
  have heq : lckUnlockJam s = lckJamEnds (prtGone .unlockFail (prtRaise .unlockFail (jamEntered s))) := rfl
  rw [heq]
  exact heatSafe_lckJamEnds (heatSafe_prtGone (heatSafe_prtRaise (heatSafe_jamEntered h hup))) (by simp [jamEntered, hup])

theorem heatSafe_lckUnlockFailed {s : State} (h : s.heatSafe) (hup : s.lck.startUp = false) :
    (lckUnlockFailed s).heatSafe := by
  unfold lckUnlockFailed
  split_ifs
  · exact heatSafe_modLck h hup rfl
  · exact heatSafe_lckUnlockJam h hup

theorem heatSafe_lckUnlockDone {s : State} (h : s.heatSafe) (hup : s.lck.startUp = false) : (lckUnlockDone s).heatSafe := by
  have hstop : ((lckStop s).modLck fun l => { l with attempts := 0 }).heatSafe :=
    heatSafe_modLck (heatSafe_lckStop h) hup rfl
  unfold lckUnlockDone
  exact heatSafe_cycUnlocked (heatSafe_lckEnterUnlocked hstop hup)

/-! ## Supervision (R56 to R58) -/

theorem heatSafe_lckLost {s : State} (h : s.heatSafe) (hup : s.lck.startUp = false) : (lckLost s).heatSafe := by
  have hraised : (prtRaise .lockLost (s.modLck fun l => { l with lockLostPresent := true })).heatSafe :=
    heatSafe_prtRaise (heatSafe_modLck h hup rfl)
  have hjam := heatSafe_lckJamEnds (heatSafe_lckSetJammed (v := false) hraised (by simp [hup])) (by simp [hup])
  unfold lckLost
  simp only
  split_ifs
  · exact heatSafe_lckLostGone hjam
  · exact hjam

theorem heatSafe_lckForced {s : State} (h : s.heatSafe) (hup : s.lck.startUp = false) : (lckForced s).heatSafe := by
  have hraised : (prtRaise .doorForced (s.modLck fun l => { l with doorForcedPresent := true })).heatSafe :=
    heatSafe_prtRaise (heatSafe_modLck h hup rfl)
  unfold lckForced
  simp only
  split_ifs
  · exact heatSafe_lckSetJammed hraised (by simp [hup])
  · exact hraised

theorem heatSafe_lckLatchEngaged {s : State} (h : s.heatSafe) (hup : s.lck.startUp = false) :
    (lckLatchEngaged s).heatSafe := by
  have hgone := heatSafe_lckLostGone h
  unfold lckLatchEngaged
  simp only
  split_ifs
  · exact heatSafe_modLck hgone (by simp [hup]) rfl
  · exact heatSafe_lckSetJammed hgone (by simp [hup])
  · exact heatSafe_lckTripped hgone

theorem heatSafe_lckLatchFree {s : State} (h : s.heatSafe) (hup : s.lck.startUp = false) : (lckLatchFree s).heatSafe := by
  have hgone := heatSafe_lckForcedGone h
  have hup' : (lckForcedGone s).lck.startUp = false := by simp [hup]
  unfold lckLatchFree
  simp only
  split
  · exact heatSafe_lckAttemptFailed (heatSafe_lckStop hgone) hup'
  · exact heatSafe_modLck hgone hup' rfl
  · exact heatSafe_modLck hgone hup' rfl
  all_goals
    split_ifs
    · exact heatSafe_lckLost hgone hup'
    · exact hgone

theorem heatSafe_lckDoorOpens {s : State} (h : s.heatSafe) (hup : s.lck.startUp = false) : (lckDoorOpens s).heatSafe := by
  unfold lckDoorOpens
  split_ifs
  · exact h
  · exact heatSafe_lckDoorOpened h hup
  · exact heatSafe_lckForced h hup
  · exact heatSafe_lckJamEnds h hup

/-! ## Start-up and the debounced values (R2, R43, R44) -/

theorem heatSafe_cycLatchReport {engaged : Bool} {s : State} (h : s.heatSafe) : (cycLatchReport engaged s).heatSafe := by
  unfold cycLatchReport
  split_ifs with hc
  · obtain ⟨-, hp⟩ := hc
    split
    · exact heatSafe_cycSetPhase h (by simp [hp]) (by decide)
    · exact heatSafe_cycSetPhase h (by simp [hp]) (by decide)
  · exact h

theorem heatSafe_lckStartUp {engaged : Bool} {s : State} (h : s.heatSafe) : (lckStartUp engaged s).heatSafe := by
  obtain ⟨-, hpermitted, hout, -⟩ := h
  refine heatSafe_cycLatchReport ((heatSafe_iff _).mpr ⟨heatWired_drvMain ?_ ?_, ?_⟩)
  · simpa using hout
  · simp
  · simpa using hpermitted

theorem heatSafe_lckActs {sw : SwitchId} {level : Bool} {s : State} (h : s.heatSafe) : (lckActs sw level s).heatSafe := by
  cases hup : s.lck.startUp
  case true =>
    cases sw
    case latch => simpa [lckActs, hup] using heatSafe_lckStartUp h
    case door => cases level <;> simpa [lckActs, hup] using h
  case false =>
    cases sw <;> cases level <;> simp only [lckActs, hup, if_false, if_true, Bool.false_eq_true]
    case door.false => exact heatSafe_lckDoorOpens h hup
    case door.true => exact heatSafe_lckForcedGone h
    case latch.false => exact heatSafe_lckLatchFree h hup
    case latch.true => exact heatSafe_lckLatchEngaged h hup

/-- A switch's own record is no part of the law. -/
theorem heatSafe_setSwitch {sw : SwitchId} {x : Lck → Switch} {s : State} (h : s.heatSafe) :
    (s.modLck fun l => l.setSwitch sw (x l)).heatSafe := by
  cases sw
  case door => exact h
  case latch => exact h

theorem heatSafe_lckDebounced {sw : SwitchId} {level : Bool} {s : State} (h : s.heatSafe) :
    (lckDebounced sw level s).heatSafe := by
  have hset : (s.modLck fun l => l.setSwitch sw { raw := level, value := some level, timer := none }).heatSafe :=
    heatSafe_setSwitch h
  unfold lckDebounced
  simp only
  split_ifs
  · exact hset
  · exact heatSafe_lckActs hset

theorem heatSafe_lckMeet {s : State} (h : s.heatSafe) : (lckMeet s).heatSafe := by
  unfold lckMeet
  simp only
  split_ifs
  · exact heatSafe_lckLostGone h
  · exact heatSafe_lckForcedGone h
  · exact h

/-! ## The rows of LCK (R43, R49 to R55) -/

theorem heatSafe_lckEdge {sw : SwitchId} {level : Bool} {s : State} (h : s.heatSafe) : (lckEdge sw level s).heatSafe := by
  unfold lckEdge
  split_ifs
  · exact h
  · exact heatSafe_setSwitch h

theorem heatSafe_lckDriveExpiry {s : State} (h : s.heatSafe) : (lckDriveExpiry s).heatSafe := by
  unfold lckDriveExpiry
  split_ifs with hg
  · exact heatSafe_lckAttemptFailed (heatSafe_lckStop (heatSafe_lckMeet h))
      (by simp [startUp_of_stage h (by simp [hg])])
  · exact h

theorem heatSafe_lckSeatEnd {s : State} (h : s.heatSafe) : (lckSeatEnd s).heatSafe := by
  unfold lckSeatEnd
  split_ifs with hg
  · have hup := startUp_of_stage h (by simp [hg])
    exact heatSafe_cycLocked (heatSafe_lckSetState (heatSafe_modLck (heatSafe_lckStop h) hup rfl) (.inr rfl))
  · have hup := startUp_of_stage h (by simp [hg])
    exact heatSafe_lckAttemptFailed (heatSafe_lckStop h) hup
  · exact h

theorem heatSafe_lckPause {stage : Stage} {s : State} (h : s.heatSafe) (hup : s.lck.startUp = false) :
    (lckPause stage s).heatSafe := heatSafe_modLck h hup rfl

theorem heatSafe_lckRetry {dir : Nat} {s : State} (h : s.heatSafe) : (lckRetry dir s).heatSafe :=
  heatSafe_alkRecord (s := s.modLck fun l => { l with attempts := 2 }) h

theorem heatSafe_lckUnlockExpiry {s : State} (h : s.heatSafe) : (lckUnlockExpiry s).heatSafe := by
  have hmeet := heatSafe_lckMeet h
  unfold lckUnlockExpiry
  split
  case h_1 hg =>
    exact heatSafe_lckUnlockFailed (heatSafe_lckStop hmeet) (by simp [startUp_of_stage h (by simp [hg])])
  case h_2 hg => exact heatSafe_lckReturnEnd hmeet (by simp [startUp_of_stage h (by simp [hg])])
  case h_3 hg => exact heatSafe_lckReturnEnd hmeet (by simp [startUp_of_stage h (by simp [hg])])
  all_goals exact h

theorem heatSafe_lckClearanceEnd {s : State} (h : s.heatSafe) : (lckClearanceEnd s).heatSafe := by
  unfold lckClearanceEnd
  split
  case h_1 hg => exact heatSafe_lckUnlockDone h (startUp_of_stage h (by simp [hg]))
  case h_2 hg => exact heatSafe_lckReturnEnd h (startUp_of_stage h (by simp [hg]))
  all_goals exact h

theorem heatSafe_lckUnlockPause {s : State} (h : s.heatSafe) : (lckUnlockPause s).heatSafe := by
  unfold lckUnlockPause
  split_ifs with hg
  · have hup := startUp_of_stage h (by simp [hg])
    exact heatSafe_lckUnlockDrive (heatSafe_lckRetry h) (by simp [lckRetry, hup])
  · exact heatSafe_lckUnlockJam h (startUp_of_stage h (by simp [hg]))
  · exact h

end Sys2Proof.Machine
end

section
/-! SUPPORT. The law of heat (R44, R96) under the operations of TMS, DRV, BLI, PTB and SHR. -/

namespace Sys2Proof.Machine

/-! ## TMS and the checks of a period (R60 to R70, R164) -/

theorem heatSafe_tmsCeiling {s : State} (h : s.heatSafe) : (tmsCeiling s).heatSafe := by
  unfold tmsCeiling
  cases s.alk.committed
  case false => exact h
  case true =>
    cases s.cavityValue
    case none => exact h
    case some v =>
      simp only [if_true]
      split_ifs
      · exact h
      · exact heatSafe_prtRaise h
      · exact heatSafe_prtGone h
      · exact h

theorem heatSafe_tmsOverride {s : State} (h : s.heatSafe) : (tmsOverride s).heatSafe := heatSafe_of_calm h (by simp)

theorem heatSafe_tmsHotGone {s : State} (h : s.heatSafe) : (tmsHotGone s).heatSafe := by
  unfold tmsHotGone
  split_ifs
  · exact heatSafe_prtGone h
  · exact h

theorem heatSafe_tmsNew {ch : Channel} {s : State} (h : s.heatSafe) : (tmsNew ch s).heatSafe := by
  cases ch
  case a => exact heatSafe_tmsCeiling (heatSafe_unlockExam (heatSafe_of_calm h (by simp)))
  case b => exact heatSafe_tmsCeiling (heatSafe_unlockExam h)
  case l => exact heatSafe_tmsHotGone (heatSafe_tmsOverride h)

theorem heatSafe_tmsStanding {ch : Channel} {s : State} (h : s.heatSafe) : (tmsStanding ch s).heatSafe := by
  cases ch
  case a | b => exact heatSafe_tmsCeiling (heatSafe_unlockExam (heatSafe_of_calm h (by simp)))
  case l => exact heatSafe_tmsOverride h

theorem heatSafe_tmsFail {ch : Channel} {s : State} (h : s.heatSafe) : (tmsFail ch s).heatSafe :=
  heatSafe_tmsStanding (heatSafe_prtRaise (heatSafe_of_calm h (by simp)))

theorem heatSafe_tmsRecover {ch : Channel} {s : State} (h : s.heatSafe) : (tmsRecover ch s).heatSafe :=
  heatSafe_tmsNew (heatSafe_tmsStanding (heatSafe_prtGone h))

theorem heatSafe_tmsSet {ch : Channel} {c : Chan} {s : State} (h : s.heatSafe) : (tmsSet ch c s).heatSafe :=
  heatSafe_of_calm h (by simp)

theorem heatSafe_tmsValid {ch : Channel} {raw : Int} {s : State} (h : s.heatSafe) : (tmsValid ch raw s).heatSafe := by
  unfold tmsValid
  refine heatSafe_tmsNew ?_
  split_ifs
  · exact heatSafe_tmsSet h
  · exact heatSafe_tmsStanding (heatSafe_tmsSet h)

theorem heatSafe_tmsInvalid {ch : Channel} {s : State} (h : s.heatSafe) : (tmsInvalid ch s).heatSafe := by
  unfold tmsInvalid
  simp only
  split_ifs
  · exact heatSafe_tmsSet h
  · exact heatSafe_tmsFail h

theorem heatSafe_tmsFailedValid {ch : Channel} {raw : Int} {s : State} (h : s.heatSafe) :
    (tmsFailedValid ch raw s).heatSafe := by
  unfold tmsFailedValid
  simp only
  split_ifs
  · exact heatSafe_tmsSet h
  · exact heatSafe_tmsRecover (heatSafe_tmsSet h)

theorem heatSafe_tmsReading {ch : Channel} {raw : Int} {s : State} (h : s.heatSafe) : (tmsReading ch raw s).heatSafe := by
  have hlatest : (tmsLatest ch raw s).heatSafe := heatSafe_of_calm h (by simp)
  unfold tmsReading
  simp only
  generalize tmsLatest ch raw s = m at hlatest ⊢
  split
  case h_1 => exact heatSafe_tmsValid hlatest
  case h_2 | h_3 => exact heatSafe_tmsInvalid hlatest
  case h_4 => exact heatSafe_tmsFailedValid hlatest
  case h_5 | h_6 => exact heatSafe_of_calm hlatest (by simp)

theorem heatSafe_tmsPair {s : State} (h : s.heatSafe) : (tmsPair s).heatSafe := by
  have hcounts : (tmsCounts s).heatSafe := heatSafe_of_calm h (by simp)
  unfold tmsPair tmsDisagree
  split_ifs
  · exact heatSafe_prtRaise hcounts
  · exact heatSafe_prtGone hcounts
  · exact hcounts
  · exact h

theorem heatSafe_tmsHot {s : State} (h : s.heatSafe) : (tmsHot s).heatSafe := by
  unfold tmsHot
  simp only
  split_ifs
  · exact heatSafe_prtRaise h
  · exact h
  · exact h

theorem heatSafe_tmsComplete {ch : Channel} {raw : Int} {s : State} (h : s.heatSafe) : (tmsComplete ch raw s).heatSafe := by
  unfold tmsComplete
  split_ifs
  · have hreading : (tmsReading ch raw (s.modTms fun t => { t with due := nextDue ch })).heatSafe := heatSafe_tmsReading h
    cases ch
    case a => exact hreading
    case b => exact heatSafe_tmsPair hreading
    case l => exact heatSafe_tmsHot hreading
  · exact h

theorem heatSafe_prtSecond {s : State} (h : s.heatSafe) : (prtSecond s).heatSafe := by
  unfold prtSecond
  simp only
  split_ifs
  · exact h
  · exact heatSafe_unlockExam h
  · exact h

/-! ## DRV (R91 to R103) -/

/-- Outputs come on with MAIN closed alone (R93, R96). -/
theorem heatSafe_drvOutputs {o : PerElement Bool} {s : State} (h : s.heatSafe) (ho : o.any = true → s.drv.main = true) :
    (drvOutputs o s).heatSafe := by
  obtain ⟨hmain, hpermitted, -, hstart⟩ := h
  exact ⟨hmain, hpermitted, ho, hstart⟩

/-- The outputs of a half-cycle, all off while MAIN is open. -/
theorem any_outputs_of_main {main : Bool} {o : PerElement Bool}
    (h : (if main then o else PerElement.all false).any = true) : main = true := by
  cases main
  · cases h
  · rfl

theorem heatSafe_drvBegin {s : State} (h : s.heatSafe) : (drvBegin s).heatSafe :=
  heatSafe_drvOutputs h any_outputs_of_main

theorem heatSafe_drvSwitch {s : State} (h : s.heatSafe) : (drvSwitch s).heatSafe :=
  heatSafe_drvOutputs h any_outputs_of_main

theorem heatSafe_drvAbandon {s : State} (h : s.heatSafe) : (drvAbandon s).heatSafe := by
  have hoff : (drvOutputs (PerElement.all false) s).heatSafe :=
    heatSafe_drvOutputs h (by simp [PerElement.any, PerElement.all])
  exact hoff

theorem heatSafe_drvLowGone {s : State} (h : s.heatSafe) : (drvLowGone s).heatSafe := by
  unfold drvLowGone
  split_ifs
  · exact heatSafe_prtGone h
  · exact h

theorem heatSafe_drvOverCheck {measured expected : Nat} {s : State} (h : s.heatSafe) :
    (drvOverCheck measured expected s).heatSafe := by
  unfold drvOverCheck
  simp only
  split_ifs
  · exact heatSafe_prtGone h
  · exact h
  · exact heatSafe_prtRaise h
  · exact h
  · exact heatSafe_prtGone h
  · exact h

theorem heatSafe_drvStuckCheck {measured : Nat} {s : State} (h : s.heatSafe) : (drvStuckCheck measured s).heatSafe := by
  have hgone : (if s.drv.stuckPresent ∧ measured ≤ 10 then
      prtGone .driveStuck (s.modDrv fun d => { d with stuckPresent := false }) else s).heatSafe := by
    split_ifs
    · exact heatSafe_prtGone h
    · exact h
  unfold drvStuckCheck
  dsimp only
  generalize (if s.drv.stuckPresent ∧ measured ≤ 10 then _ else s) = m at hgone ⊢
  split_ifs
  · exact heatSafe_prtRaise hgone
  · exact hgone
  · exact hgone
  · exact hgone

theorem heatSafe_drvLowCheck {measured expected : Nat} {s : State} (h : s.heatSafe) :
    (drvLowCheck measured expected s).heatSafe := by
  unfold drvLowCheck
  simp only
  split_ifs
  · exact heatSafe_prtRaise h
  · exact h
  · exact heatSafe_drvLowGone h
  · exact h

/-- The checks come before the next window begins, which finds MAIN as a trip has left it (R95, R98 to R101). -/
theorem heatSafe_drvComplete {s : State} (h : s.heatSafe) : (drvComplete s).heatSafe :=
  heatSafe_drvLowCheck (heatSafe_drvStuckCheck (heatSafe_drvOverCheck h))

theorem heatSafe_drvBoundary {sample : Nat} {s : State} (h : s.heatSafe) : (drvBoundary sample s).heatSafe := by
  unfold drvBoundary
  simp only
  split_ifs
  · exact heatSafe_drvBegin (heatSafe_drvComplete h)
  · exact heatSafe_drvBegin h
  · exact heatSafe_drvSwitch h

theorem heatSafe_crossed {s : State} (h : s.heatSafe) : (crossed s).heatSafe := by
  unfold crossed drvMainsBack
  split_ifs
  · exact heatSafe_prtGone h
  · exact h

theorem heatSafe_drvZeroCross {sample : Nat} {s : State} (h : s.heatSafe) : (drvZeroCross sample s).heatSafe := by
  rw [drvZeroCross_eq]
  split_ifs
  · exact heatSafe_drvBoundary (heatSafe_crossed h)
  · exact heatSafe_drvBegin (heatSafe_crossed h)

theorem heatSafe_drvIndicate {limited : Bool} {s : State} (h : s.heatSafe) : (drvIndicate limited s).heatSafe := h

theorem heatSafe_drvSuspend {s : State} (h : s.heatSafe) : (drvSuspend s).heatSafe := by
  have hoff := heatSafe_drvAbandon h
  unfold drvSuspend
  generalize drvAbandon s = m at hoff ⊢
  exact heatSafe_drvIndicate hoff

theorem heatSafe_drvMainsAbsent {s : State} (h : s.heatSafe) : (drvMainsAbsent s).heatSafe := by
  unfold drvMainsAbsent
  simp only
  split_ifs
  · exact heatSafe_cycAbort (c := .mainsAbsent) h
  · exact heatSafe_prtRaise h

/-! ## BLI and PTB (R105 to R135) -/

theorem heatSafe_bliReliability {s : State} (h : s.heatSafe) : (bliReliability s).heatSafe := by
  unfold bliReliability
  split_ifs
  · exact heatSafe_shrAddCause (heatSafe_of_calm h (by simp))
  · exact heatSafe_of_calm h (by simp)
  · exact h

theorem heatSafe_bliHeard {s : State} (h : s.heatSafe) : (bliHeard s).heatSafe := by
  unfold bliHeard
  simp only
  split_ifs
  · exact heatSafe_of_calm h (by simp)
  · exact h

theorem heatSafe_bliGood {s : State} (h : s.heatSafe) : (bliGood s).heatSafe :=
  heatSafe_bliHeard (heatSafe_bliReliability h)

theorem heatSafe_bliConflict {s : State} (h : s.heatSafe) : (bliConflict s).heatSafe := by
  unfold bliConflict
  split_ifs
  · exact h
  · exact heatSafe_shrAddCause (heatSafe_prtRaise h)

theorem heatSafe_bliHeldExpiry {own : Bool} {s : State} (h : s.heatSafe) : (bliHeldExpiry own s).heatSafe := by
  unfold bliHeldExpiry bliStuck bliHeld
  simp only
  split_ifs
  · exact h
  · exact heatSafe_shrAddCause (heatSafe_prtRaise (heatSafe_of_calm h (by simp)))
  · exact h
  · exact heatSafe_shrAddCause (heatSafe_of_calm h (by simp))

theorem heatSafe_bliSilent {s : State} (h : s.heatSafe) : (bliSilent s).heatSafe := by
  unfold bliSilent
  split_ifs
  · exact heatSafe_shrAddCause (heatSafe_of_calm h (by simp))
  · exact h

theorem heatSafe_ptbInsert {f : Frame} {s : State} (h : s.heatSafe) : (ptbInsert f s).heatSafe := by
  unfold ptbInsert
  split_ifs
  · exact heatSafe_of_calm h (by simp)
  · exact h
  · exact heatSafe_shrAddCause (heatSafe_of_calm h (by simp))

theorem heatSafe_ptbTake {f : Frame} {s : State} (h : s.heatSafe) : (ptbTake f s).heatSafe := by
  unfold ptbTake
  split_ifs
  · split
    · exact heatSafe_of_calm h (by simp)
    · exact h
    · exact heatSafe_of_calm h (by simp)
    · exact heatSafe_ptbInsert h
  · exact h

theorem heatSafe_bliClassed {c : RxClass} {s : State} (h : s.heatSafe) : (bliClassed c s).heatSafe := by
  unfold bliClassed bliGoodFrame
  split
  case h_4 f =>
    split_ifs
    · exact h
    · exact heatSafe_bliConflict (heatSafe_bliGood h)
    · exact heatSafe_ptbTake (heatSafe_bliGood h)
  all_goals exact heatSafe_bliReliability h

theorem heatSafe_bliReceive {nbits : Nat} {bits : BitVec 64} {s : State} (h : s.heatSafe) :
    (bliReceive nbits bits s).heatSafe := heatSafe_bliClassed h

/-! ## SHR's timers (R139, R146, R151, R152) -/

theorem heatSafe_shrListenExpiry {s : State} (h : s.heatSafe) : (shrListenExpiry s).heatSafe := by
  unfold shrListenExpiry shrEnterSharing shrResume
  split_ifs
  · exact heatSafe_shrTakeRequest (heatSafe_of_calm h (by simp))
  · exact heatSafe_of_calm h (by simp)
  · exact h

theorem heatSafe_shrClaimExpiry {s : State} (h : s.heatSafe) : (shrClaimExpiry s).heatSafe := by
  unfold shrClaimExpiry shrSettle
  split_ifs
  · exact heatSafe_of_calm h (by simp)
  · exact h

theorem heatSafe_shrSlotExpiry {s : State} (h : s.heatSafe) : (shrSlotExpiry s).heatSafe := by
  unfold shrSlotExpiry
  split_ifs
  · exact heatSafe_shrHold h
  · exact heatSafe_of_calm h (by simp)
  · exact h

theorem heatSafe_shrBackOffExpiry {s : State} (h : s.heatSafe) : (shrBackOffExpiry s).heatSafe := by
  unfold shrBackOffExpiry
  split_ifs
  · exact heatSafe_shrTakeRequest h
  · exact h

end Sys2Proof.Machine
end

section
/-! CERTIFICATE. The law of heat (R44, R96) under the rows of the table, a millisecond and a step. -/

namespace Sys2Proof.Machine

/-! ## The link commands (R4 to R8, R16, R17, R172 to R178) -/

theorem heatSafe_linkOpen {params : Nat} {s : State} (h : s.heatSafe) : (linkOpen params s).heatSafe :=
  heatSafe_of_calm h (by simp)

theorem heatSafe_linkAnswer {c : ResultCode} {bytes : List Byte} {s : State} (h : s.heatSafe) :
    (linkAnswer c bytes s).heatSafe := heatSafe_of_calm h (by simp)

/-- A command keeps the law where its effect does; a refused one has none (R172). -/
theorem heatSafe_linkCommand {params n : Nat} {f : State → State} {s : State} (h : s.heatSafe)
    (hf : ∀ t : State, t.heatSafe → (f t).heatSafe) : (linkCommand params n f s).heatSafe := by
  unfold linkCommand
  split_ifs
  · exact heatSafe_linkAnswer (heatSafe_linkOpen h)
  · exact hf _ (heatSafe_linkOpen h)

theorem heatSafe_configPut {item : Byte} {value : Half} {s : State} (h : s.heatSafe) :
    (configPut item value s).heatSafe := by
  unfold configPut
  split
  · exact heatSafe_linkAnswer h
  · split_ifs
    all_goals exact heatSafe_linkAnswer h

theorem heatSafe_shrCommit {s : State} (h : s.heatSafe) : (shrCommit s).heatSafe := by
  unfold shrCommit
  simp only
  split_ifs
  · exact heatSafe_shrRecord h
  · exact heatSafe_shrEnterFallback (heatSafe_shrRecord h)

theorem heatSafe_cycCommit {s : State} (h : s.heatSafe) : (cycCommit s).heatSafe := by
  unfold cycCommit
  split_ifs with hp
  · exact heatSafe_cycSetPhase (s := cycClearRecord .interrupted s) h (by simp [hp]) (by decide)
  · exact h

theorem heatSafe_commitAll {s : State} (h : s.heatSafe) : (commitAll s).heatSafe := by
  have hbli : (bliCommit (alkLines (s.modAlk fun a => { a with committed := true }))).heatSafe :=
    heatSafe_of_calm h (by simp)
  have hexam := heatSafe_unlockExam (heatSafe_tmsCeiling (heatSafe_cycCommit (heatSafe_shrCommit hbli)))
  unfold commitAll
  simp only
  exact heatSafe_alkRecord hexam

theorem heatSafe_configCommit {s : State} (h : s.heatSafe) : (configCommit s).heatSafe := by
  unfold configCommit
  split_ifs
  · exact heatSafe_linkAnswer h
  · split
    · exact heatSafe_linkAnswer h
    · exact heatSafe_linkAnswer (heatSafe_commitAll h)

/-- No command of the profile table touches another block than PRF (R25 to R28). -/
theorem heatSafe_profileSeek {index mode : Byte} {s : State} (h : s.heatSafe) : (profileSeek index mode s).heatSafe := by
  unfold profileSeek
  split
  · exact heatSafe_linkAnswer h
  · split_ifs
    · exact heatSafe_linkAnswer (heatSafe_of_calm h (by simp))
    · exact heatSafe_linkAnswer h

theorem heatSafe_profilePut {word : Half} {s : State} (h : s.heatSafe) : (profilePut word s).heatSafe := by
  unfold profilePut
  split_ifs
  · exact heatSafe_linkAnswer h
  · exact heatSafe_linkAnswer h
  · exact heatSafe_linkAnswer h
  all_goals exact heatSafe_linkAnswer (heatSafe_of_calm h (by simp))

theorem heatSafe_profileGet {s : State} (h : s.heatSafe) : (profileGet s).heatSafe := by
  unfold profileGet
  split_ifs
  · exact heatSafe_linkAnswer h
  · exact heatSafe_linkAnswer h
  · exact heatSafe_linkAnswer (heatSafe_of_calm h (by simp))

theorem phase_of_startRefusal_none {s : State} (h : s.startRefusal = none) : s.cyc.phase = .idle := by
  by_contra hp
  unfold State.startRefusal at h
  rw [if_pos hp] at h
  split_ifs at h

theorem heatSafe_startCycle {s : State} (h : s.heatSafe) : (startCycle s).heatSafe := by
  unfold startCycle
  split
  · exact heatSafe_linkAnswer h
  · next hnone =>
    have hcleared : (cycClearRecord .none s).heatSafe := h
    have hlocking := heatSafe_cycSetPhase (p := .locking) hcleared (by simp [phase_of_startRefusal_none hnone]) (by decide)
    exact heatSafe_linkAnswer (heatSafe_lckLock hlocking)

theorem heatSafe_abortCycle {s : State} (h : s.heatSafe) : (abortCycle s).heatSafe := by
  have hnote : (cycOutcome .aborted s).heatWired := heatWired_of_heatSafe h
  cases hp : s.cyc.phase <;> simp only [abortCycle, hp]
  case locking => exact heatSafe_linkAnswer h
  case heating => exact heatSafe_linkAnswer (heatSafe_cycLeaveHeating hnote (by decide))
  case idle | cooling | tripped | unlocking | held => exact heatSafe_linkAnswer h

theorem heatSafe_prtRemove {classes : List FaultClass} {s : State} (h : s.heatSafe) : (prtRemove classes s).heatSafe := by
  obtain ⟨a, heq, -⟩ := prtRemove_eq classes s
  rw [heq]
  exact heatSafe_drvMain_of_faults h (by simp)

theorem heatSafe_cycMoveOn {s : State} (h : s.heatSafe) (hp : s.cyc.phase = .tripped) : (cycMoveOn s).heatSafe := by
  unfold cycMoveOn
  split_ifs with _ htakes
  · exact heatSafe_cycSetPhase (heatSafe_lckUnlock h (startUp_of_takesUnlock htakes)) (by simp [hp]) (by decide)
  · exact heatSafe_cycSetPhase h (by simp [hp]) (by decide)
  · exact heatSafe_cycSetPhase h (by simp [hp]) (by decide)

theorem heatSafe_clearFaults {s : State} (h : s.heatSafe) : (clearFaults s).heatSafe := by
  unfold clearFaults clearTripped clearOther
  split_ifs with hp
  · exact heatSafe_linkAnswer h
  · exact heatSafe_linkAnswer h
  · exact heatSafe_linkAnswer (heatSafe_cycMoveOn (heatSafe_prtRemove h) (by simp [hp]))
  · exact heatSafe_linkAnswer (heatSafe_prtRemove h)

theorem heatSafe_eventRead {s : State} (h : s.heatSafe) : (eventRead s).heatSafe := by
  unfold eventRead
  split
  · exact heatSafe_linkAnswer h
  · exact heatSafe_linkAnswer h

theorem heatSafe_peerForget {station : Byte} {s : State} (h : s.heatSafe) : (peerForget station s).heatSafe := by
  unfold peerForget
  simp only
  split_ifs
  · exact heatSafe_linkAnswer h
  · split
    · exact heatSafe_linkAnswer h
    · split
      · exact heatSafe_linkAnswer h
      · exact heatSafe_linkAnswer (heatSafe_of_calm h (by simp))

theorem heatSafe_stationReset {s : State} (h : s.heatSafe) : (stationReset s).heatSafe := by
  unfold stationReset
  split_ifs
  · exact heatSafe_linkAnswer (heatSafe_of_calm h (by simp))
  · exact heatSafe_linkAnswer h

/-- A reset opens MAIN, and start-up stands in LOCKED with no travel (R44, R90, R180). -/
theorem heatSafe_resetAll (cause : ResetCause) (s : State) : (resetAll cause s).heatSafe :=
  ⟨rfl, rfl, fun hon => (Bool.false_ne_true hon).elim, fun _ => ⟨rfl, rfl⟩⟩

/-! ## The seconds, the ramp engine and the regulator (R14, R30 to R42, R75 to R88) -/

theorem heatSafe_cycSecond {s : State} (h : s.heatSafe) : (cycSecond s).heatSafe := by
  unfold cycSecond cycCoolSlow
  split_ifs
  · exact heatSafe_alkRecord h
  · exact h

theorem heatSafe_rampJudge {s : State} (h : s.heatSafe) : (rampJudge s).heatSafe := by
  unfold rampJudge rampNext rampLate
  split_ifs
  · exact heatSafe_rampBegin (heatSafe_prtGone h)
  · exact heatSafe_prtRaise h
  · exact h

theorem heatSafe_holdJudge {s : State} (h : s.heatSafe) : (holdJudge s).heatSafe := by
  unfold holdJudge holdRestart
  split_ifs
  · exact heatSafe_alkRecord h
  · exact heatSafe_rampBegin h
  · exact h

theorem heatSafe_rampTime {s : State} (h : s.heatSafe) : (rampTime s).heatSafe := by
  unfold rampTime
  split_ifs
  · exact h
  · exact h

theorem heatSafe_rampAdvance {s : State} (h : s.heatSafe) : (rampAdvance s).heatSafe := by
  unfold rampAdvance
  split_ifs
  · exact heatSafe_rampTime h
  · exact heatSafe_rampTime h

theorem heatSafe_slotWaitStep {s : State} (h : s.heatSafe) : (slotWaitStep s).heatSafe := by
  unfold slotWaitStep
  simp only
  split_ifs
  · exact heatSafe_prtRaise h
  · exact h

theorem heatSafe_rampStep {s : State} (h : s.heatSafe) : (rampStep s).heatSafe := by
  have hrearm : (rampRearm s).heatSafe := h
  cases hr : s.ramp.state <;> simp only [rampStep, hr]
  case idle | finished => exact h
  case ramping => exact heatSafe_rampJudge (heatSafe_rampAdvance hrearm)
  case holding => exact heatSafe_holdJudge (heatSafe_rampTime hrearm)
  case waitingSlot => exact heatSafe_slotWaitStep hrearm

theorem heatSafe_regEvaluate {s : State} (h : s.heatSafe) : (regEvaluate s).heatSafe :=
  heatSafe_of_calm h (by simp [regEvaluate, regSet])

theorem heatSafe_regCoolExpiry {s : State} (h : s.heatSafe) : (regCoolExpiry s).heatSafe := by
  have hmeasured : (regMeasure s).heatSafe := by
    unfold regMeasure
    split
    · exact h
    · exact h
    · split_ifs
      · exact h
      · exact h
  exact hmeasured

/-! ## Every row of the table -/

/-- A row that is taken under a condition, or changes nothing (logs 9 and 12). -/
theorem heatSafe_ite {c : Prop} [Decidable c] {t s : State} (h : s.heatSafe) (ht : c → t.heatSafe) :
    (if c then t else s).heatSafe := by
  split_ifs with hc
  · exact ht hc
  · exact h

theorem heatSafe_onlyWhen {p : State → State → Bool} {f : State → State} {s : State} (h : s.heatSafe)
    (hf : (f s).heatSafe) : (onlyWhen p f s).heatSafe := heatSafe_ite h fun _ => hf

theorem heatSafe_bliComplete {s : State} (h : s.heatSafe) : (bliComplete s).heatSafe := by
  unfold bliComplete
  split
  · exact heatSafe_of_calm h (by simp)
  · exact h

theorem heatSafe_bliAttempt {s : State} (h : s.heatSafe) : (bliAttempt s).heatSafe := by
  unfold bliAttempt
  split
  · exact heatSafe_ite h fun _ => heatSafe_of_calm h (by simp)
  · exact h

theorem heatSafe_bliDepartExpiry {s : State} (h : s.heatSafe) : (bliDepartExpiry s).heatSafe := by
  unfold bliDepartExpiry bliCutOff
  split_ifs
  · exact heatSafe_of_calm h (by simp)
  · exact heatSafe_of_calm h (by simp)
  · exact h

theorem heatSafe_bliIdle {s : State} (h : s.heatSafe) : (bliIdle s).heatSafe := heatSafe_of_calm h (by simp)

theorem heatSafe_bliPeriodExpiry {s : State} (h : s.heatSafe) : (bliPeriodExpiry s).heatSafe :=
  heatSafe_ite h fun _ => heatSafe_of_calm h (by simp)

theorem heatSafe_ptbLapse {station : Nat} {s : State} (h : s.heatSafe) : (ptbLapse station s).heatSafe := by
  unfold ptbLapse
  split
  · exact h
  · split
    · exact h
    · exact heatSafe_of_calm h (by simp)

theorem heatSafe_stationResetDone {s : State} (h : s.heatSafe) : (stationResetDone s).heatSafe := by
  unfold stationResetDone
  split
  · exact heatSafe_resetAll _ s
  · exact h

/-- Each row of the table keeps the law of heat. -/
theorem exec_heatSafe (i : Instr) {s : State} (h : s.heatSafe) : ∃ t, exec i s = .next t ∧ t.heatSafe := by
  cases i
  case powerOnReset | resetn => exact ⟨_, rfl, heatSafe_resetAll _ s⟩
  case readStatus | readTemps | readShare | readPeer | readCycle | readFaults | configGet | badCommand =>
    exact ⟨_, rfl, heatSafe_linkAnswer (heatSafe_linkOpen h)⟩
  case configPut => exact ⟨_, rfl, heatSafe_linkCommand h fun _ => heatSafe_configPut⟩
  case configCommit => exact ⟨_, rfl, heatSafe_takeEvent (heatSafe_linkCommand h fun _ => heatSafe_configCommit)⟩
  case profileSeek => exact ⟨_, rfl, heatSafe_linkCommand h fun _ => heatSafe_profileSeek⟩
  case profilePut => exact ⟨_, rfl, heatSafe_linkCommand h fun _ => heatSafe_profilePut⟩
  case profileGet => exact ⟨_, rfl, heatSafe_profileGet (heatSafe_linkOpen h)⟩
  case start => exact ⟨_, rfl, heatSafe_takeEvent (heatSafe_linkCommand h fun _ => heatSafe_startCycle)⟩
  case abort => exact ⟨_, rfl, heatSafe_takeEvent (heatSafe_linkCommand h fun _ => heatSafe_abortCycle)⟩
  case clear => exact ⟨_, rfl, heatSafe_takeEvent (heatSafe_linkCommand h fun _ => heatSafe_clearFaults)⟩
  case eventRead => exact ⟨_, rfl, heatSafe_eventRead (heatSafe_linkOpen h)⟩
  case peerForget => exact ⟨_, rfl, heatSafe_takeEvent (heatSafe_linkCommand h fun _ => heatSafe_peerForget)⟩
  case stationReset => exact ⟨_, rfl, heatSafe_linkCommand h fun _ => heatSafe_stationReset⟩
  case stationResetDone => exact ⟨_, rfl, heatSafe_stationResetDone h⟩
  case csnRise => exact ⟨_, rfl, heatSafe_of_calm h (by simp)⟩
  case secondsTick => exact ⟨_, rfl, h⟩
  case cycleSecond => exact ⟨_, rfl, heatSafe_cycSecond h⟩
  case coolSlow => exact ⟨_, rfl, heatSafe_onlyWhen h (heatSafe_cycSecond h)⟩
  case rampStep => exact ⟨_, rfl, heatSafe_takeEvent (heatSafe_rampStep h)⟩
  case holdComplete | segmentRestart | heatTimeout | slotTimeout =>
    exact ⟨_, rfl, heatSafe_ite h fun _ => heatSafe_takeEvent (heatSafe_rampStep h)⟩
  case heatingEvaluation => exact ⟨_, rfl, heatSafe_ite h fun _ => heatSafe_takeEvent (heatSafe_regEvaluate h)⟩
  case coolingRuleExpiry => exact ⟨_, rfl, heatSafe_ite h fun _ => heatSafe_regCoolExpiry h⟩
  case switchEdge => exact ⟨_, rfl, heatSafe_lckEdge h⟩
  case switchDebounced => exact ⟨_, rfl, heatSafe_takeEvent (heatSafe_lckDebounced h)⟩
  case lockDriveExpiry => exact ⟨_, rfl, heatSafe_takeEvent (heatSafe_lckDriveExpiry h)⟩
  case seatEnd => exact ⟨_, rfl, heatSafe_takeEvent (heatSafe_lckSeatEnd h)⟩
  case lockBackDriveEnd | unlockBackDriveEnd =>
    exact ⟨_, rfl, heatSafe_ite h fun hg => heatSafe_lckPause h (startUp_of_stage h (by simp [hg]))⟩
  case lockPauseEnd =>
    refine ⟨_, rfl, heatSafe_ite h fun hg => heatSafe_lckLockDrive (heatSafe_lckRetry h) ?_⟩
    simp [lckRetry, startUp_of_stage h (by simp [hg])]
  case unlockDriveExpiry => exact ⟨_, rfl, heatSafe_takeEvent (heatSafe_lckUnlockExpiry h)⟩
  case clearanceEnd => exact ⟨_, rfl, heatSafe_takeEvent (heatSafe_lckClearanceEnd h)⟩
  case unlockPauseEnd => exact ⟨_, rfl, heatSafe_takeEvent (heatSafe_lckUnlockPause h)⟩
  case conversionCompletion => exact ⟨_, rfl, heatSafe_takeEvent (heatSafe_tmsComplete h)⟩
  case channelFailure | channelRecovery | sensorDisagree | disagreeConditionGone | latchHot =>
    exact ⟨_, rfl, heatSafe_onlyWhen h (heatSafe_takeEvent (heatSafe_tmsComplete h))⟩
  case blindCoolTick => exact ⟨_, rfl, heatSafe_takeEvent (heatSafe_prtSecond h)⟩
  case zeroCross => exact ⟨_, rfl, heatSafe_takeEvent (heatSafe_drvZeroCross h)⟩
  case windowComplete => exact ⟨_, rfl, heatSafe_ite h fun _ => heatSafe_takeEvent (heatSafe_drvZeroCross h)⟩
  case elementOvercurrent | driveStuck | elementLow =>
    exact ⟨_, rfl, heatSafe_onlyWhen h (heatSafe_takeEvent (heatSafe_drvZeroCross h))⟩
  case mainsSuspend => exact ⟨_, rfl, heatSafe_ite h fun _ => heatSafe_drvSuspend h⟩
  case mainsAbsent => exact ⟨_, rfl, heatSafe_ite h fun _ => heatSafe_takeEvent (heatSafe_drvMainsAbsent h)⟩
  case attemptBegin => exact ⟨_, rfl, heatSafe_bliAttempt h⟩
  case attemptLost => exact ⟨_, rfl, heatSafe_ite h fun _ => heatSafe_of_calm h (by simp)⟩
  case attemptComplete => exact ⟨_, rfl, heatSafe_takeEvent (heatSafe_bliComplete h)⟩
  case periodExpiry => exact ⟨_, rfl, heatSafe_bliPeriodExpiry h⟩
  case departureTimeout => exact ⟨_, rfl, heatSafe_bliDepartExpiry h⟩
  case frameReceived => exact ⟨_, rfl, heatSafe_takeEvent (heatSafe_bliReceive h)⟩
  case unreliable => exact ⟨_, rfl, heatSafe_onlyWhen h (heatSafe_takeEvent (heatSafe_bliReceive h))⟩
  case lineHeld => exact ⟨_, rfl, heatSafe_takeEvent (heatSafe_bliHeldExpiry h)⟩
  case lineIdle => exact ⟨_, rfl, heatSafe_takeEvent (heatSafe_bliIdle h)⟩
  case silent => exact ⟨_, rfl, heatSafe_takeEvent (heatSafe_bliSilent h)⟩
  case peerLapsed => exact ⟨_, rfl, heatSafe_takeEvent (heatSafe_ptbLapse h)⟩
  case listenExpiry => exact ⟨_, rfl, heatSafe_takeEvent (heatSafe_shrListenExpiry h)⟩
  case claimSettle => exact ⟨_, rfl, heatSafe_takeEvent (heatSafe_shrClaimExpiry h)⟩
  case slotSettle => exact ⟨_, rfl, heatSafe_takeEvent (heatSafe_shrSlotExpiry h)⟩
  case slotBackoffExpiry => exact ⟨_, rfl, heatSafe_takeEvent (heatSafe_shrBackOffExpiry h)⟩
  case glitch => exact ⟨_, rfl, h⟩

/-! ## A millisecond and a step -/

theorem heatSafe_takeDue {i : Instr} {s : State} (h : s.heatSafe) : (takeDue s i).heatSafe := by
  obtain ⟨t, hexec, ht⟩ := exec_heatSafe i h
  simpa only [takeDue, hexec] using heatSafe_ite h fun _ => ht

/-- The rows of a millisecond, in whatever order the draws give them (log 3). -/
theorem heatSafe_foldl_takeDue (rows : List Instr) {s : State} (h : s.heatSafe) : (rows.foldl takeDue s).heatSafe := by
  induction rows generalizing s with
  | nil => exact h
  | cons i rows ih =>
    rw [List.foldl_cons]
    exact ih (heatSafe_takeDue h)

/-- Only timers, the line and the draws move with the millisecond itself. -/
theorem heatSafe_advanceMs {s : State} (h : s.heatSafe) : (advanceMs s).heatSafe := h

theorem heatSafe_draws {n : Nat} {s : State} (h : s.heatSafe) : ({ s with draws := n } : State).heatSafe := h

theorem heatSafe_tick {s : State} (h : s.heatSafe) : (tick s).heatSafe := by
  have hmoved := heatSafe_advanceMs h
  unfold tick
  simp only
  generalize advanceMs s = m at hmoved ⊢
  exact heatSafe_foldl_takeDue _ (heatSafe_draws hmoved)

theorem step_heatSafe {s t : State} (h : s.heatSafe) (hstep : step s = .next t) : t.heatSafe := by
  unfold step at hstep
  split at hstep
  · have heq : tick s = t := Host.Outcome.next.inj hstep
    exact heq ▸ heatSafe_tick h
  · next i rest _ =>
    obtain ⟨t', hexec, ht⟩ := exec_heatSafe i (s := s.setPending rest) h
    have heq : t' = t := Host.Outcome.next.inj (hexec.symm.trans hstep)
    exact heq ▸ ht

/-- What the law says of a state with heat on: MAIN's conditions, the permission read as the phase (R96). -/
theorem heatSafe_heating {s : State} (h : s.heatSafe) (hon : s.drv.main = true ∨ s.drv.outputs.any = true) :
    s.cyc.phase = .heating ∧ s.lck.state = .locked ∧ s.hasTrip = false := by
  obtain ⟨hmain, hpermitted, hout, -⟩ := h
  have hallowed : s.mainAllowed = true := hmain ▸ hon.elim id hout
  simpa [State.mainAllowed, hpermitted, and_assoc] using hallowed

/-- Settles O5: every row keeps the law, so a step does; heat is on only with MAIN's conditions met. -/
theorem heatLawKept : Obligations.HeatLawKept := by
  intro s t h hstep
  have ht := step_heatSafe h hstep
  exact ⟨ht, heatSafe_heating ht⟩

end Sys2Proof.Machine
end

section
/-! CERTIFICATE. The raw edges of the switches, and the pauses of the lock and unlock travels. -/

namespace Sys2Proof.Machine

/-! ## A raw change (R43) -/

@[simp] theorem setSwitch_switch_same (l : Lck) (sw : SwitchId) (x : Switch) : (l.setSwitch sw x).switch sw = x := by
  cases sw <;> rfl

theorem setSwitch_switch_other {sw other : SwitchId} (h : other ≠ sw) (l : Lck) (x : Switch) :
    (l.setSwitch sw x).switch other = l.switch other := by
  cases sw <;> cases other
  case door.door | latch.latch => exact absurd rfl h
  case door.latch | latch.door => rfl

@[simp] theorem setSwitch_travel (l : Lck) (sw : SwitchId) (x : Switch) :
    (l.setSwitch sw x).state = l.state ∧ (l.setSwitch sw x).motor = l.motor ∧ (l.setSwitch sw x).stage = l.stage := by
  cases sw <;> exact ⟨rfl, rfl, rfl⟩

/-- Settles O41: an edge writes the record of its own switch alone, and an equal level writes nothing. -/
theorem switchEdgeRestarts : Obligations.SwitchEdgeRestarts := by
  intro s sw level
  refine ⟨lckEdge sw level s, rfl, ?_⟩
  unfold lckEdge
  split_ifs
  · exact ⟨rfl, fun _ _ => rfl, rfl, rfl, rfl, rfl⟩
  · obtain ⟨hstate, hmotor, hstage⟩ :=
      setSwitch_travel s.lck sw { s.lck.switch sw with raw := level, timer := some 50 }
    exact ⟨rfl, fun _ hother => setSwitch_switch_other hother _ _, hstate, hmotor, hstage, setSwitch_switch_same _ _ _⟩

/-! ## The pauses (R50, R55) -/

/-- The second attempt is counted, and recorded where the list takes it (R45, R50, R55). -/
@[simp] theorem lckRetry_blocks (dir : Nat) (s : State) :
    (lckRetry dir s).lck = { s.lck with attempts := 2 } ∧ (lckRetry dir s).cyc = s.cyc ∧
      (lckRetry dir s).latchEngaged = s.latchEngaged ∧ (lckRetry dir s).cfg .lt = s.cfg .lt := by
  have hcfg : (lckRetry dir s).cfg .lt = s.cfg .lt := State.cfg_congr (by simp [lckRetry]) (by simp [lckRetry]) _
  exact ⟨by simp [lckRetry], by simp [lckRetry], by simp [lckRetry, State.latchEngaged], hcfg⟩

/-- The drive after the pause adds nothing to the one record (R50). -/
theorem lckLockDrive_retry_events {s : State} (hroute : s.routing .lock ≠ 0) (hroom : s.alk.events.length < 32) :
    (lckLockDrive (lckRetry 0 s)).alk.events =
      s.alk.events ++ [{ kind := .lockRetry, detail := 0, time := s.alk.seconds }] := by
  have halk : (lckLockDrive (lckRetry 0 s)).alk = (lckRetry 0 s).alk := by simp
  rw [halk]
  exact alkRecord_events_of_room (s := s.modLck fun l => { l with attempts := 2 }) hroute hroom

/-- Settles O44: each row acts in its own stage, and LOCK_PAUSE_END is the counted and recorded second drive. -/
theorem backDrivesPause : Obligations.BackDrivesPause := by
  intro s
  refine ⟨?lockBack, ?unlockBack, ?pause⟩
  case lockBack => exact fun hg => ⟨lckPause .lockPause s, next_congr (if_pos hg), rfl, rfl⟩
  case unlockBack => exact fun hg => ⟨lckPause .unlockPause s, next_congr (if_pos hg), rfl, rfl⟩
  case pause =>
    intro hg hroute hroom
    obtain ⟨-, -, hmotor, hstage⟩ := lckLockDrive_effects (lckRetry 0 s)
    have hevents := lckLockDrive_retry_events hroute hroom
    exact ⟨lckLockDrive (lckRetry 0 s), next_congr (if_pos hg), by simp, hmotor, by simp, by simpa using hstage, hevents,
      by simp⟩

end Sys2Proof.Machine
end

section
/-! SUPPORT. What a conversion leaves in the channels' records (R60 to R64). -/

namespace Sys2Proof.Machine

/-! ## A channel's record after a reading (R60 to R64) -/

/-- The latest raw reading and its class stand (R60). -/
def Chan.latest (c : Chan) (raw : Int) : Chan := { c with raw := raw, cls := classOf raw }

/-- A valid reading is filtered over the last four (R62). -/
def Chan.filter (c : Chan) (raw : Int) : Chan :=
  { c with history := pushReading c.history raw, invalidRun := 0, filtered := meanOf (pushReading c.history raw),
           ready := true }

/-- The channel fails with its value held (R63). -/
def Chan.fail (c : Chan) : Chan := { c with failed := true, history := [], validRun := 0, invalidRun := 4 }

/-- An invalid reading before the fourth is bridged (R63). -/
def Chan.bridge (c : Chan) : Chan := if c.invalidRun < 3 then { c with invalidRun := c.invalidRun + 1 } else c.fail

theorem Chan.bridge_kept (c : Chan) : c.bridge.raw = c.raw ∧ c.bridge.cls = c.cls ∧ c.bridge.filtered = c.filtered := by
  unfold Chan.bridge
  split_ifs <;> exact ⟨rfl, rfl, rfl⟩

/-- A failed channel's fresh valid reading (R64). -/
def Chan.fresh (c : Chan) (raw : Int) : Chan :=
  { c with history := pushReading c.history raw, validRun := c.validRun + 1, ready := true }

/-- The channel recovers with the mean of its fresh readings (R64). -/
def Chan.recover (c : Chan) : Chan := { c with failed := false, invalidRun := 0, validRun := 0, filtered := meanOf c.history }

/-- A channel's record after a reading, by its failed flag and the reading's class (R62 to R64). -/
def Chan.afterReading (c : Chan) (raw : Int) : Chan :=
  match c.failed, classOf raw with
  | false, .valid => (c.latest raw).filter raw
  | false, .overRange | false, .underRange => (c.latest raw).bridge
  | true, .valid => if c.validRun < 3 then (c.latest raw).fresh raw else ((c.latest raw).fresh raw).recover
  | true, .overRange | true, .underRange => { c.latest raw with history := [], validRun := 0 }

theorem classOf_valid {raw : Int} (h : -400 ≤ raw ∧ raw ≤ 7000) : classOf raw = .valid := by
  rw [classOf, if_neg (by omega), if_neg (by omega)]

theorem classOf_invalid {raw : Int} (h : ¬(-400 ≤ raw ∧ raw ≤ 7000)) :
    classOf raw = if 7000 < raw then .overRange else .underRange := by
  unfold classOf
  split_ifs
  · rfl
  · rfl
  · omega

theorem Chan.afterReading_valid {c : Chan} {raw : Int} (hf : c.failed = false) (h : -400 ≤ raw ∧ raw ≤ 7000) :
    c.afterReading raw = (c.latest raw).filter raw := by
  simp only [Chan.afterReading, hf, classOf_valid h]

theorem Chan.afterReading_invalid {c : Chan} {raw : Int} (hf : c.failed = false) (h : ¬(-400 ≤ raw ∧ raw ≤ 7000)) :
    c.afterReading raw = (c.latest raw).bridge := by
  simp only [Chan.afterReading, hf, classOf_invalid h]
  by_cases hover : 7000 < raw <;> simp only [if_pos, if_neg, hover, not_false_eq_true]

theorem Chan.afterReading_recovers {c : Chan} {raw : Int} (hf : c.failed = true) (hrun : ¬ c.validRun < 3)
    (h : -400 ≤ raw ∧ raw ≤ 7000) : c.afterReading raw = ((c.latest raw).fresh raw).recover := by
  simp only [Chan.afterReading, hf, classOf_valid h, if_neg hrun]

/-! ## The three records as one function of the channel -/

/-- The three records, seen as a function of the channel, change at one place. -/
@[simp] theorem Tms.setChan_chan (t : Tms) (ch : Channel) (c : Chan) :
    (t.setChan ch c).chan = Function.update t.chan ch c := by
  funext other
  cases ch <;> cases other <;> rfl

theorem Tms.chan_congr {t u : Tms} (ha : t.a = u.a) (hb : t.b = u.b) (hl : t.l = u.l) : t.chan = u.chan := by
  funext ch
  cases ch
  case a => exact ha
  case b => exact hb
  case l => exact hl

@[simp] theorem tmsSet_chan (ch : Channel) (c : Chan) (s : State) :
    (tmsSet ch c s).tms.chan = Function.update s.tms.chan ch c :=
  Tms.setChan_chan _ _ _

@[simp] theorem tmsNew_chan (ch : Channel) (s : State) : (tmsNew ch s).tms.chan = s.tms.chan :=
  Tms.chan_congr (by simp) (by simp) (by simp)

@[simp] theorem tmsStanding_chan (ch : Channel) (s : State) : (tmsStanding ch s).tms.chan = s.tms.chan :=
  Tms.chan_congr (by simp) (by simp) (by simp)

@[simp] theorem tmsHotClear_chan (ch : Channel) (s : State) : (tmsHotClear ch s).tms.chan = s.tms.chan :=
  Tms.chan_congr (by simp) (by simp) (by simp)

@[simp] theorem tmsCheck_chan (ch : Channel) (s : State) : (tmsCheck ch s).tms.chan = s.tms.chan :=
  Tms.chan_congr (by simp) (by simp) (by simp)

@[simp] theorem tmsValid_chan (ch : Channel) (raw : Int) (s : State) :
    (tmsValid ch raw s).tms.chan = Function.update s.tms.chan ch ((s.tms.chan ch).filter raw) := by
  rw [tmsValid_eq]
  split_ifs <;> simp [readingTaken, Chan.filter]

@[simp] theorem tmsFail_chan (ch : Channel) (s : State) :
    (tmsFail ch s).tms.chan = Function.update s.tms.chan ch (s.tms.chan ch).fail := by
  simp [tmsFail, Chan.fail]

@[simp] theorem tmsInvalid_chan (ch : Channel) (s : State) :
    (tmsInvalid ch s).tms.chan = Function.update s.tms.chan ch (s.tms.chan ch).bridge := by
  unfold tmsInvalid Chan.bridge
  simp only
  split_ifs <;> simp

@[simp] theorem tmsRecover_chan (ch : Channel) (s : State) :
    (tmsRecover ch s).tms.chan = Function.update s.tms.chan ch (s.tms.chan ch).recover := by
  simp [tmsRecover, Chan.recover]

@[simp] theorem tmsFailedValid_chan (ch : Channel) (raw : Int) (s : State) :
    (tmsFailedValid ch raw s).tms.chan = Function.update s.tms.chan ch
      (if (s.tms.chan ch).validRun < 3 then (s.tms.chan ch).fresh raw else ((s.tms.chan ch).fresh raw).recover) := by
  unfold tmsFailedValid
  simp only
  split_ifs <;> simp [Chan.fresh]

@[simp] theorem tmsFailedInvalid_chan (ch : Channel) (s : State) :
    (tmsFailedInvalid ch s).tms.chan = Function.update s.tms.chan ch { s.tms.chan ch with history := [], validRun := 0 } := by
  simp [tmsFailedInvalid]

@[simp] theorem tmsLatest_chan (ch : Channel) (raw : Int) (s : State) :
    (tmsLatest ch raw s).tms.chan = Function.update s.tms.chan ch ((s.tms.chan ch).latest raw) := by
  simp [tmsLatest, Chan.latest]

/-- A reading changes the record of its own channel alone. -/
theorem tmsReading_chan (ch : Channel) (raw : Int) (s : State) :
    (tmsReading ch raw s).tms.chan = Function.update s.tms.chan ch ((s.tms.chan ch).afterReading raw) := by
  have hfailed : ((tmsLatest ch raw s).tms.chan ch).failed = (s.tms.chan ch).failed := by simp [Chan.latest]
  simp only [tmsReading, Chan.afterReading, hfailed]
  cases (s.tms.chan ch).failed <;> cases classOf raw <;> simp [Chan.latest]

/-! ## A completion of the channel that is due (R60) -/

/-- The channel's latest reading as a completion's event has noted it, the next channel due. -/
def conversionLatest (ch : Channel) (raw : Int) (s : State) : State :=
  tmsLatest ch raw (s.modTms fun t => { t with due := nextDue ch })

/-- A completion leaves its own channel's record as the reading makes it, and the others' as they were. -/
theorem tmsComplete_chan {ch : Channel} {s : State} (hdue : s.tms.due = ch) (raw : Int) :
    (tmsComplete ch raw s).tms.chan = Function.update s.tms.chan ch ((s.tms.chan ch).afterReading raw) := by
  have hsame : (s.modTms fun t => { t with due := nextDue ch }).tms.chan = s.tms.chan := Tms.chan_congr rfl rfl rfl
  rw [tmsComplete_of_due ch raw s hdue, tmsConvert, tmsCheck_chan, tmsReading_chan, hsame]

theorem conversionLatest_chan (ch : Channel) (raw : Int) (s : State) :
    (conversionLatest ch raw s).tms.chan = Function.update s.tms.chan ch ((s.tms.chan ch).latest raw) := by
  have hsame : (s.modTms fun t => { t with due := nextDue ch }).tms.chan = s.tms.chan := Tms.chan_congr rfl rfl rfl
  rw [conversionLatest, tmsLatest_chan, hsame]

theorem conversionLatest_self (ch : Channel) (raw : Int) (s : State) :
    (conversionLatest ch raw s).tms.chan ch = (s.tms.chan ch).latest raw := by
  rw [conversionLatest_chan, Function.update_self]

@[simp] theorem conversionLatest_frame (ch : Channel) (raw : Int) (s : State) :
    (conversionLatest ch raw s).cyc = s.cyc ∧ (conversionLatest ch raw s).lck = s.lck ∧
      (conversionLatest ch raw s).drv = s.drv ∧ (conversionLatest ch raw s).prt = s.prt ∧
      (conversionLatest ch raw s).alk = s.alk := by
  simp [conversionLatest]

/-- A valid reading on a channel that is not failed (R62). -/
theorem tmsComplete_takes_valid {ch : Channel} {raw : Int} {s : State} (hdue : s.tms.due = ch)
    (hfailed : (s.tms.chan ch).failed = false) (h : -400 ≤ raw ∧ raw ≤ 7000) :
    tmsComplete ch raw s = tmsCheck ch (tmsValid ch raw (conversionLatest ch raw s)) := by
  have hf : ((conversionLatest ch raw s).tms.chan ch).failed = false := by rw [conversionLatest_self]; exact hfailed
  rw [conversionLatest] at hf
  rw [tmsComplete_of_due ch raw s hdue, tmsConvert, tmsReading]
  simp only [hf, classOf_valid h]
  rfl

/-- An invalid reading on a channel that is not failed (R63). -/
theorem tmsComplete_takes_invalid {ch : Channel} {raw : Int} {s : State} (hdue : s.tms.due = ch)
    (hfailed : (s.tms.chan ch).failed = false) (h : ¬(-400 ≤ raw ∧ raw ≤ 7000)) :
    tmsComplete ch raw s = tmsCheck ch (tmsInvalid ch (conversionLatest ch raw s)) := by
  have hf : ((conversionLatest ch raw s).tms.chan ch).failed = false := by rw [conversionLatest_self]; exact hfailed
  rw [conversionLatest] at hf
  rw [tmsComplete_of_due ch raw s hdue, tmsConvert, tmsReading]
  simp only [hf, classOf_invalid h]
  by_cases hover : 7000 < raw <;> simp only [if_pos, if_neg, hover, not_false_eq_true] <;> rfl

/-- The fourth invalid reading in a row (R63). -/
theorem tmsComplete_fails {ch : Channel} {raw : Int} {s : State} (hdue : s.tms.due = ch)
    (hfailed : (s.tms.chan ch).failed = false) (hrun : ¬ (s.tms.chan ch).invalidRun < 3) (h : ¬(-400 ≤ raw ∧ raw ≤ 7000)) :
    tmsComplete ch raw s = tmsCheck ch (tmsFail ch (conversionLatest ch raw s)) := by
  have hkept : ¬ ((conversionLatest ch raw s).tms.chan ch).invalidRun < 3 := by rwa [conversionLatest_self]
  rw [tmsComplete_takes_invalid hdue hfailed h, tmsInvalid]
  simp only [if_neg hkept]

/-- A failed channel's fourth valid reading in a row (R64). -/
theorem tmsComplete_recovers {ch : Channel} {raw : Int} {s : State} (hdue : s.tms.due = ch)
    (hfailed : (s.tms.chan ch).failed = true) (hrun : ¬ (s.tms.chan ch).validRun < 3) (h : -400 ≤ raw ∧ raw ≤ 7000) :
    ∃ m : State, tmsComplete ch raw s = tmsCheck ch (tmsRecover ch m) := by
  have hf : ((conversionLatest ch raw s).tms.chan ch).failed = true := by rw [conversionLatest_self]; exact hfailed
  have hkept : ¬ ((conversionLatest ch raw s).tms.chan ch).validRun < 3 := by rwa [conversionLatest_self]
  rw [conversionLatest] at hf hkept
  rw [tmsComplete_of_due ch raw s hdue, tmsConvert, tmsReading]
  simp only [hf, classOf_valid h, tmsFailedValid, if_neg hkept]
  exact ⟨_, rfl⟩

/-- A bridged reading of a cavity channel makes no pair and touches neither LCK nor PRT (R63, R66). -/
theorem tmsComplete_bridged {ch : Channel} {raw : Int} {s : State} (hch : ch ≠ .l) (hdue : s.tms.due = ch)
    (hfailed : (s.tms.chan ch).failed = false) (hrun : (s.tms.chan ch).invalidRun < 3) (h : ¬(-400 ≤ raw ∧ raw ≤ 7000)) :
    (tmsComplete ch raw s).lck = s.lck ∧ (tmsComplete ch raw s).prt = s.prt := by
  have hkept : ((conversionLatest ch raw s).tms.chan ch).invalidRun < 3 := by rwa [conversionLatest_self]
  have hset : (tmsInvalid ch (conversionLatest ch raw s)).lck = s.lck ∧
      (tmsInvalid ch (conversionLatest ch raw s)).prt = s.prt := by
    simp [tmsInvalid, hkept]
  rw [tmsComplete_takes_invalid hdue hfailed h]
  cases ch
  case a => exact hset
  case l => exact absurd rfl hch
  case b =>
    have hcls : (tmsInvalid .b (conversionLatest .b raw s)).tms.b.cls ≠ .valid := by
      have hb : (tmsInvalid .b (conversionLatest .b raw s)).tms.b = ((s.tms.chan .b).latest raw).bridge := by
        have hchan := congrFun (tmsInvalid_chan .b (conversionLatest .b raw s)) .b
        rwa [Function.update_self, conversionLatest_self] at hchan
      have hclass : ((s.tms.chan .b).latest raw).bridge.cls = classOf raw := by
        simp [Chan.bridge, Chan.latest, hrun]
      rw [hb, hclass, classOf_invalid h]
      split_ifs <;> decide
    have hpair : (tmsInvalid .b (conversionLatest .b raw s)).pairJudged = false := by
      simp [State.pairJudged, Chan.readyAndValid, hcls]
    simpa [tmsCheck, tmsPair, hpair] using hset

end Sys2Proof.Machine
end

section
/-! CERTIFICATE. The readings of a channel: filtered, bridged, failed and recovered (R60 to R64). -/

namespace Sys2Proof.Machine

theorem takeEvent_tms (f : State → State) (s : State) : (takeEvent f s).tms = (f s).tms := by simp

/-- The channels' records at the end of a completion's event. -/
theorem takeEvent_tmsComplete_chan {ch : Channel} {s : State} (hdue : s.tms.due = ch) (raw : Int) :
    (takeEvent (tmsComplete ch raw) s).tms.chan ch = (s.tms.chan ch).afterReading raw ∧
      ∀ other, other ≠ ch → (takeEvent (tmsComplete ch raw) s).tms.chan other = s.tms.chan other := by
  have hchan : (takeEvent (tmsComplete ch raw) s).tms.chan =
      Function.update s.tms.chan ch ((s.tms.chan ch).afterReading raw) := by
    rw [takeEvent_tms, tmsComplete_chan hdue]
  exact ⟨by rw [hchan, Function.update_self], fun other hne => by rw [hchan, Function.update_of_ne hne]⟩

/-- A completion of a channel that is not due is no event of the part (log 31). -/
theorem takeEvent_tmsComplete_not_due {ch : Channel} {s : State} (hdue : s.tms.due ≠ ch) (raw : Int) :
    takeEvent (tmsComplete ch raw) s = s := by
  have hsame := tmsComplete_of_not_due ch raw s hdue
  rw [takeEvent_of_unexamined (by rw [hsame]; exact examines_eq_false rfl rfl), hsame]

/-- A bridged reading of A or B gives CYC nothing to examine. -/
theorem takeEvent_bridged {ch : Channel} {raw : Int} {s : State} (hch : ch ≠ .l) (hdue : s.tms.due = ch)
    (hfailed : (s.tms.chan ch).failed = false) (hrun : (s.tms.chan ch).invalidRun < 3) (h : ¬(-400 ≤ raw ∧ raw ≤ 7000)) :
    (takeEvent (tmsComplete ch raw) s).prt = s.prt := by
  obtain ⟨hlck, hprt⟩ := tmsComplete_bridged hch hdue hfailed hrun h
  rw [takeEvent_of_unexamined (examines_eq_false hlck (congrArg Prt.faults hprt)), hprt]

/-- Settles O48: the channel's record is `Chan.afterReading`; a bridged reading of A or B leaves CYC nothing to examine. -/
theorem readingsAreFiltered : Obligations.ReadingsAreFiltered := by
  intro s ch raw
  refine ⟨fun hdue => next_congr (takeEvent_tmsComplete_not_due hdue raw), fun hdue hfailed => ?_⟩
  obtain ⟨hself, hothers⟩ := takeEvent_tmsComplete_chan hdue raw
  have hnext : (takeEvent (tmsComplete ch raw) s).tms.due = nextDue ch := by simp [hdue]
  have hraw : ((s.tms.chan ch).afterReading raw).raw = raw := by
    by_cases hvalid : -400 ≤ raw ∧ raw ≤ 7000
    · rw [Chan.afterReading_valid hfailed hvalid]
      rfl
    · rw [Chan.afterReading_invalid hfailed hvalid]
      exact (Chan.bridge_kept _).1
  refine ⟨_, rfl, hself ▸ hraw, hnext.trans (by cases ch <;> rfl), hothers, by simp, by simp, by simp, ?_⟩
  rw [hself]
  by_cases hvalid : -400 ≤ raw ∧ raw ≤ 7000
  · rw [if_pos hvalid, Chan.afterReading_valid hfailed hvalid]
    refine ⟨classOf_valid hvalid, rfl, hfailed, rfl, ?_, rfl⟩
    show pushReading (s.tms.chan ch).history raw = _
    unfold pushReading
    split_ifs <;> rfl
  · rw [if_neg hvalid, Chan.afterReading_invalid hfailed hvalid]
    obtain ⟨-, hcls, hfiltered⟩ := Chan.bridge_kept ((s.tms.chan ch).latest raw)
    refine ⟨hcls.trans (classOf_invalid hvalid), hfiltered, fun hrun => ?_⟩
    have hbridge : ((s.tms.chan ch).latest raw).bridge =
        { (s.tms.chan ch).latest raw with invalidRun := (s.tms.chan ch).invalidRun + 1 } := if_pos hrun
    rw [hbridge]
    exact ⟨rfl, hfailed, rfl, fun hch => congrArg Prt.faults (takeEvent_bridged hch hdue hfailed hrun hvalid)⟩

end Sys2Proof.Machine
end

section
/-! SUPPORT. The flags of the temperature monitor's conditions under the operations of a completion (R158, R159). -/

namespace Sys2Proof.Machine

/-! ## A condition that TMS reports is raised and ended by its own report alone (R157 to R159) -/

/-- The codes that TMS reports (section 10.1). -/
def FaultCode.ofTms : FaultCode → Bool
  | .overtemp | .sensorAFail | .sensorBFail | .sensorLFail | .sensorDisagree | .latchHot => true
  | _ => false

theorem FaultCode.ofTms_apart {c : FaultCode} (h : c.ofTms = true) :
    ¬ c = .elementLow ∧ ¬ c = .slotTimeout ∧ ¬ c = .heatTimeout ∧ ¬ c = .lockLost := by
  refine ⟨?_, ?_, ?_, ?_⟩ <;> (rintro rfl; cases h)

/-- A report of one code leaves the flags of another. -/
theorem flagIn_raiseFlag_ne {c d : FaultCode} (h : ¬ c = d) (b : Bool) (now : Nat) (l : List FaultEntry) :
    flagIn c b (raiseFlag d now l) = flagIn c b l := by
  unfold raiseFlag
  split_ifs
  · unfold flagIn
    rw [List.any_map]
    congr 1
    funext e
    by_cases hd : e.code = d
    · have hdc : (d == c) = false := by simpa using Ne.symm h
      simp [hd, hdc]
    · simp [hd]
  · simp [flagIn, Ne.symm h]

theorem flagIn_cycTrip {c : FaultCode} (hc : c.ofTms = true) (b : Bool) (d : FaultCode) (s : State) :
    flagIn c b (cycTrip d s).prt.faults = flagIn c b s.prt.faults := by
  obtain ⟨hlow, hslot, hheat, -⟩ := FaultCode.ofTms_apart hc
  unfold cycTrip
  split <;> simp [flagIn_cycLeaveHeating, hlow, hslot, hheat]

theorem flagIn_cycAbort {c : FaultCode} (hc : c.ofTms = true) (b : Bool) (d : FaultCode) (s : State) :
    flagIn c b (cycAbort d s).prt.faults = flagIn c b s.prt.faults := by
  obtain ⟨hlow, hslot, hheat, -⟩ := FaultCode.ofTms_apart hc
  unfold cycAbort
  split <;> simp [flagIn_cycLeaveHeating, hlow, hslot, hheat]

theorem flagIn_prtAction {c : FaultCode} (hc : c.ofTms = true) (b : Bool) (d : FaultCode) (s : State) :
    flagIn c b (prtAction d s).prt.faults = flagIn c b s.prt.faults := by
  unfold prtAction
  cases d.cls
  case trip => exact (flagIn_cycTrip hc b d _).trans (flagIn_drvMain (FaultCode.ofTms_apart hc).1 b s)
  case abort => exact flagIn_cycAbort hc b d s
  case degrade => rfl

theorem flagIn_prtRaise_ne {c d : FaultCode} (hc : c.ofTms = true) (h : ¬ c = d) (b : Bool) (s : State) :
    flagIn c b (prtRaise d s).prt.faults = flagIn c b s.prt.faults := by
  by_cases hd : flagIn d true s.prt.faults = true
  · rw [prtRaise_present d s (by rwa [any_present_eq_flagIn])]
  · rw [prtRaise_new (Bool.eq_false_iff.mpr hd), flagIn_prtAction hc]
    simp [flagIn_raiseFlag_ne h]

/-- The condition reported present stands, new or not (R158). -/
theorem flagIn_prtRaise_self {c : FaultCode} (hc : c.ofTms = true) (s : State) :
    flagIn c true (prtRaise c s).prt.faults = true := by
  by_cases h : flagIn c true s.prt.faults = true
  · rw [prtRaise_present c s (by rwa [any_present_eq_flagIn]), h]
  · rw [prtRaise_new (Bool.eq_false_iff.mpr h), flagIn_prtAction hc]
    simp [flagIn_raiseFlag]

/-- The condition reported gone is present no more (R159). -/
theorem flagIn_prtGone_self (c : FaultCode) (s : State) : flagIn c true (prtGone c s).prt.faults = false := by
  rw [prtGone_faults, flagIn_clearFlag_self]

theorem flagIn_lckUnlock {c : FaultCode} (hc : c.ofTms = true) (b : Bool) (s : State) :
    flagIn c b (lckUnlock s).prt.faults = flagIn c b s.prt.faults := by
  simp [lckUnlock, (FaultCode.ofTms_apart hc).1]

theorem flagIn_lckReevaluate {c : FaultCode} (hc : c.ofTms = true) (b : Bool) (s : State) :
    flagIn c b (lckReevaluate s).prt.faults = flagIn c b s.prt.faults := by
  obtain ⟨-, -, -, hlost⟩ := FaultCode.ofTms_apart hc
  unfold lckReevaluate
  simp only
  split_ifs
  · exact flagIn_lckLostGone hlost b _
  · rfl

theorem flagIn_unlockExam {c : FaultCode} (hc : c.ofTms = true) (b : Bool) (s : State) :
    flagIn c b (unlockExam s).prt.faults = flagIn c b s.prt.faults := by
  unfold unlockExam cycCoolExam
  split_ifs
  · rw [flagIn_cycSetPhase (FaultCode.ofTms_apart hc).1, flagIn_lckUnlock hc, flagIn_lckReevaluate hc]
  · exact flagIn_lckReevaluate hc b s

theorem flagIn_takeEvent {c : FaultCode} (hc : c.ofTms = true) (b : Bool) (f : State → State) (s : State) :
    flagIn c b (takeEvent f s).prt.faults = flagIn c b (f s).prt.faults := by
  rcases takeEvent_cases f s with h | ⟨h, -⟩
  · rw [h]
  · rw [h, flagIn_lckUnlock hc]

/-! ## The operations of a completion -/

theorem flagIn_tmsCeiling {c : FaultCode} (hc : c.ofTms = true) (hover : ¬ c = .overtemp) (b : Bool) (s : State) :
    flagIn c b (tmsCeiling s).prt.faults = flagIn c b s.prt.faults := by
  unfold tmsCeiling
  cases s.cavityValue <;> simp only <;> split_ifs <;> simp [flagIn_prtRaise_ne hc hover, hover]

theorem flagIn_tmsStanding {c : FaultCode} (hc : c.ofTms = true) (hover : ¬ c = .overtemp) (b : Bool) (ch : Channel)
    (s : State) : flagIn c b (tmsStanding ch s).prt.faults = flagIn c b s.prt.faults := by
  cases ch
  case a | b => simp [tmsStanding, flagIn_tmsCeiling hc hover, flagIn_unlockExam hc]
  case l => simp [tmsStanding]

theorem flagIn_tmsHotGone {c : FaultCode} (hhot : ¬ c = .latchHot) (b : Bool) (s : State) :
    flagIn c b (tmsHotGone s).prt.faults = flagIn c b s.prt.faults := by
  unfold tmsHotGone
  split_ifs <;> simp [hhot]

theorem flagIn_tmsNew {c : FaultCode} (hc : c.ofTms = true) (hover : ¬ c = .overtemp) (hhot : ¬ c = .latchHot) (b : Bool)
    (ch : Channel) (s : State) : flagIn c b (tmsNew ch s).prt.faults = flagIn c b s.prt.faults := by
  cases ch
  case a | b => simp [tmsNew, flagIn_tmsCeiling hc hover, flagIn_unlockExam hc]
  case l => simp [tmsNew, flagIn_tmsHotGone hhot]

theorem flagIn_tmsPair {c : FaultCode} (hc : c.ofTms = true) (hdis : ¬ c = .sensorDisagree) (b : Bool) (s : State) :
    flagIn c b (tmsPair s).prt.faults = flagIn c b s.prt.faults := by
  unfold tmsPair tmsDisagree
  split_ifs <;> simp [flagIn_prtRaise_ne hc hdis, hdis]

theorem flagIn_tmsHot {c : FaultCode} (hc : c.ofTms = true) (hhot : ¬ c = .latchHot) (b : Bool) (s : State) :
    flagIn c b (tmsHot s).prt.faults = flagIn c b s.prt.faults := by
  unfold tmsHot
  simp only
  split_ifs <;> simp [flagIn_prtRaise_ne hc hhot]

theorem flagIn_tmsCheck {c : FaultCode} (hc : c.ofTms = true) (hdis : ¬ c = .sensorDisagree) (hhot : ¬ c = .latchHot)
    (b : Bool) (ch : Channel) (s : State) : flagIn c b (tmsCheck ch s).prt.faults = flagIn c b s.prt.faults := by
  cases ch
  case a => rfl
  case b => exact flagIn_tmsPair hc hdis b s
  case l => exact flagIn_tmsHot hc hhot b s

/-! ## The failure fault of a channel (R63, R64) -/

theorem failCode_apart (ch : Channel) :
    (failCode ch).ofTms = true ∧ ¬ failCode ch = .overtemp ∧ ¬ failCode ch = .sensorDisagree ∧ ¬ failCode ch = .latchHot := by
  cases ch <;> decide

/-- After the report of a failing channel nothing in its event ends the fault. -/
theorem flagIn_tmsFail (ch : Channel) (s : State) : flagIn (failCode ch) true (tmsFail ch s).prt.faults = true := by
  obtain ⟨hc, hover, -, -⟩ := failCode_apart ch
  rw [tmsFail, flagIn_tmsStanding hc hover, flagIn_prtRaise_self hc]

/-- After the report of a recovering channel nothing in its event raises the fault again. -/
theorem flagIn_tmsRecover (ch : Channel) (s : State) : flagIn (failCode ch) true (tmsRecover ch s).prt.faults = false := by
  obtain ⟨hc, hover, -, hhot⟩ := failCode_apart ch
  rw [tmsRecover, flagIn_tmsNew hc hover hhot, flagIn_tmsStanding hc hover, flagIn_prtGone_self]

end Sys2Proof.Machine
end

section
/-! CERTIFICATE. A channel fails and recovers (R63, R64). -/

namespace Sys2Proof.Machine

theorem onlyWhen_taken {p : State → State → Bool} {f : State → State} {s : State} (h : p s (f s) = true) :
    onlyWhen p f s = f s :=
  if_pos h

/-- Settles O49: the fourth reading is the failure or the recovery of `Chan.afterReading`, and its report stands to the end. -/
theorem channelFailsAndRecovers : Obligations.ChannelFailsAndRecovers := by
  intro s ch raw hdue
  obtain ⟨hself, hothers⟩ := takeEvent_tmsComplete_chan hdue raw
  obtain ⟨hc, -, hdis, hhot⟩ := failCode_apart ch
  refine ⟨?fails, ?recovers⟩
  case fails =>
    intro hfailed hrun hraw
    have hfourth : ¬ (s.tms.chan ch).invalidRun < 3 := by omega
    have hafter : (s.tms.chan ch).afterReading raw = ((s.tms.chan ch).latest raw).fail := by
      rw [Chan.afterReading_invalid hfailed hraw]
      exact if_neg hfourth
    rw [hafter] at hself
    have htaken := onlyWhen_taken (p := fun a b => !(a.tms.chan ch).failed && (b.tms.chan ch).failed)
      (f := takeEvent (tmsComplete ch raw)) (s := s) (by simp only [hself, hfailed]; rfl)
    have hflag : flagIn (failCode ch) true (takeEvent (tmsComplete ch raw) s).prt.faults = true := by
      rw [flagIn_takeEvent hc, tmsComplete_fails hdue hfailed hfourth hraw, flagIn_tmsCheck hc hdis hhot, flagIn_tmsFail]
    refine ⟨_, next_congr htaken, ?_⟩
    rw [hself]
    exact ⟨rfl, rfl, rfl, rfl, hflag, hothers, by simp, by simp⟩
  case recovers =>
    intro x y z hfailed hrun hhistory hlow hhigh
    have hfourth : ¬ (s.tms.chan ch).validRun < 3 := by omega
    have hmean : meanOf (pushReading (s.tms.chan ch).history raw) = (x + y + z + raw).tdiv 4 := by
      simp [hhistory, pushReading, meanOf, add_assoc]
    rw [Chan.afterReading_recovers hfailed hfourth ⟨hlow, hhigh⟩] at hself
    have htaken := onlyWhen_taken (p := fun a b => (a.tms.chan ch).failed && !(b.tms.chan ch).failed)
      (f := takeEvent (tmsComplete ch raw)) (s := s) (by simp only [hself, hfailed]; rfl)
    have hflag : flagIn (failCode ch) true (takeEvent (tmsComplete ch raw) s).prt.faults = false := by
      obtain ⟨m, hm⟩ := tmsComplete_recovers hdue hfailed hfourth ⟨hlow, hhigh⟩
      rw [flagIn_takeEvent hc, hm, flagIn_tmsCheck hc hdis hhot, flagIn_tmsRecover]
    refine ⟨_, next_congr htaken, ?_⟩
    rw [hself]
    exact ⟨rfl, rfl, rfl, hmean, Bool.eq_false_iff.mp hflag, hothers, by simp, by simp⟩

end Sys2Proof.Machine
end

section
/-! SUPPORT. The checks of a period: the counts of R66 and R70, the ceiling of R68 and the latch-zone override of R69 under
the operations of a completion. -/

namespace Sys2Proof.Machine

/-! ## The counts (R66, R70) -/

/-- The comparison with the ceiling changes one flag of TMS (R68). -/
theorem tmsCeiling_tms (s : State) :
    (tmsCeiling s).tms = { s.tms with overtempPresent := (tmsCeiling s).tms.overtempPresent } := by
  unfold tmsCeiling
  cases s.cavityValue <;> simp only <;> split_ifs <;> simp

/-- The handing-on of a standing or a value leaves the counts as they were. -/
theorem tmsStanding_counts (ch : Channel) (s : State) :
    (tmsStanding ch s).tms.disagreeCount = s.tms.disagreeCount ∧ (tmsStanding ch s).tms.agreeCount = s.tms.agreeCount ∧
      (tmsStanding ch s).tms.hotRun = s.tms.hotRun := by
  cases ch
  case a | b => rw [tmsStanding, tmsCeiling_tms]; simp
  case l => exact ⟨rfl, rfl, rfl⟩

theorem tmsNew_counts (ch : Channel) (s : State) :
    (tmsNew ch s).tms.disagreeCount = s.tms.disagreeCount ∧ (tmsNew ch s).tms.agreeCount = s.tms.agreeCount ∧
      (tmsNew ch s).tms.hotRun = s.tms.hotRun := by
  cases ch
  case a | b => rw [tmsNew, tmsCeiling_tms]; simp
  case l =>
    unfold tmsNew tmsHotGone
    simp only
    split_ifs <;> simp [tmsOverride, regFan]

theorem readingTaken_tms (ch : Channel) (raw : Int) (s : State) :
    (readingTaken ch raw s).tms = s.tms.setChan ch ((s.tms.chan ch).filter raw) :=
  rfl

@[simp] theorem Tms.setChan_checks (t : Tms) (ch : Channel) (c : Chan) :
    (t.setChan ch c).disagreeCount = t.disagreeCount ∧ (t.setChan ch c).agreeCount = t.agreeCount ∧
      (t.setChan ch c).hotRun = t.hotRun ∧ (t.setChan ch c).disagreePresent = t.disagreePresent ∧
      (t.setChan ch c).overtempPresent = t.overtempPresent ∧ (t.setChan ch c).latchHotPresent = t.latchHotPresent := by
  cases ch <;> exact ⟨rfl, rfl, rfl, rfl, rfl, rfl⟩

/-- A valid reading as it is taken counts nothing. -/
theorem tmsValid_counts (ch : Channel) (raw : Int) (s : State) :
    (tmsValid ch raw s).tms.disagreeCount = s.tms.disagreeCount ∧ (tmsValid ch raw s).tms.agreeCount = s.tms.agreeCount ∧
      (tmsValid ch raw s).tms.hotRun = s.tms.hotRun ∧ (tmsValid ch raw s).tms.disagreePresent = s.tms.disagreePresent := by
  rw [tmsValid_eq]
  split_ifs <;> simp [tmsNew_counts, tmsStanding_counts, readingTaken_tms]

/-- The completion's own beginning touches the records of the channels alone. -/
@[simp] theorem conversionLatest_checks (ch : Channel) (raw : Int) (s : State) :
    (conversionLatest ch raw s).tms.disagreeCount = s.tms.disagreeCount ∧
      (conversionLatest ch raw s).tms.agreeCount = s.tms.agreeCount ∧
      (conversionLatest ch raw s).tms.hotRun = s.tms.hotRun ∧
      (conversionLatest ch raw s).tms.disagreePresent = s.tms.disagreePresent ∧
      (conversionLatest ch raw s).tms.overtempPresent = s.tms.overtempPresent ∧
      (conversionLatest ch raw s).tms.latchHotPresent = s.tms.latchHotPresent := by
  have htms : (conversionLatest ch raw s).tms =
      ({ s.tms with due := nextDue ch } : Tms).setChan ch ((s.tms.chan ch).latest raw) := by
    cases ch <;> rfl
  simp [htms]

/-! ## The judgement of a pair (R66, R67) -/

/-- The counts after a judged pair, with the condition present as given. -/
def pairCounted (dis agree : Nat) (present : Bool) (s : State) : State :=
  s.modTms fun t => { t with disagreeCount := dis, agreeCount := agree, disagreePresent := present }

theorem tmsPair_tenth_disagreeing {s : State} (hjudged : s.pairJudged = true) (hdis : s.pairDisagrees = true)
    (hcount : s.tms.disagreeCount = 9) (hpresent : s.tms.disagreePresent = false) :
    tmsPair s = prtRaise .sensorDisagree (pairCounted 10 0 true s) := by
  simp [tmsPair, hjudged, tmsCounts, hdis, tmsDisagree, State.modTms, hcount, hpresent, satSucc, pairCounted]

theorem tmsPair_tenth_agreeing {s : State} (hjudged : s.pairJudged = true) (hdis : s.pairDisagrees = false)
    (hcount : s.tms.agreeCount = 9) (hpresent : s.tms.disagreePresent = true) :
    tmsPair s = prtGone .sensorDisagree (pairCounted 0 10 false s) := by
  simp [tmsPair, hjudged, tmsCounts, hdis, tmsDisagree, State.modTms, hcount, hpresent, satSucc, pairCounted]

/-- A valid B reading beside a valid A whose latest reading is valid makes a pair (R66). -/
theorem pair_of_valid_b {raw : Int} {s : State} (hfailed : (s.tms.chan .b).failed = false)
    (hraw : -400 ≤ raw ∧ raw ≤ 7000) (ha : s.tms.a.standing = .valid) (hcls : s.tms.a.cls = .valid) :
    let m := tmsValid .b raw (conversionLatest .b raw s)
    m.pairJudged = true ∧ m.pairDisagrees =
      decide (300 < (s.tms.a.filtered - meanOf (pushReading (s.tms.chan .b).history raw)).natAbs) := by
  intro m
  have hchan : m.tms.chan = Function.update s.tms.chan .b (((s.tms.chan .b).latest raw).filter raw) := by
    rw [tmsValid_chan, conversionLatest_chan, Function.update_self, Function.update_idem]
  have hma : m.tms.a = s.tms.a := congrFun hchan .a
  have hmb : m.tms.b = ((s.tms.chan .b).latest raw).filter raw := congrFun hchan .b
  obtain ⟨hready, hno⟩ := (Chan.standing_eq_valid _).mp ha
  have hclass : classOf raw = .valid := classOf_valid hraw
  constructor
  · simp [State.pairJudged, Chan.readyAndValid, Chan.valid, hma, hmb, hready, hno, hcls, Chan.filter, Chan.latest, hfailed,
      hclass]
  · rw [State.pairDisagrees, hma, hmb]
    rfl

/-! ## The hot run (R70) -/

theorem tmsHot_fiftieth {s : State} (hvalid : s.tms.l.valid = true) (hhot : 1200 < s.tms.l.filtered)
    (hrun : s.tms.hotRun = 49) (hpresent : s.tms.latchHotPresent = false) :
    tmsHot s = prtRaise .latchHot (s.modTms fun t => { t with hotRun := 50, latchHotPresent := true }) := by
  simp [tmsHot, hvalid, tmsHotCount, State.modTms, hhot, hrun, hpresent, satSucc]

/-- A condition that is not present is not ended (R70). -/
theorem tmsHotGone_latchHotPresent {s : State} (h : s.tms.latchHotPresent = false) :
    (tmsHotGone s).tms.latchHotPresent = false := by
  simp [tmsHotGone, h]

theorem tmsValid_latchHotPresent {raw : Int} {s : State} (h : s.tms.latchHotPresent = false) :
    (tmsValid .l raw s).tms.latchHotPresent = false := by
  rw [tmsValid_eq]
  refine tmsHotGone_latchHotPresent ?_
  split_ifs <;> simpa [readingTaken_tms] using h

/-! ## The latch-zone override and the fan (R69, R82) -/

/-- The override is on, and the fan full on with it. -/
structure FanFull (s : State) : Prop where
  override : s.tms.zoneOverride = true
  fan : s.reg.fan = 100

theorem fanLevel_of_override {s : State} (h : s.tms.zoneOverride = true) : s.fanLevel = 100 := if_pos h

theorem fanFull_of_eq {s t : State} (h : FanFull s) (htms : t.tms.zoneOverride = s.tms.zoneOverride)
    (hfan : t.reg.fan = s.reg.fan) : FanFull t :=
  ⟨htms.trans h.override, hfan.trans h.fan⟩

theorem fanFull_cycSetPhase {p : Phase} {s : State} (h : FanFull s) : FanFull (cycSetPhase p s) := by
  refine ⟨by simpa using h.override, ?_⟩
  unfold cycSetPhase
  split_ifs
  · exact h.fan
  · simp only [lckTripped_frame, regFan_fan]
    exact fanLevel_of_override (by simpa using h.override)

theorem fanFull_cycLeaveHeating {p : Phase} {s : State} (h : FanFull s) : FanFull (cycLeaveHeating p s) :=
  fanFull_of_eq (fanFull_cycSetPhase (p := p) h) (by simp) (by simp [cycLeaveHeating])

theorem fanFull_prtAction {c : FaultCode} {s : State} (h : FanFull s) : FanFull (prtAction c s) := by
  unfold prtAction cycTrip cycAbort
  split
  · have hmain : FanFull (drvMain s) := fanFull_of_eq h (by simp) (by simp)
    split
    · exact hmain
    · exact hmain
    · exact fanFull_cycLeaveHeating (fanFull_of_eq hmain (by simp) (by simp))
    all_goals exact fanFull_cycSetPhase (fanFull_of_eq hmain (by simp) (by simp))
  · split
    · exact h
    · exact h
    · exact fanFull_cycLeaveHeating (fanFull_of_eq h (by simp) (by simp))
    all_goals exact fanFull_of_eq h (by simp) (by simp)
  · exact h

theorem fanFull_prtRaise {c : FaultCode} {s : State} (h : FanFull s) : FanFull (prtRaise c s) := by
  unfold prtRaise
  split_ifs
  · exact h
  · exact fanFull_prtAction (fanFull_of_eq h (by simp) (by simp))

theorem fanFull_tmsOverride {s : State} (h : s.overrideNow = true) : FanFull (tmsOverride s) :=
  ⟨h, fanLevel_of_override h⟩

theorem fanFull_tmsHot {s : State} (h : FanFull s) : FanFull (tmsHot s) := by
  unfold tmsHot
  simp only
  split_ifs
  · exact fanFull_prtRaise (fanFull_of_eq h (by simp) (by simp))
  · exact fanFull_of_eq h (by simp) (by simp)
  · exact h

theorem fanFull_takeEvent {f : State → State} {s : State} (h : FanFull (f s)) : FanFull (takeEvent f s) :=
  fanFull_of_eq h (by simp) (by simp)

/-- The override that a channel L with a record calls for (R69). -/
theorem State.overrideNow_of_valid {s : State} (h : s.tms.l.standing = .valid) :
    s.overrideNow = decide (900 < s.tms.l.filtered) := by
  simp [State.overrideNow, h]

theorem State.overrideNow_of_failed {s : State} (h : s.tms.l.failed = true) : s.overrideNow = true := by
  simp [State.overrideNow, (Chan.standing_eq_failed _).mpr h]

/-- A valid L reading sets the override by the value that it leaves, and the fan with it. -/
theorem tmsValid_override {raw : Int} {s : State} (hfailed : s.tms.l.failed = false) :
    let x := meanOf (pushReading s.tms.l.history raw)
    (tmsValid .l raw s).tms.zoneOverride = decide (900 < x) ∧ (900 < x → FanFull (tmsValid .l raw s)) := by
  intro x
  obtain ⟨m, heq, hl⟩ : ∃ m, tmsValid .l raw s = tmsHotGone (tmsOverride m) ∧ m.tms.l = s.tms.l.filter raw := by
    rw [tmsValid_eq]
    split_ifs
    · exact ⟨_, rfl, rfl⟩
    · exact ⟨_, rfl, rfl⟩
  have hover : m.overrideNow = decide (900 < x) := by
    rw [State.overrideNow_of_valid ((Chan.standing_eq_valid _).mpr (by rw [hl]; exact ⟨rfl, hfailed⟩)), hl]
    rfl
  rw [heq]
  refine ⟨?_, fun hx => ?_⟩
  · rw [← hover]
    simp [tmsOverride]
  · exact fanFull_of_eq (fanFull_tmsOverride (hover.trans (decide_eq_true hx))) (by simp) (by simp)

/-- The failure of L turns the override on. -/
theorem fanFull_tmsFail (s : State) : FanFull (tmsFail .l s) := by
  refine fanFull_tmsOverride (State.overrideNow_of_failed ?_)
  simp [tmsHotClear, tmsSet, Tms.setChan]

end Sys2Proof.Machine
end

section
/-! SUPPORT. The comparison with the cavity's ceiling (R68) in a completion of A or B: what the other operations leave, and
what one or two comparisons in the event come to. -/

namespace Sys2Proof.Machine

/-! ## A trip as MAIN and the phase see it (R12, R96, R160) -/

theorem lckTripped_main_open {s : State} (h : s.drv.main = false) : (lckTripped s).drv.main = false := by
  unfold lckTripped lckSetJammed
  split_ifs <;> simp [h, State.mainAllowed]

theorem cycSetPhase_main_open {p : Phase} {s : State} (h : s.drv.main = false) : (cycSetPhase p s).drv.main = false := by
  unfold cycSetPhase
  split_ifs
  · exact h
  · exact lckTripped_main_open (by simpa [drvPhase] using h)

/-- A trip notice with MAIN open, whatever the lock state. -/
theorem cycTrip_stops (c : FaultCode) {s : State} (h : s.drv.main = false) :
    (cycTrip c s).drv.main = false ∧ (cycTrip c s).cyc.phase = if s.cyc.phase = .idle then .idle else .tripped := by
  cases hp : s.cyc.phase <;> simp [cycTrip, hp, h, cycSetPhase_main_open]

/-- A new trip-class fault, whatever the lock state. -/
theorem prtRaise_stops {c : FaultCode} {s : State} (hc : c.cls = .trip) (h : flagIn c true s.prt.faults = false) :
    (prtRaise c s).drv.main = false ∧ (prtRaise c s).cyc.phase = if s.cyc.phase = .idle then .idle else .tripped := by
  have htrip : (prtEnter c s).hasTrip = true := hasTrip_raiseFlag hc (by simpa using flagIn_raiseFlag c _ _)
  have hmain : (drvMain (prtEnter c s)).drv.main = false := by simp [State.mainAllowed, htrip]
  have heq : prtRaise c s = cycTrip c (drvMain (prtEnter c s)) := by simp [prtRaise_new h, prtAction, hc]
  rw [heq]
  simpa using cycTrip_stops c hmain

theorem lckUnlock_main_open {s : State} (h : s.drv.main = false) : (lckUnlock s).drv.main = false := by
  simp [lckUnlock, lckSetState_main_open (st := .unlocking) (by decide) (.inr h)]

/-! ## What the other operations of the event leave (R13, R21, R47, R66, R164) -/

/-- What the comparison reads: the two cavity channels and the configuration. -/
structure CeilingInputs (m t : State) : Prop where
  a : t.tms.a = m.tms.a
  b : t.tms.b = m.tms.b
  items : t.alk.items = m.alk.items
  committed : t.alk.committed = m.alk.committed

/-- An operation that leaves OVERTEMP and what its trip has stopped as they were. -/
structure CeilingQuiet (m t : State) : Prop extends CeilingInputs m t where
  present : t.tms.overtempPresent = m.tms.overtempPresent
  flag : flagIn .overtemp true t.prt.faults = flagIn .overtemp true m.prt.faults
  idle : t.cyc.phase = .idle ↔ m.cyc.phase = .idle
  tripped : m.cyc.phase = .tripped → t.cyc.phase = .tripped
  main : m.drv.main = false → t.drv.main = false

theorem ceilingInputs_trans {k m t : State} (h : CeilingInputs k m) (h' : CeilingInputs m t) : CeilingInputs k t :=
  ⟨h'.a.trans h.a, h'.b.trans h.b, h'.items.trans h.items, h'.committed.trans h.committed⟩

theorem ceilingQuiet_trans {k m t : State} (h : CeilingQuiet k m) (h' : CeilingQuiet m t) : CeilingQuiet k t where
  toCeilingInputs := ceilingInputs_trans h.toCeilingInputs h'.toCeilingInputs
  present := h'.present.trans h.present
  flag := h'.flag.trans h.flag
  idle := h'.idle.trans h.idle
  tripped hp := h'.tripped (h.tripped hp)
  main hm := h'.main (h.main hm)

theorem ceilingQuiet_refl (s : State) : CeilingQuiet s s :=
  ⟨⟨rfl, rfl, rfl, rfl⟩, rfl, rfl, Iff.rfl, id, id⟩

theorem ceilingQuiet_cycPeak (s : State) : CeilingQuiet s (cycPeak s) := by
  constructor
  case toCeilingInputs => constructor <;> simp
  all_goals simp

theorem ceilingQuiet_prtBlind (s : State) : CeilingQuiet s (prtBlind s) := by
  constructor
  case toCeilingInputs => constructor <;> simp
  all_goals simp

theorem ceilingQuiet_lckUnlock (s : State) : CeilingQuiet s (lckUnlock s) := by
  constructor
  case toCeilingInputs => constructor <;> simp
  case flag => exact flagIn_lckUnlock rfl true s
  case main => exact lckUnlock_main_open
  all_goals simp

theorem ceilingQuiet_lckReevaluate (s : State) : CeilingQuiet s (lckReevaluate s) := by
  constructor
  case toCeilingInputs => constructor <;> simp
  case flag => exact flagIn_lckReevaluate rfl true s
  all_goals simp

/-- The release in COOLING moves the phase to UNLOCKING, and no other (R13). -/
theorem ceilingQuiet_cycCoolExam (s : State) : CeilingQuiet s (cycCoolExam s) := by
  unfold cycCoolExam
  split_ifs with h
  · refine ceilingQuiet_trans (ceilingQuiet_lckUnlock s) ?_
    constructor
    case toCeilingInputs => constructor <;> simp
    case flag => exact flagIn_cycSetPhase (by decide) true .unlocking _
    case main => exact cycSetPhase_main_open
    all_goals simp [h.1]
  · exact ceilingQuiet_refl s

theorem ceilingQuiet_unlockExam (s : State) : CeilingQuiet s (unlockExam s) :=
  ceilingQuiet_trans (ceilingQuiet_lckReevaluate s) (ceilingQuiet_cycCoolExam _)

/-- SENSOR_DISAGREE finds IDLE or TRIPPED as its own trip would leave them (R12, R66). -/
theorem ceilingQuiet_prtRaise_disagree (s : State) : CeilingQuiet s (prtRaise .sensorDisagree s) := by
  by_cases h : flagIn .sensorDisagree true s.prt.faults = true
  · rw [prtRaise_present _ s (by rwa [any_present_eq_flagIn])]
    exact ceilingQuiet_refl s
  · obtain ⟨hmain, hphase⟩ := prtRaise_stops rfl (Bool.eq_false_iff.mpr h)
    constructor
    case toCeilingInputs => constructor <;> simp
    case present => simp
    case flag => exact flagIn_prtRaise_ne rfl (by decide) true s
    case idle =>
      rw [hphase]
      split_ifs with hp <;> simp [hp]
    case tripped => exact fun hp => by simp [hphase, hp]
    case main => exact fun _ => hmain

theorem ceilingQuiet_prtGone_disagree (s : State) : CeilingQuiet s (prtGone .sensorDisagree s) := by
  constructor
  case toCeilingInputs => constructor <;> simp
  case flag => exact flagIn_prtGone_ne (by decide) true s
  all_goals simp

theorem ceilingQuiet_modTms {f : Tms → Tms} {s : State} (ha : (f s.tms).a = s.tms.a) (hb : (f s.tms).b = s.tms.b)
    (hpresent : (f s.tms).overtempPresent = s.tms.overtempPresent) : CeilingQuiet s (s.modTms f) :=
  ⟨⟨ha, hb, rfl, rfl⟩, hpresent, rfl, Iff.rfl, id, id⟩

theorem ceilingQuiet_tmsPair (s : State) : CeilingQuiet s (tmsPair s) := by
  have hcounts : CeilingQuiet s (tmsCounts s) := by
    unfold tmsCounts
    split_ifs <;> exact ceilingQuiet_modTms rfl rfl rfl
  unfold tmsPair tmsDisagree
  split_ifs
  · exact ceilingQuiet_trans hcounts
      (ceilingQuiet_trans (ceilingQuiet_modTms rfl rfl rfl) (ceilingQuiet_prtRaise_disagree _))
  · exact ceilingQuiet_trans hcounts
      (ceilingQuiet_trans (ceilingQuiet_modTms rfl rfl rfl) (ceilingQuiet_prtGone_disagree _))
  · exact hcounts
  · exact ceilingQuiet_refl s

theorem ceilingQuiet_takeEvent (f : State → State) (s : State) : CeilingQuiet (f s) (takeEvent f s) := by
  rcases takeEvent_cases f s with h | ⟨h, -⟩
  · rw [h]
    exact ceilingQuiet_refl _
  · rw [h]
    exact ceilingQuiet_lckUnlock _

/-! ## The comparison itself (R68) -/

/-- Tmax. -/
def State.ceiling (s : State) : Int := s.cfg .tmax

theorem tmsCeiling_judged {v : Int} {s : State} (hcom : s.alk.committed = true) (hv : s.cavityValue = some v) :
    tmsCeiling s =
      if s.ceiling + 300 < v then
        if s.tms.overtempPresent = true then s
        else prtRaise .overtemp (s.modTms fun t => { t with overtempPresent := true })
      else if v ≤ s.ceiling ∧ s.tms.overtempPresent = true then
        prtGone .overtemp (s.modTms fun t => { t with overtempPresent := false })
      else s := by
  simp only [tmsCeiling, hcom, hv, if_true]
  rfl

/-- What the event makes of OVERTEMP from its beginning `k`, the compared value being `v`. -/
structure CeilingTaken (k : State) (v : Int) (t : State) : Prop extends CeilingInputs k t where
  present : t.tms.overtempPresent =
    if k.ceiling + 300 < v then true else if v ≤ k.ceiling then false else k.tms.overtempPresent
  raised : k.ceiling + 300 < v → k.tms.overtempPresent = false → flagIn .overtemp true k.prt.faults = false →
    flagIn .overtemp true t.prt.faults = true ∧ t.drv.main = false ∧
      t.cyc.phase = if k.cyc.phase = .idle then .idle else .tripped
  gone : v ≤ k.ceiling → k.tms.overtempPresent = true → flagIn .overtemp true t.prt.faults = false

/-- The comparison goes by the same values wherever in the event it is made. -/
theorem ceiling_of_inputs {k m : State} (h : CeilingInputs k m) :
    m.ceiling = k.ceiling ∧ m.cavityValue = k.cavityValue := by
  refine ⟨?_, ?_⟩
  · rw [State.ceiling, State.cfg_congr h.items h.committed, State.ceiling]
  · rw [State.cavityValue, h.a, h.b, State.cavityValue]

theorem ceilingTaken_quiet {k m t : State} {v : Int} (h : CeilingTaken k v m) (h' : CeilingQuiet m t) :
    CeilingTaken k v t where
  toCeilingInputs := ceilingInputs_trans h.toCeilingInputs h'.toCeilingInputs
  present := h'.present.trans h.present
  raised hv hpresent hflag := by
    obtain ⟨hraised, hmain, hphase⟩ := h.raised hv hpresent hflag
    refine ⟨h'.flag.trans hraised, h'.main hmain, ?_⟩
    split_ifs at hphase ⊢
    · exact h'.idle.mpr hphase
    · exact h'.tripped hphase
  gone hv hpresent := h'.flag.trans (h.gone hv hpresent)

/-- The first comparison of the event. -/
theorem ceilingTaken_of_quiet {k m : State} {v : Int} (hcom : k.alk.committed = true) (hv : k.cavityValue = some v)
    (h : CeilingQuiet k m) : CeilingTaken k v (tmsCeiling m) := by
  obtain ⟨hceil, hvalue⟩ := ceiling_of_inputs h.toCeilingInputs
  constructor
  case toCeilingInputs => exact ceilingInputs_trans h.toCeilingInputs (by constructor <;> simp)
  all_goals rw [tmsCeiling_judged (h.committed.trans hcom) (hvalue.trans hv), hceil, h.present]
  case present =>
    have hbefore := h.present
    split_ifs <;> simp_all
  case raised =>
    intro hhot hpresent hflag
    have hnew : flagIn .overtemp true (m.modTms fun t => { t with overtempPresent := true }).prt.faults = false :=
      h.flag.trans hflag
    obtain ⟨hmain, hphase⟩ := prtRaise_stops rfl hnew
    rw [if_pos hhot, if_neg (by simp [hpresent])]
    exact ⟨flagIn_prtRaise_self rfl _, hmain, by simpa [h.idle] using hphase⟩
  case gone =>
    intro hcool hpresent
    rw [if_neg (by omega), if_pos ⟨hcool, hpresent⟩]
    exact flagIn_prtGone_self _ _

/-- A second comparison in the event finds the condition as the first has left it. -/
theorem ceilingTaken_again {k m : State} {v : Int} (hcom : k.alk.committed = true) (hv : k.cavityValue = some v)
    (h : CeilingTaken k v m) : tmsCeiling m = m := by
  obtain ⟨hceil, hvalue⟩ := ceiling_of_inputs h.toCeilingInputs
  rw [tmsCeiling_judged (h.committed.trans hcom) (hvalue.trans hv), hceil, h.present]
  by_cases hhot : k.ceiling + 300 < v
  · simp [hhot]
  · by_cases hcool : v ≤ k.ceiling <;> simp [hhot, hcool]

/-- The unlock test and the comparison, handed on together. -/
theorem ceilingTaken_handOn {k m : State} {v : Int} (hcom : k.alk.committed = true) (hv : k.cavityValue = some v)
    (h : CeilingQuiet k m ∨ CeilingTaken k v m) : CeilingTaken k v (tmsCeiling (unlockExam m)) := by
  rcases h with h | h
  · exact ceilingTaken_of_quiet hcom hv (ceilingQuiet_trans h (ceilingQuiet_unlockExam m))
  · have hexam := ceilingTaken_quiet h (ceilingQuiet_unlockExam m)
    rwa [ceilingTaken_again hcom hv hexam]

theorem ceilingTaken_tmsNew {ch : Channel} {k m : State} {v : Int} (hch : ch ≠ .l) (hcom : k.alk.committed = true)
    (hv : k.cavityValue = some v) (h : CeilingQuiet k m ∨ CeilingTaken k v m) : CeilingTaken k v (tmsNew ch m) := by
  cases ch with
  | l => exact absurd rfl hch
  | b => exact ceilingTaken_handOn hcom hv h
  | a =>
    have hpeak := ceilingQuiet_cycPeak m
    exact ceilingTaken_handOn hcom hv (h.imp (ceilingQuiet_trans · hpeak) (ceilingTaken_quiet · hpeak))

theorem ceilingTaken_tmsStanding {ch : Channel} {k : State} {v : Int} (hch : ch ≠ .l) (hcom : k.alk.committed = true)
    (hv : k.cavityValue = some v) : CeilingTaken k v (tmsStanding ch k) := by
  cases ch with
  | l => exact absurd rfl hch
  | a | b => exact ceilingTaken_handOn hcom hv (.inl (ceilingQuiet_prtBlind k))

/-- A valid reading hands on its value, and with its first one the standing before it (R62). -/
theorem ceilingTaken_tmsValid {ch : Channel} {raw : Int} {s : State} {v : Int} (hch : ch ≠ .l)
    (hcom : (readingTaken ch raw s).alk.committed = true) (hv : (readingTaken ch raw s).cavityValue = some v) :
    CeilingTaken (readingTaken ch raw s) v (tmsValid ch raw s) := by
  rw [tmsValid_eq]
  refine ceilingTaken_tmsNew hch hcom hv ?_
  split_ifs
  · exact .inl (ceilingQuiet_refl _)
  · exact .inr (ceilingTaken_tmsStanding hch hcom hv)

/-- A whole completion of A or B (R60, R68). -/
theorem ceilingTaken_completion {ch : Channel} {raw v : Int} {s : State} (hch : ch ≠ .l) (hdue : s.tms.due = ch)
    (hfailed : (s.tms.chan ch).failed = false) (hraw : -400 ≤ raw ∧ raw ≤ 7000) (hcom : s.alk.committed = true)
    (hv : (conversionTaken ch raw s).cavityValue = some v) :
    CeilingTaken (conversionTaken ch raw s) v (takeEvent (tmsComplete ch raw) s) := by
  refine ceilingTaken_quiet ?_ (ceilingQuiet_takeEvent (tmsComplete ch raw) s)
  have hvalid := ceilingTaken_tmsValid (s := conversionLatest ch raw s) hch (by simpa [readingTaken] using hcom) hv
  rw [tmsComplete_takes_valid hdue hfailed hraw]
  cases ch with
  | l => exact absurd rfl hch
  | a => exact hvalid
  | b => exact ceilingTaken_quiet hvalid (ceilingQuiet_tmsPair _)

theorem conversionTaken_overtempPresent (ch : Channel) (raw : Int) (s : State) :
    (conversionTaken ch raw s).tms.overtempPresent = s.tms.overtempPresent := by
  show (readingTaken ch raw (conversionLatest ch raw s)).tms.overtempPresent = s.tms.overtempPresent
  simp [readingTaken_tms]

end Sys2Proof.Machine
end

section
/-! CERTIFICATE. The checks of a period: SENSOR_DISAGREE, LATCH_HOT, OVERTEMP and the latch-zone override (R66 to R70). -/

namespace Sys2Proof.Machine

/-- A completion that ends in a new report: nothing after it in the event changes TMS or the flag (R158). -/
theorem takeEvent_reports {c : FaultCode} (hc : c.ofTms = true) {ch : Channel} {raw : Int} {s m : State}
    (h : tmsComplete ch raw s = prtRaise c m) :
    (takeEvent (tmsComplete ch raw) s).tms = m.tms ∧
      flagIn c true (takeEvent (tmsComplete ch raw) s).prt.faults = true := by
  rw [takeEvent_tms, flagIn_takeEvent hc, h, flagIn_prtRaise_self hc]
  exact ⟨by simp, rfl⟩

/-- A completion that ends in a report gone (R159). -/
theorem takeEvent_ends {c : FaultCode} (hc : c.ofTms = true) {ch : Channel} {raw : Int} {s m : State}
    (h : tmsComplete ch raw s = prtGone c m) :
    (takeEvent (tmsComplete ch raw) s).tms = m.tms ∧
      flagIn c true (takeEvent (tmsComplete ch raw) s).prt.faults = false := by
  rw [takeEvent_tms, flagIn_takeEvent hc, h, flagIn_prtGone_self]
  exact ⟨by simp, rfl⟩

/-- The tenth disagreeing pair (R66). -/
theorem sensorDisagree_raised {raw : Int} {s : State} (hdue : s.tms.due = .b) (hfailed : (s.tms.chan .b).failed = false)
    (hraw : -400 ≤ raw ∧ raw ≤ 7000) (ha : s.tms.a.standing = .valid) (hcls : s.tms.a.cls = .valid)
    (hdis : 300 < (s.tms.a.filtered - meanOf (pushReading (s.tms.chan .b).history raw)).natAbs)
    (hcount : s.tms.disagreeCount = 9) (hpresent : s.tms.disagreePresent = false) :
    ∃ t, exec (.sensorDisagree raw) s = .next t ∧
      t.tms.disagreePresent = true ∧ t.tms.disagreeCount = 10 ∧ t.tms.agreeCount = 0 ∧
      t.holdsFault .sensorDisagree true ∧ t.prf = s.prf ∧ t.ptb = s.ptb := by
  obtain ⟨hjudged, hpair⟩ := pair_of_valid_b hfailed hraw ha hcls
  obtain ⟨hcounted, -, -, hpresented⟩ := tmsValid_counts .b raw (conversionLatest .b raw s)
  have heq : tmsComplete .b raw s =
      prtRaise .sensorDisagree (pairCounted 10 0 true (tmsValid .b raw (conversionLatest .b raw s))) := by
    rw [tmsComplete_takes_valid hdue hfailed hraw]
    exact tmsPair_tenth_disagreeing hjudged (hpair.trans (decide_eq_true hdis)) (by simp [hcounted, hcount])
      (by simp [hpresented, hpresent])
  obtain ⟨htms, hflag⟩ := takeEvent_reports rfl heq
  have htaken := onlyWhen_taken (p := fun a b => !a.tms.disagreePresent && b.tms.disagreePresent)
    (f := takeEvent (tmsComplete .b raw)) (s := s) (by simp only [htms, hpresent]; rfl)
  refine ⟨_, next_congr htaken, ?_⟩
  rw [htms]
  exact ⟨rfl, rfl, rfl, hflag, by simp, by simp⟩

/-- The tenth agreeing pair (R67). -/
theorem sensorDisagree_ended {raw : Int} {s : State} (hdue : s.tms.due = .b) (hfailed : (s.tms.chan .b).failed = false)
    (hraw : -400 ≤ raw ∧ raw ≤ 7000) (ha : s.tms.a.standing = .valid) (hcls : s.tms.a.cls = .valid)
    (hagree : (s.tms.a.filtered - meanOf (pushReading (s.tms.chan .b).history raw)).natAbs ≤ 300)
    (hcount : s.tms.agreeCount = 9) (hpresent : s.tms.disagreePresent = true) :
    ∃ t, exec (.disagreeConditionGone raw) s = .next t ∧
      t.tms.disagreePresent = false ∧ t.tms.agreeCount = 10 ∧ t.tms.disagreeCount = 0 ∧
      ¬ t.holdsFault .sensorDisagree true ∧ t.prf = s.prf ∧ t.ptb = s.ptb := by
  obtain ⟨hjudged, hpair⟩ := pair_of_valid_b hfailed hraw ha hcls
  obtain ⟨-, hcounted, -, hpresented⟩ := tmsValid_counts .b raw (conversionLatest .b raw s)
  have heq : tmsComplete .b raw s =
      prtGone .sensorDisagree (pairCounted 0 10 false (tmsValid .b raw (conversionLatest .b raw s))) := by
    rw [tmsComplete_takes_valid hdue hfailed hraw]
    exact tmsPair_tenth_agreeing hjudged (hpair.trans (decide_eq_false (by omega))) (by simp [hcounted, hcount])
      (by simp [hpresented, hpresent])
  obtain ⟨htms, hflag⟩ := takeEvent_ends rfl heq
  have htaken := onlyWhen_taken (p := fun a b => a.tms.disagreePresent && !b.tms.disagreePresent)
    (f := takeEvent (tmsComplete .b raw)) (s := s) (by simp only [htms, hpresent]; rfl)
  refine ⟨_, next_congr htaken, ?_⟩
  rw [htms]
  exact ⟨rfl, rfl, rfl, Bool.eq_false_iff.mp hflag, by simp, by simp⟩

/-- The fiftieth hot period (R70). -/
theorem latchHot_raised {raw : Int} {s : State} (hdue : s.tms.due = .l) (hfailed : (s.tms.chan .l).failed = false)
    (hraw : -400 ≤ raw ∧ raw ≤ 7000) (hhot : 1200 < meanOf (pushReading (s.tms.chan .l).history raw))
    (hrun : s.tms.hotRun = 49) (hpresent : s.tms.latchHotPresent = false) :
    ∃ t, exec (.latchHot raw) s = .next t ∧
      t.tms.latchHotPresent = true ∧ t.tms.hotRun = 50 ∧ t.holdsFault .latchHot true ∧ t.prf = s.prf ∧ t.ptb = s.ptb := by
  have hl : (tmsValid .l raw (conversionLatest .l raw s)).tms.l = ((s.tms.chan .l).latest raw).filter raw := by
    have hchan := congrFun (tmsValid_chan .l raw (conversionLatest .l raw s)) .l
    rwa [Function.update_self, conversionLatest_self] at hchan
  obtain ⟨-, -, hcounted, -⟩ := tmsValid_counts .l raw (conversionLatest .l raw s)
  have heq : tmsComplete .l raw s = prtRaise .latchHot ((tmsValid .l raw (conversionLatest .l raw s)).modTms fun t =>
      { t with hotRun := 50, latchHotPresent := true }) := by
    rw [tmsComplete_takes_valid hdue hfailed hraw]
    exact tmsHot_fiftieth (by simp [hl, Chan.valid, Chan.filter, Chan.latest, hfailed]) (by rw [hl]; exact hhot)
      (by simp [hcounted, hrun]) (tmsValid_latchHotPresent (by simpa using hpresent))
  obtain ⟨htms, hflag⟩ := takeEvent_reports rfl heq
  have htaken := onlyWhen_taken (p := fun a b => !a.tms.latchHotPresent && b.tms.latchHotPresent)
    (f := takeEvent (tmsComplete .l raw)) (s := s) (by simp only [htms, hpresent]; rfl)
  refine ⟨_, next_congr htaken, ?_⟩
  rw [htms]
  exact ⟨rfl, rfl, hflag, by simp, by simp⟩

/-- A valid L reading and the override (R69). -/
theorem override_of_valid {raw : Int} {s : State} (hdue : s.tms.due = .l) (hfailed : (s.tms.chan .l).failed = false)
    (hraw : -400 ≤ raw ∧ raw ≤ 7000) :
    let x := meanOf (pushReading (s.tms.chan .l).history raw)
    (takeEvent (tmsComplete .l raw) s).tms.zoneOverride = decide (900 < x) ∧
      (900 < x → (takeEvent (tmsComplete .l raw) s).reg.fan = 100) := by
  intro x
  obtain ⟨hover, hfull⟩ := tmsValid_override (raw := raw) (s := conversionLatest .l raw s) hfailed
  have heq := tmsComplete_takes_valid hdue hfailed hraw
  refine ⟨?_, fun hx => (fanFull_takeEvent ?_).fan⟩
  · have hkept : (tmsComplete .l raw s).tms.zoneOverride = (tmsValid .l raw (conversionLatest .l raw s)).tms.zoneOverride := by
      simp [heq]
    rw [takeEvent_tms, hkept]
    exact hover
  · rw [heq]
    exact fanFull_tmsHot (hfull hx)

/-- Settles O50: each check is the row of its own code, and OVERTEMP is what the event's comparisons come to. -/
theorem checksRaiseAndEnd : Obligations.ChecksRaiseAndEnd := by
  intro s ch raw x hdue hfailed
  refine ⟨fun hlow hhigh (hx : x = meanOf (pushReading (s.tms.chan ch).history raw)) =>
    ⟨?disagree, ?agree, ?hot, ?ceiling, ?override⟩, ?failure⟩
  case disagree =>
    rintro rfl ha hcls hdis hcount hpresent
    exact sensorDisagree_raised hdue hfailed ⟨hlow, hhigh⟩ ha hcls (hx ▸ hdis) hcount hpresent
  case agree =>
    rintro rfl ha hcls hagree hcount hpresent
    exact sensorDisagree_ended hdue hfailed ⟨hlow, hhigh⟩ ha hcls (hx ▸ hagree) hcount hpresent
  case hot =>
    rintro rfl hhot hrun hpresent
    exact latchHot_raised hdue hfailed ⟨hlow, hhigh⟩ (hx ▸ hhot) hrun hpresent
  case ceiling =>
    intro v other hch hother hcom hv
    obtain ⟨hready, hno, hfiltered, hsame⟩ := conversionTaken_chan hch raw s
    have hvalid : ((conversionTaken ch raw s).tms.chan ch).standing = .valid :=
      (Chan.standing_eq_valid _).mpr ⟨hready, hno.trans hfailed⟩
    have hvalue : (conversionTaken ch raw s).cavityValue = some v := by
      rw [State.cavityValue_of_reading hch hvalid, hsame, hfiltered, hv, hx, hother]
      rfl
    have htaken := ceilingTaken_completion hch hdue hfailed ⟨hlow, hhigh⟩ hcom hvalue
    have hceil : (conversionTaken ch raw s).ceiling = s.cfg .tmax :=
      congrArg Nat.cast (State.cfg_congr (by simp) (by simp) .tmax)
    have hcyc : (conversionTaken ch raw s).cyc = s.cyc := by simp
    have hprt : (conversionTaken ch raw s).prt = s.prt := by simp
    obtain ⟨-, hpresent, hraised, hgone⟩ := htaken
    rw [hceil, conversionTaken_overtempPresent] at hpresent hraised hgone
    rw [hcyc, hprt] at hraised
    refine ⟨_, rfl, by simp, by simp, ?_⟩
    by_cases hhot : (s.cfg .tmax : Int) + 300 < v
    · rw [if_pos hhot] at hpresent ⊢
      exact ⟨hpresent, fun hold hflag => hraised hhot hold (flagIn_of_not_holdsFault hflag)⟩
    · rw [if_neg hhot] at hpresent ⊢
      by_cases hcool : v ≤ s.cfg .tmax
      · rw [if_pos hcool] at hpresent ⊢
        exact ⟨hpresent, fun hold => Bool.eq_false_iff.mp (hgone hcool hold)⟩
      · rw [if_neg hcool] at hpresent ⊢
        exact hpresent
  case override =>
    rintro rfl
    obtain ⟨hover, hfan⟩ := override_of_valid hdue hfailed ⟨hlow, hhigh⟩
    exact ⟨_, rfl, hx ▸ hover, fun hx' => hfan (hx ▸ hx'), by simp, by simp⟩
  case failure =>
    rintro rfl hraw hrun
    have hfull : FanFull (takeEvent (tmsComplete .l raw) s) := fanFull_takeEvent (by
      rw [tmsComplete_fails hdue hfailed (by simp [Tms.chan, hrun]) hraw]
      exact fanFull_tmsHot (fanFull_tmsFail _))
    exact ⟨_, rfl, hfull.override, hfull.fan, by simp, by simp⟩

end Sys2Proof.Machine
end

section
/-! CERTIFICATE. The regulator: the evaluation in HEATING (R75 to R80) and the cooling rule's expiry (R85 to R88). -/

namespace Sys2Proof.Machine

/-! ## Clamping -/

theorem clampInt_eq {lo hi : Int} (h : lo ≤ hi) (v : Int) : clampInt lo hi v = max lo (min hi v) := by
  unfold clampInt
  split_ifs <;> omega

theorem clampNat_eq {lo hi : Nat} (h : lo ≤ hi) (v : Nat) : clampNat lo hi v = max lo (min hi v) := by
  unfold clampNat
  split_ifs <;> omega

theorem clampInt_toNat (v : Int) : ((clampInt 0 1000 v).toNat : Int) = max 0 (min 1000 v) := by
  rw [clampInt_eq (by decide)]
  omega

/-! ## The evaluation (R77 to R80) -/

/-- The error as the rule writes it (R77). -/
theorem State.error_eq (s : State) : s.error = max (-2000) (min 2000 (s.ramp.sp - s.tms.a.filtered)) :=
  clampInt_eq (by decide) _

/-- The anti-windup holds the integral back from rising in a limited window (R78). -/
theorem State.nextIntegral_eq (s : State) :
    (s.nextIntegral : Int) =
      if s.reg.limited = true ∧ 0 < s.error then (s.reg.integral : Int)
      else max 0 (min 1000 (s.reg.integral + s.integralStep)) := by
  unfold State.nextIntegral
  simp only [Bool.and_eq_true, decide_eq_true_eq]
  split_ifs
  · rfl
  · exact clampInt_toNat _

theorem State.guardActs_iff (s : State) : s.guardActs = true ↔ s.ramp.sp + 150 < s.tms.a.filtered := decide_eq_true_iff

theorem State.nextDemand_of_guard {s : State} (h : s.ramp.sp + 150 < s.tms.a.filtered) : s.nextDemand = 0 :=
  if_pos (s.guardActs_iff.mpr h)

theorem State.nextDemand_of_no_guard {s : State} (h : ¬ s.ramp.sp + 150 < s.tms.a.filtered) :
    (s.nextDemand : Int) = max 0 (min 1000 (s.proportional + s.nextIntegral)) := by
  unfold State.nextDemand
  rw [if_neg (s.guardActs_iff.not.mpr h)]
  exact clampInt_toNat _

theorem State.nextDemand_le (s : State) : s.nextDemand ≤ 1000 := by
  by_cases h : s.ramp.sp + 150 < s.tms.a.filtered
  · simp [State.nextDemand_of_guard h]
  · have := State.nextDemand_of_no_guard h
    omega

/-- An evaluation writes D and I, which SHR's evaluation of the want leaves (R78 to R80). -/
theorem regEvaluate_reg (s : State) :
    (regEvaluate s).reg.demand = s.nextDemand ∧
      (regEvaluate s).reg.integral = if s.guardActs then 0 else s.nextIntegral := by
  simp [regEvaluate, regSet]

theorem execHeatingEvaluation_eq {s : State} (h : s.cyc.phase = .heating) :
    exec .heatingEvaluation s = .next (regEvaluate s) := by
  have hphase : (regEvaluate s).cyc.phase = .heating := by simpa [regEvaluate, regSet] using h
  exact next_congr ((if_pos h).trans (takeEvent_of_phase _ _ (by simp [hphase])))

/-- Settles O39: D and I by the overshoot guard's two cases; SHR takes the want and leaves every other block. -/
theorem evaluationSetsDemand : Obligations.EvaluationSetsDemand := by
  intro s e p di i hheating he hp hdi hi
  have herror : s.error = e := s.error_eq.trans he.symm
  have hprop : s.proportional = p := by rw [hp, ← herror, State.proportional]
  have hint : s.nextIntegral = i := by
    have hnext := s.nextIntegral_eq
    rw [State.integralStep, herror, ← hdi, ← hi] at hnext
    exact Int.ofNat_inj.mp hnext
  obtain ⟨hdemand, hintegral⟩ := regEvaluate_reg s
  refine ⟨regEvaluate s, execHeatingEvaluation_eq hheating, ?law, ?range, ?want, ?phase, ?others⟩
  case law =>
    rw [hdemand, hintegral]
    simp only [s.guardActs_iff]
    split_ifs with hguard
    · exact ⟨rfl, State.nextDemand_of_guard hguard⟩
    · exact ⟨hint, by rw [State.nextDemand_of_no_guard hguard, hprop, hint]⟩
  case range => exact hdemand ▸ s.nextDemand_le
  case want => rw [hdemand, regEvaluate, shrWant_wo]; rfl
  case phase => simpa [regEvaluate, regSet] using hheating
  case others => simp [regEvaluate, regSet]

/-! ## The cooling rule's expiry (R86 to R88) -/

theorem nextLevel_eq (level rc : Nat) (rate : Int) :
    nextLevel level rc rate =
      if rate < (rc : Int) - 5 then max 20 (min 100 (level + 10))
      else if (rc : Int) + 5 < rate then max 20 (min 100 (level - 10))
      else level := by
  simp [nextLevel, clampNat_eq]

/-! An expiry's measurement, an equation for each case of the base and the sample. -/

theorem regMeasure_of_no_sample {s : State} (h : s.coolingSample = none) :
    regMeasure s = s.modReg fun r => { r with ruleLevel := 100, rate := none, base := none } := by
  unfold regMeasure
  rw [h]

theorem regMeasure_of_no_base {s : State} {b : Channel × Int} (ha : s.reg.base = none) (hb : s.coolingSample = some b) :
    regMeasure s = s.modReg fun r => { r with rate := none, base := some b } := by
  unfold regMeasure
  rw [ha, hb]

theorem regMeasure_of_other_channel {s : State} {a b : Channel × Int} (ha : s.reg.base = some a)
    (hb : s.coolingSample = some b) (hne : ¬ a.1 = b.1) :
    regMeasure s = s.modReg fun r => { r with rate := none, base := some b } := by
  unfold regMeasure
  rw [ha, hb]
  exact if_neg hne

theorem regMeasure_of_fall {s : State} {a b : Channel × Int} (ha : s.reg.base = some a)
    (hb : s.coolingSample = some b) (heq : a.1 = b.1) :
    regMeasure s = s.modReg fun r => { r with
      ruleLevel := nextLevel r.ruleLevel (s.cfg .rc) ((a.2 - b.2) * 2), rate := some ((a.2 - b.2) * 2),
      base := some b } := by
  unfold regMeasure
  rw [ha, hb]
  exact if_pos heq

/-- A measurement writes REG alone. -/
@[simp] theorem regMeasure_frame (s : State) :
    (regMeasure s).cyc = s.cyc ∧ (regMeasure s).tms = s.tms ∧ (regMeasure s).alk = s.alk := by
  unfold regMeasure
  split
  case h_1 | h_2 => exact ⟨rfl, rfl, rfl⟩
  case h_3 => split_ifs <;> exact ⟨rfl, rfl, rfl⟩

theorem execCoolingRuleExpiry_eq {s : State} (h : s.reg.coolTimer.isSome = true) :
    exec .coolingRuleExpiry s = .next (regCoolExpiry s) :=
  next_congr (if_pos h)

/-- An expiry whose measurement writes `f` of REG leaves the timer running and the fan at the level called for (R82, R86,
R87). -/
theorem regCoolExpiry_of_measure {f : Reg → Reg} {s : State} (h : regMeasure s = s.modReg f) :
    (regCoolExpiry s).reg.coolTimer = some 30000 ∧ (regCoolExpiry s).reg.base = (f s.reg).base ∧
      (regCoolExpiry s).reg.fan = (regCoolExpiry s).fanLevel ∧ { regCoolExpiry s with reg := s.reg } = s ∧
      (regCoolExpiry s).reg.ruleLevel = (f s.reg).ruleLevel ∧ (regCoolExpiry s).reg.rate = (f s.reg).rate := by
  unfold regCoolExpiry
  rw [h]
  exact ⟨rfl, rfl, rfl, rfl, rfl, rfl⟩

/-- Settles O40: in each case of base and sample the measurement is one write of REG, and the fan follows it. -/
theorem coolingRuleMeasures : Obligations.CoolingRuleMeasures := by
  intro s hrun
  refine ⟨regCoolExpiry s, execCoolingRuleExpiry_eq hrun, ?_⟩
  cases hb : s.coolingSample with
  | none =>
    obtain ⟨htimer, hbase, hfan, hframe, hlevel, hrate⟩ := regCoolExpiry_of_measure (regMeasure_of_no_sample hb)
    cases s.reg.base <;> exact ⟨htimer, hbase, hfan, hframe, hlevel, hrate⟩
  | some b =>
    cases ha : s.reg.base with
    | none => exact regCoolExpiry_of_measure (regMeasure_of_no_base ha hb)
    | some a =>
      by_cases hsame : a.1 = b.1
      · obtain ⟨htimer, hbase, hfan, hframe, hlevel, hrate⟩ := regCoolExpiry_of_measure (regMeasure_of_fall ha hb hsame)
        refine ⟨htimer, hbase, hfan, hframe, ?_⟩
        dsimp only
        rw [if_neg (not_not_intro hsame)]
        exact ⟨hrate, hlevel.trans (nextLevel_eq _ _ _)⟩
      · obtain ⟨htimer, hbase, hfan, hframe, hlevel, hrate⟩ :=
          regCoolExpiry_of_measure (regMeasure_of_other_channel ha hb hsame)
        refine ⟨htimer, hbase, hfan, hframe, ?_⟩
        dsimp only
        rw [if_pos hsame]
        exact ⟨hlevel, hrate⟩

end Sys2Proof.Machine
end

section
/-! SUPPORT. The law of the fan (R82, R83) under the shared operations: the phase, the notices of PRT, the ramp engine, the
burn slot and SHR's causes. -/

namespace Sys2Proof.Machine

/-! ## What the law reads -/

theorem State.fanLevel_congr {s t : State} (hrule : t.reg.ruleLevel = s.reg.ruleLevel) (hphase : t.cyc.phase = s.cyc.phase)
    (hover : t.tms.zoneOverride = s.tms.zoneOverride) (ha : t.tms.a.raw = s.tms.a.raw) (hb : t.tms.b.raw = s.tms.b.raw)
    (hcommitted : t.alk.committed = s.alk.committed) (hitems : t.alk.items = s.alk.items) : t.fanLevel = s.fanLevel := by
  simp only [State.fanLevel, State.phaseLevel, State.heldLevel, State.cfg_congr hitems hcommitted, hrule, hphase, hover,
    ha, hb]

/-- An operation that leaves all that the law reads keeps the law. -/
theorem fanSafe_of_kept {s t : State} (h : s.fanSafe) (hkept : t.reg.fan = s.reg.fan ∧
    t.reg.ruleLevel = s.reg.ruleLevel ∧ t.cyc.phase = s.cyc.phase ∧ t.tms.zoneOverride = s.tms.zoneOverride ∧
    t.tms.a.raw = s.tms.a.raw ∧ t.tms.b.raw = s.tms.b.raw ∧ t.alk.committed = s.alk.committed ∧
    t.alk.items = s.alk.items) : t.fanSafe := by
  obtain ⟨hlevel, hcommit⟩ := h
  obtain ⟨hfan, hrule, hphase, hover, ha, hb, hcommitted, hitems⟩ := hkept
  refine ⟨?_, by rwa [hphase, hcommitted]⟩
  rw [hfan, hlevel, State.fanLevel_congr hrule hphase hover ha hb hcommitted hitems]

/-- A choice between two operations that keep the law. -/
theorem fanSafe_ite {c : Prop} [Decidable c] {t u : State} (ht : c → t.fanSafe) (hu : ¬c → u.fanSafe) :
    (if c then t else u).fanSafe := by
  split_ifs with hc
  · exact ht hc
  · exact hu hc

/-- An operation taken under a condition, or nothing. -/
theorem fanSafe_iteSelf {c : Prop} [Decidable c] {t s : State} (h : s.fanSafe) (ht : c → t.fanSafe) :
    (if c then t else s).fanSafe := fanSafe_ite ht fun _ => h

/-- LOCKING and HEATING are reached after commit alone (R4). -/
theorem committed_of_fanSafe {s : State} (h : s.fanSafe) (hp : s.cyc.phase = .locking ∨ s.cyc.phase = .heating) :
    s.alk.committed = true := by
  obtain ⟨-, hcommit⟩ := h
  exact hcommit hp

/-- The fan made to follow is at the level called for, whatever it was before (R82). -/
theorem fanSafe_regFan {s : State} (h : s.cyc.phase = .locking ∨ s.cyc.phase = .heating → s.alk.committed = true) :
    (regFan s).fanSafe := ⟨rfl, h⟩

theorem fanSafe_alkRecord {k : EventKind} {d : Half} {s : State} (h : s.fanSafe) : (alkRecord k d s).fanSafe :=
  fanSafe_of_kept h (by simp)

theorem fanSafe_prtGone {c : FaultCode} {s : State} (h : s.fanSafe) : (prtGone c s).fanSafe := fanSafe_of_kept h (by simp)

theorem fanSafe_lckTripped {s : State} (h : s.fanSafe) : (lckTripped s).fanSafe := fanSafe_of_kept h (by simp)

/-! ## The phase (R10, R14, R22, R83) -/

/-- The fan follows each change of the phase. -/
theorem fanSafe_cycSetPhase {p : Phase} {s : State} (h : s.fanSafe)
    (hp : p = .locking ∨ p = .heating → s.alk.committed = true) : (cycSetPhase p s).fanSafe :=
  fanSafe_ite (fun _ => h) fun _ => fanSafe_lckTripped (fanSafe_regFan (by simpa using hp))

theorem fanSafe_cycLeaveHeating {p : Phase} {s : State} (h : s.fanSafe)
    (hp : p = .locking ∨ p = .heating → s.alk.committed = true) : (cycLeaveHeating p s).fanSafe :=
  fanSafe_of_kept (fanSafe_cycSetPhase h hp) (by simp [cycLeaveHeating])

/-! ## PRT's notices (R11, R12, R158 to R161) -/

theorem fanSafe_cycTrip {c : FaultCode} {s : State} (h : s.fanSafe) : (cycTrip c s).fanSafe := by
  have hnote : (cycFirstFault c (cycOutcome .tripped s)).fanSafe := h
  cases hp : s.cyc.phase <;> simp only [cycTrip, hp]
  case idle | tripped => exact h
  case heating => exact fanSafe_cycLeaveHeating hnote (by simp)
  case locking | cooling | unlocking | held => exact fanSafe_cycSetPhase hnote (by simp)

theorem fanSafe_cycAbort {c : FaultCode} {s : State} (h : s.fanSafe) : (cycAbort c s).fanSafe := by
  have hnote : (cycOutcome .faultAborted (cycFirstFault c s)).fanSafe := h
  cases hp : s.cyc.phase <;> simp only [cycAbort, hp]
  case idle | held => exact h
  case heating => exact fanSafe_cycLeaveHeating hnote (by simp)
  case locking | cooling | unlocking | tripped => exact h

theorem fanSafe_cycComplete {s : State} (h : s.fanSafe) : (cycComplete s).fanSafe :=
  fanSafe_iteSelf h fun _ => fanSafe_cycLeaveHeating (s := cycOutcome .completed s) h (by simp)

theorem fanSafe_prtAction {c : FaultCode} {s : State} (h : s.fanSafe) : (prtAction c s).fanSafe := by
  cases hcls : c.cls <;> simp only [prtAction, hcls]
  case trip => exact fanSafe_cycTrip (fanSafe_of_kept h (by simp))
  case abort => exact fanSafe_cycAbort h
  case degrade => exact h

theorem fanSafe_prtRaise {c : FaultCode} {s : State} (h : s.fanSafe) : (prtRaise c s).fanSafe :=
  fanSafe_ite (fun _ => h) fun _ => fanSafe_prtAction (fanSafe_of_kept h (by simp))

/-! ## The ramp engine and the burn slot (R32, R39, R41, R149 to R155) -/

theorem fanSafe_rampEnter {s : State} (h : s.fanSafe) : (rampEnter s).fanSafe := by
  cases hk : s.segment.kind <;> simp only [rampEnter, hk]
  case ramp | hold => exact fanSafe_alkRecord h
  case endRec | code3 => exact fanSafe_cycComplete h

theorem fanSafe_prfGrant {s : State} (h : s.fanSafe) : (prfGrant s).fanSafe :=
  fanSafe_ite (fun _ => fanSafe_rampEnter (fanSafe_of_kept h (by simp))) fun _ => fanSafe_of_kept h (by simp)

theorem fanSafe_shrHold {s : State} (h : s.fanSafe) : (shrHold s).fanSafe :=
  fanSafe_prfGrant (fanSafe_of_kept h (by simp))

theorem fanSafe_shrStatic {s : State} (h : s.fanSafe) : (shrStatic s).fanSafe :=
  fanSafe_ite (fun _ => fanSafe_shrHold h) fun _ => h

theorem fanSafe_shrTakeRequest {s : State} (h : s.fanSafe) : (shrTakeRequest s).fanSafe := by
  cases hst : s.shr.state <;> simp only [shrTakeRequest, hst]
  case off => exact h
  case listening | fallback => exact fanSafe_shrStatic h
  case sharing => exact fanSafe_ite (fun _ => fanSafe_of_kept h (by simp)) fun _ => fanSafe_of_kept h (by simp)

theorem fanSafe_shrRequest {s : State} (h : s.fanSafe) : (shrRequest s).fanSafe :=
  fanSafe_iteSelf h fun _ => fanSafe_shrTakeRequest h

theorem fanSafe_rampBegin {i : Nat} {s : State} (h : s.fanSafe) : (rampBegin i s).fanSafe :=
  fanSafe_ite (fun _ => fanSafe_shrRequest (fanSafe_of_kept h (by simp))) fun _ =>
    fanSafe_ite (fun _ => fanSafe_rampEnter (fanSafe_of_kept h (by simp))) fun _ => fanSafe_rampEnter h

/-! ## SHR's causes and fallback (R138, R140, R154) -/

theorem fanSafe_shrSlotFallback {s : State} (h : s.fanSafe) : (shrSlotFallback s).fanSafe := by
  cases hr : s.shr.request <;> simp only [shrSlotFallback, hr]
  case claiming => exact fanSafe_shrStatic (fanSafe_of_kept h (by simp))
  case backingOff => exact fanSafe_shrStatic h
  case none | waiting | granted => exact h

theorem fanSafe_shrRecord {s : State} (h : s.fanSafe) : (shrRecord s).fanSafe := fanSafe_of_kept h (by simp)

theorem fanSafe_shrEnterFallback {s : State} (h : s.fanSafe) : (shrEnterFallback s).fanSafe :=
  fanSafe_shrRecord (fanSafe_shrSlotFallback (fanSafe_of_kept h (by simp)))

theorem fanSafe_shrAddCause {c : Cause} {s : State} (h : s.fanSafe) : (shrAddCause c s).fanSafe := by
  cases hst : s.shr.state <;> simp only [shrAddCause, hst]
  case off | fallback => exact h
  case listening | sharing => exact fanSafe_ite (fun _ => fanSafe_shrEnterFallback h) fun _ => h

end Sys2Proof.Machine
end

section
/-! SUPPORT. The law of the fan (R82, R83) under the operations of LCK and CYC's part in them. -/

namespace Sys2Proof.Machine

/-! ## CYC's examinations and reports (R2, R6, R7, R13, R15) -/

theorem fanSafe_cycCoolExam {s : State} (h : s.fanSafe) : (cycCoolExam s).fanSafe :=
  fanSafe_iteSelf h fun _ => fanSafe_cycSetPhase (fanSafe_of_kept h (by simp)) (by simp)

theorem fanSafe_unlockExam {s : State} (h : s.fanSafe) : (unlockExam s).fanSafe :=
  fanSafe_cycCoolExam (fanSafe_of_kept h (by simp))

/-- The unlock that CYC may ask for in TRIPPED leaves the phase (R13). -/
theorem fanSafe_takeEvent {f : State → State} {s : State} (h : (f s).fanSafe) : (takeEvent f s).fanSafe :=
  fanSafe_of_kept h (by simp)

/-- HEATING is entered from LOCKING, which was reached after commit (R4, R7). -/
theorem fanSafe_cycEnterHeating {s : State} (h : s.fanSafe) (hp : s.cyc.phase = .locking) : (cycEnterHeating s).fanSafe := by
  have hheating := fanSafe_cycSetPhase (p := .heating) h fun _ => committed_of_fanSafe h (.inl hp)
  exact fanSafe_rampBegin (fanSafe_of_kept hheating (by simp))

theorem fanSafe_cycLocked {s : State} (h : s.fanSafe) : (cycLocked s).fanSafe :=
  fanSafe_iteSelf h fun hp => fanSafe_ite (fun _ => fanSafe_cycSetPhase (s := cycOutcome .aborted s) h (by simp)) fun _ =>
    fanSafe_cycEnterHeating h hp

theorem fanSafe_cycLockFailure {engaged : Bool} {s : State} (h : s.fanSafe) : (cycLockFailure engaged s).fanSafe :=
  fanSafe_iteSelf h fun _ =>
    fanSafe_cycSetPhase (s := cycOutcome (if s.cyc.abortPending then .aborted else .lockFailed) s) h
      (by cases engaged <;> simp)

theorem fanSafe_cycUnlocked {s : State} (h : s.fanSafe) : (cycUnlocked s).fanSafe :=
  fanSafe_iteSelf h fun _ => fanSafe_cycSetPhase h (by simp)

theorem fanSafe_cycLatchReport {engaged : Bool} {s : State} (h : s.fanSafe) : (cycLatchReport engaged s).fanSafe := by
  refine fanSafe_iteSelf h fun _ => ?_
  split
  · exact fanSafe_cycSetPhase h (by simp)
  · exact fanSafe_cycSetPhase h (by simp)

/-! ## The lock travel (R48 to R52) -/

theorem fanSafe_lckFail {s : State} (h : s.fanSafe) : (lckFail s).fanSafe :=
  fanSafe_cycLockFailure (fanSafe_prtGone (fanSafe_prtRaise h))

theorem fanSafe_lckLock {s : State} (h : s.fanSafe) : (lckLock s).fanSafe :=
  fanSafe_ite (fun _ => fanSafe_of_kept h (by simp)) fun _ => fanSafe_lckFail h

theorem fanSafe_lckAttemptFailed {s : State} (h : s.fanSafe) : (lckAttemptFailed s).fanSafe :=
  fanSafe_ite (fun _ => h) fun _ => fanSafe_lckFail (fanSafe_of_kept h (by simp))

theorem fanSafe_lckReturnEnd {s : State} (h : s.fanSafe) : (lckReturnEnd s).fanSafe :=
  fanSafe_ite (fun _ => fanSafe_lckFail (fanSafe_of_kept h (by simp))) fun _ =>
    fanSafe_lckFail (fanSafe_of_kept h (by simp))

theorem fanSafe_lckDoorOpened {s : State} (h : s.fanSafe) : (lckDoorOpened s).fanSafe :=
  fanSafe_ite (fun _ => h) fun _ => fanSafe_ite (fun _ => fanSafe_lckFail (fanSafe_of_kept h (by simp))) fun _ =>
    fanSafe_lckFail (fanSafe_of_kept h (by simp))

/-! ## The unlock travel (R54, R55) -/

theorem fanSafe_lckJamEnds {s : State} (h : s.fanSafe) : (lckJamEnds s).fanSafe := fanSafe_of_kept h (by simp)

theorem fanSafe_lckUnlockJam {s : State} (h : s.fanSafe) : (lckUnlockJam s).fanSafe :=
  fanSafe_lckJamEnds (fanSafe_prtGone (fanSafe_prtRaise (fanSafe_of_kept h (by simp))))

theorem fanSafe_lckUnlockFailed {s : State} (h : s.fanSafe) : (lckUnlockFailed s).fanSafe :=
  fanSafe_ite (fun _ => h) fun _ => fanSafe_lckUnlockJam h

theorem fanSafe_lckUnlockDone {s : State} (h : s.fanSafe) : (lckUnlockDone s).fanSafe :=
  fanSafe_cycUnlocked (fanSafe_of_kept h (by simp))

/-! ## Supervision (R56 to R58) -/

theorem fanSafe_lckLost {s : State} (h : s.fanSafe) : (lckLost s).fanSafe := by
  have hraised : (prtRaise .lockLost (s.modLck fun l => { l with lockLostPresent := true })).fanSafe := fanSafe_prtRaise h
  have hjam : (lckJamEnds (lckSetJammed false
      (prtRaise .lockLost (s.modLck fun l => { l with lockLostPresent := true })))).fanSafe :=
    fanSafe_lckJamEnds (fanSafe_of_kept hraised (by simp))
  exact fanSafe_iteSelf hjam fun _ => fanSafe_of_kept hjam (by simp)

theorem fanSafe_lckForced {s : State} (h : s.fanSafe) : (lckForced s).fanSafe := by
  have hraised : (prtRaise .doorForced (s.modLck fun l => { l with doorForcedPresent := true })).fanSafe :=
    fanSafe_prtRaise h
  exact fanSafe_iteSelf hraised fun _ => fanSafe_of_kept hraised (by simp)

theorem fanSafe_lckLatchFree {s : State} (h : s.fanSafe) : (lckLatchFree s).fanSafe := by
  have hgone : (lckForcedGone s).fanSafe := fanSafe_of_kept h (by simp)
  unfold lckLatchFree
  simp only
  generalize lckForcedGone s = m at hgone ⊢
  split
  case h_1 => exact fanSafe_lckAttemptFailed (s := lckStop m) hgone
  case h_2 | h_3 => exact hgone
  all_goals exact fanSafe_iteSelf hgone fun _ => fanSafe_lckLost hgone

theorem fanSafe_lckDoorOpens {s : State} (h : s.fanSafe) : (lckDoorOpens s).fanSafe :=
  fanSafe_ite (fun _ => fanSafe_ite (fun _ => h) fun _ => fanSafe_lckDoorOpened h) fun _ =>
    fanSafe_ite (fun _ => fanSafe_lckForced h) fun _ => fanSafe_lckJamEnds h

/-! ## Start-up and the debounced values (R2, R43, R44) -/

theorem fanSafe_lckStartUp {engaged : Bool} {s : State} (h : s.fanSafe) : (lckStartUp engaged s).fanSafe :=
  fanSafe_cycLatchReport (fanSafe_of_kept h (by simp))

theorem fanSafe_lckActs {sw : SwitchId} {level : Bool} {s : State} (h : s.fanSafe) : (lckActs sw level s).fanSafe := by
  cases sw
  case latch =>
    exact fanSafe_ite (fun _ => fanSafe_lckStartUp h) fun _ =>
      fanSafe_ite (fun _ => fanSafe_of_kept h (by simp)) fun _ => fanSafe_lckLatchFree h
  case door =>
    cases level
    case false => exact fanSafe_ite (fun _ => h) fun _ => fanSafe_lckDoorOpens h
    case true => exact fanSafe_ite (fun _ => h) fun _ => fanSafe_of_kept h (by simp)

theorem fanSafe_lckDebounced {sw : SwitchId} {level : Bool} {s : State} (h : s.fanSafe) :
    (lckDebounced sw level s).fanSafe :=
  fanSafe_ite (fun _ => h) fun _ => fanSafe_lckActs h

/-! ## The rows of LCK (R43, R49 to R55) -/

theorem fanSafe_lckEdge {sw : SwitchId} {level : Bool} {s : State} (h : s.fanSafe) : (lckEdge sw level s).fanSafe :=
  fanSafe_ite (fun _ => h) fun _ => h

theorem fanSafe_lckMeet {s : State} (h : s.fanSafe) : (lckMeet s).fanSafe := fanSafe_of_kept h (by simp)

theorem fanSafe_lckDriveExpiry {s : State} (h : s.fanSafe) : (lckDriveExpiry s).fanSafe :=
  fanSafe_iteSelf h fun _ => fanSafe_lckAttemptFailed (s := lckStop (lckMeet s)) (fanSafe_lckMeet h)

theorem fanSafe_lckSeatEnd {s : State} (h : s.fanSafe) : (lckSeatEnd s).fanSafe :=
  fanSafe_iteSelf h fun _ => fanSafe_ite (fun _ => fanSafe_cycLocked (fanSafe_of_kept h (by simp))) fun _ =>
    fanSafe_lckAttemptFailed (s := lckStop s) h

theorem fanSafe_lckUnlockExpiry {s : State} (h : s.fanSafe) : (lckUnlockExpiry s).fanSafe := by
  have hmeet := fanSafe_lckMeet h
  unfold lckUnlockExpiry
  split
  case h_1 => exact fanSafe_lckUnlockFailed (s := lckStop (lckMeet s)) hmeet
  case h_2 | h_3 => exact fanSafe_lckReturnEnd hmeet
  all_goals exact h

theorem fanSafe_lckClearanceEnd {s : State} (h : s.fanSafe) : (lckClearanceEnd s).fanSafe := by
  unfold lckClearanceEnd
  split
  case h_1 => exact fanSafe_lckUnlockDone h
  case h_2 => exact fanSafe_lckReturnEnd h
  all_goals exact h

theorem fanSafe_lckUnlockPause {s : State} (h : s.fanSafe) : (lckUnlockPause s).fanSafe :=
  fanSafe_iteSelf h fun _ =>
    fanSafe_ite (fun _ => fanSafe_of_kept h (by simp [lckRetry])) fun _ => fanSafe_lckUnlockJam h

end Sys2Proof.Machine
end

section
/-! SUPPORT. The law of the fan (R82, R83) under the operations of TMS, DRV, BLI, PTB and SHR. -/

namespace Sys2Proof.Machine

/-! ## TMS and the checks of a period (R60 to R70, R164) -/

theorem fanSafe_tmsCeiling {s : State} (h : s.fanSafe) : (tmsCeiling s).fanSafe := by
  refine fanSafe_iteSelf h fun _ => ?_
  split
  · exact h
  · exact fanSafe_ite (fun _ => fanSafe_ite (fun _ => h) fun _ => fanSafe_prtRaise h) fun _ =>
      fanSafe_iteSelf h fun _ => fanSafe_prtGone h

/-- A new override moves the fan with it (R69, R82). -/
theorem fanSafe_tmsOverride {s : State} (h : s.fanSafe) : (tmsOverride s).fanSafe :=
  fanSafe_regFan (s := s.modTms fun t => { t with zoneOverride := s.overrideNow }) (committed_of_fanSafe (s := s) h)

/-- A new raw reading moves the fan in HELD (R84). -/
theorem fanSafe_tmsLatest {ch : Channel} {raw : Int} {s : State} (h : s.fanSafe) : (tmsLatest ch raw s).fanSafe :=
  fanSafe_regFan (by simpa using committed_of_fanSafe h)

/-- A change of a channel's record beside its latest raw reading does not concern the fan. -/
theorem fanSafe_tmsSet {ch : Channel} {c : Chan} {s : State} (h : s.fanSafe) (hraw : c.raw = (s.tms.chan ch).raw) :
    (tmsSet ch c s).fanSafe := by
  cases ch
  case a => exact fanSafe_of_kept h ⟨rfl, rfl, rfl, rfl, hraw, rfl, rfl, rfl⟩
  case b => exact fanSafe_of_kept h ⟨rfl, rfl, rfl, rfl, rfl, hraw, rfl, rfl⟩
  case l => exact h

theorem fanSafe_tmsHotGone {s : State} (h : s.fanSafe) : (tmsHotGone s).fanSafe := fanSafe_of_kept h (by simp)

theorem fanSafe_tmsHotClear {ch : Channel} {s : State} (h : s.fanSafe) : (tmsHotClear ch s).fanSafe := by
  cases ch
  case a | b | l => exact h

theorem fanSafe_tmsNew {ch : Channel} {s : State} (h : s.fanSafe) : (tmsNew ch s).fanSafe := by
  cases ch
  case a => exact fanSafe_tmsCeiling (fanSafe_unlockExam (fanSafe_of_kept h (by simp)))
  case b => exact fanSafe_tmsCeiling (fanSafe_unlockExam h)
  case l => exact fanSafe_tmsHotGone (fanSafe_tmsOverride h)

theorem fanSafe_tmsStanding {ch : Channel} {s : State} (h : s.fanSafe) : (tmsStanding ch s).fanSafe := by
  cases ch
  case a | b => exact fanSafe_tmsCeiling (fanSafe_unlockExam (fanSafe_of_kept h (by simp)))
  case l => exact fanSafe_tmsOverride h

theorem fanSafe_tmsFail {ch : Channel} {s : State} (h : s.fanSafe) : (tmsFail ch s).fanSafe :=
  fanSafe_tmsStanding (fanSafe_prtRaise (fanSafe_tmsHotClear (fanSafe_tmsSet h rfl)))

theorem fanSafe_tmsRecover {ch : Channel} {s : State} (h : s.fanSafe) : (tmsRecover ch s).fanSafe :=
  fanSafe_tmsNew (fanSafe_tmsStanding (fanSafe_prtGone (fanSafe_tmsSet h rfl)))

theorem fanSafe_tmsValid {ch : Channel} {raw : Int} {s : State} (h : s.fanSafe) : (tmsValid ch raw s).fanSafe :=
  fanSafe_tmsNew (fanSafe_ite (fun _ => fanSafe_tmsSet h rfl) fun _ => fanSafe_tmsStanding (fanSafe_tmsSet h rfl))

theorem fanSafe_tmsInvalid {ch : Channel} {s : State} (h : s.fanSafe) : (tmsInvalid ch s).fanSafe :=
  fanSafe_ite (fun _ => fanSafe_tmsSet h rfl) fun _ => fanSafe_tmsFail h

theorem fanSafe_tmsFailedValid {ch : Channel} {raw : Int} {s : State} (h : s.fanSafe) : (tmsFailedValid ch raw s).fanSafe :=
  fanSafe_ite (fun _ => fanSafe_tmsSet h rfl) fun _ => fanSafe_tmsRecover (fanSafe_tmsSet h rfl)

theorem fanSafe_tmsReading {ch : Channel} {raw : Int} {s : State} (h : s.fanSafe) : (tmsReading ch raw s).fanSafe := by
  have hlatest := fanSafe_tmsLatest (ch := ch) (raw := raw) h
  unfold tmsReading
  simp only
  generalize tmsLatest ch raw s = m at hlatest ⊢
  split
  case h_1 => exact fanSafe_tmsValid hlatest
  case h_2 | h_3 => exact fanSafe_tmsInvalid hlatest
  case h_4 => exact fanSafe_tmsFailedValid hlatest
  case h_5 | h_6 => exact fanSafe_tmsSet hlatest rfl

theorem fanSafe_tmsPair {s : State} (h : s.fanSafe) : (tmsPair s).fanSafe := by
  have hcounts : (tmsCounts s).fanSafe := fanSafe_of_kept h (by simp)
  exact fanSafe_iteSelf h fun _ => fanSafe_ite (fun _ => fanSafe_prtRaise hcounts) fun _ =>
    fanSafe_iteSelf hcounts fun _ => fanSafe_prtGone hcounts

theorem fanSafe_tmsHot {s : State} (h : s.fanSafe) : (tmsHot s).fanSafe :=
  fanSafe_iteSelf h fun _ => fanSafe_ite (fun _ => fanSafe_prtRaise h) fun _ => h

theorem fanSafe_tmsComplete {ch : Channel} {raw : Int} {s : State} (h : s.fanSafe) : (tmsComplete ch raw s).fanSafe := by
  refine fanSafe_iteSelf h fun _ => ?_
  have hreading : (tmsReading ch raw (s.modTms fun t => { t with due := nextDue ch })).fanSafe := fanSafe_tmsReading h
  cases ch
  case a => exact hreading
  case b => exact fanSafe_tmsPair hreading
  case l => exact fanSafe_tmsHot hreading

theorem fanSafe_prtSecond {s : State} (h : s.fanSafe) : (prtSecond s).fanSafe :=
  fanSafe_iteSelf h fun _ => fanSafe_ite (fun _ => h) fun _ => fanSafe_unlockExam h

/-! ## DRV (R91 to R103) -/

theorem fanSafe_drvOverCheck {measured expected : Nat} {s : State} (h : s.fanSafe) :
    (drvOverCheck measured expected s).fanSafe :=
  fanSafe_ite (fun _ => fanSafe_ite (fun _ => fanSafe_prtGone h) fun _ => h) fun _ =>
    fanSafe_ite (fun _ => fanSafe_ite (fun _ => fanSafe_prtRaise h) fun _ => h) fun _ =>
      fanSafe_ite (fun _ => fanSafe_prtGone h) fun _ => h

theorem fanSafe_drvStuckCheck {measured : Nat} {s : State} (h : s.fanSafe) : (drvStuckCheck measured s).fanSafe := by
  have hgone : (if s.drv.stuckPresent ∧ measured ≤ 10 then
      prtGone .driveStuck (s.modDrv fun d => { d with stuckPresent := false }) else s).fanSafe :=
    fanSafe_iteSelf h fun _ => fanSafe_prtGone h
  unfold drvStuckCheck
  dsimp only
  generalize (if s.drv.stuckPresent ∧ measured ≤ 10 then _ else s) = m at hgone ⊢
  exact fanSafe_iteSelf hgone fun _ =>
    fanSafe_ite (fun _ => fanSafe_ite (fun _ => fanSafe_prtRaise hgone) fun _ => hgone) fun _ => hgone

theorem fanSafe_drvLowCheck {measured expected : Nat} {s : State} (h : s.fanSafe) :
    (drvLowCheck measured expected s).fanSafe :=
  fanSafe_iteSelf h fun _ => fanSafe_ite (fun _ => fanSafe_ite (fun _ => fanSafe_prtRaise h) fun _ => h) fun _ =>
    fanSafe_of_kept h (by simp)

theorem fanSafe_drvComplete {s : State} (h : s.fanSafe) : (drvComplete s).fanSafe :=
  fanSafe_drvLowCheck (fanSafe_drvStuckCheck (fanSafe_drvOverCheck h))

theorem fanSafe_drvBegin {s : State} (h : s.fanSafe) : (drvBegin s).fanSafe := fanSafe_of_kept h (by simp)

theorem fanSafe_drvBoundary {sample : Nat} {s : State} (h : s.fanSafe) : (drvBoundary sample s).fanSafe :=
  fanSafe_ite (fun _ => fanSafe_drvBegin (fanSafe_drvComplete h)) fun _ =>
    fanSafe_ite (fun _ => fanSafe_drvBegin h) fun _ => h

theorem fanSafe_drvZeroCross {sample : Nat} {s : State} (h : s.fanSafe) : (drvZeroCross sample s).fanSafe := by
  have hback : (drvMainsBack (s.modDrv fun d => { d with absence := 0, mainsTimer := none, state := .running })).fanSafe :=
    fanSafe_of_kept h (by simp)
  exact fanSafe_ite (fun _ => fanSafe_drvBoundary hback) fun _ => fanSafe_drvBegin hback

theorem fanSafe_drvMainsAbsent {s : State} (h : s.fanSafe) : (drvMainsAbsent s).fanSafe :=
  fanSafe_ite (fun _ => fanSafe_prtAction h) fun _ => fanSafe_prtRaise h

/-! ## BLI and PTB (R105 to R135) -/

theorem fanSafe_bliReliability {s : State} (h : s.fanSafe) : (bliReliability s).fanSafe :=
  fanSafe_ite (fun _ => fanSafe_shrAddCause (fanSafe_of_kept h (by simp))) fun _ =>
    fanSafe_iteSelf h fun _ => fanSafe_of_kept h (by simp)

theorem fanSafe_bliGood {s : State} (h : s.fanSafe) : (bliGood s).fanSafe := by
  have hreliable : (bliReliability (s.modBli fun b => { b with errors := b.errors - 1 })).fanSafe := fanSafe_bliReliability h
  exact fanSafe_of_kept hreliable (by simp [bliGood])

theorem fanSafe_bliConflict {s : State} (h : s.fanSafe) : (bliConflict s).fanSafe :=
  fanSafe_ite (fun _ => h) fun _ => fanSafe_shrAddCause (fanSafe_prtRaise h)

theorem fanSafe_bliStuck {s : State} (h : s.fanSafe) : (bliStuck s).fanSafe :=
  fanSafe_shrAddCause (fanSafe_prtRaise (fanSafe_of_kept h (by simp)))

theorem fanSafe_bliHeld {s : State} (h : s.fanSafe) : (bliHeld s).fanSafe :=
  fanSafe_ite (fun _ => h) fun _ => fanSafe_shrAddCause (fanSafe_of_kept h (by simp))

theorem fanSafe_bliHeldExpiry {own : Bool} {s : State} (h : s.fanSafe) : (bliHeldExpiry own s).fanSafe :=
  fanSafe_ite (fun _ => fanSafe_ite (fun _ => h) fun _ => fanSafe_bliStuck h) fun _ => fanSafe_bliHeld h

theorem fanSafe_bliSilent {s : State} (h : s.fanSafe) : (bliSilent s).fanSafe :=
  fanSafe_iteSelf h fun _ => fanSafe_shrAddCause (fanSafe_of_kept h (by simp))

theorem fanSafe_ptbInsert {f : Frame} {s : State} (h : s.fanSafe) : (ptbInsert f s).fanSafe :=
  fanSafe_ite (fun _ => fanSafe_of_kept h (by simp)) fun _ =>
    fanSafe_ite (fun _ => h) fun _ => fanSafe_shrAddCause (fanSafe_of_kept h (by simp))

theorem fanSafe_ptbTake {f : Frame} {s : State} (h : s.fanSafe) : (ptbTake f s).fanSafe := by
  refine fanSafe_iteSelf h fun _ => ?_
  split
  · exact fanSafe_of_kept h (by simp)
  · exact h
  · exact fanSafe_of_kept h (by simp)
  · exact fanSafe_ptbInsert h

theorem fanSafe_bliGoodFrame {f : Frame} {s : State} (h : s.fanSafe) : (bliGoodFrame f s).fanSafe :=
  fanSafe_ite (fun _ => h) fun _ =>
    fanSafe_ite (fun _ => fanSafe_bliConflict (fanSafe_bliGood h)) fun _ => fanSafe_ptbTake (fanSafe_bliGood h)

theorem fanSafe_bliReceive {nbits : Nat} {bits : BitVec 64} {s : State} (h : s.fanSafe) :
    (bliReceive nbits bits s).fanSafe := by
  have hclassed : (bliClassed (classify nbits bits) s).fanSafe := by
    cases classify nbits bits
    case good => exact fanSafe_bliGoodFrame h
    case cutShort | checkFailed | invalidCode => exact fanSafe_bliReliability h
  exact hclassed

/-! ## SHR's timers (R139, R146, R151, R152) -/

theorem fanSafe_shrListenExpiry {s : State} (h : s.fanSafe) : (shrListenExpiry s).fanSafe := by
  have hshares : (shrEvaluate (shrRecord (s.modShr fun u => { u with state := .sharing, listenTimer := none }))).fanSafe :=
    fanSafe_of_kept h (by simp)
  exact fanSafe_iteSelf h fun _ => fanSafe_iteSelf hshares fun _ => fanSafe_shrTakeRequest hshares

theorem fanSafe_shrClaimExpiry {s : State} (h : s.fanSafe) : (shrClaimExpiry s).fanSafe :=
  fanSafe_iteSelf h fun _ => fanSafe_of_kept h (by simp [shrSettle])

theorem fanSafe_shrSlotExpiry {s : State} (h : s.fanSafe) : (shrSlotExpiry s).fanSafe :=
  fanSafe_iteSelf h fun _ => fanSafe_ite (fun _ => fanSafe_shrHold h) fun _ => fanSafe_of_kept h (by simp)

theorem fanSafe_shrBackOffExpiry {s : State} (h : s.fanSafe) : (shrBackOffExpiry s).fanSafe :=
  fanSafe_iteSelf h fun _ => fanSafe_shrTakeRequest h

end Sys2Proof.Machine
end

section
/-! CERTIFICATE. The law of the fan (R82, R83) under the rows of the table, a millisecond and a step. -/

namespace Sys2Proof.Machine

/-! ## The link commands (R4 to R8, R16, R17, R172 to R178) -/

theorem fanSafe_linkOpen {params : Nat} {s : State} (h : s.fanSafe) : (linkOpen params s).fanSafe :=
  fanSafe_of_kept h (by simp)

theorem fanSafe_linkAnswer {c : ResultCode} {bytes : List Byte} {s : State} (h : s.fanSafe) :
    (linkAnswer c bytes s).fanSafe := h

/-- A command keeps the law where its effect does; a refused one has none (R172). -/
theorem fanSafe_linkCommand {params n : Nat} {f : State → State} {s : State} (h : s.fanSafe)
    (hf : ∀ t : State, t.fanSafe → (f t).fanSafe) : (linkCommand params n f s).fanSafe :=
  fanSafe_ite (fun _ => fanSafe_linkAnswer (fanSafe_linkOpen h)) fun _ => hf _ (fanSafe_linkOpen h)

/-- Before commit the items in force are the defaults, whatever is stored (R173). -/
theorem fanSafe_storeItem {i : Item} {v : Nat} {s : State} (h : s.fanSafe) (hc : ¬ s.alk.committed = true) :
    (storeItem i v s).fanSafe := by
  obtain ⟨hlevel, hcommit⟩ := h
  have hcfg : (storeItem i v s).cfg .fh = s.cfg .fh := by simp [State.cfg, storeItem, hc]
  refine ⟨?_, hcommit⟩
  unfold State.fanLevel State.phaseLevel
  rw [hcfg]
  exact hlevel

theorem fanSafe_configPut {item : Byte} {value : Half} {s : State} (h : s.fanSafe) : (configPut item value s).fanSafe := by
  unfold configPut
  split
  · exact h
  · exact fanSafe_ite (fun _ => h) fun hc => fanSafe_storeItem h hc

/-- The commit brings the stored items into force; the phase that reads one of them is reached after it (R4, R83, R175). -/
theorem fanSafe_frozen {s : State} (h : s.fanSafe) (hc : ¬ s.alk.committed = true) :
    (s.modAlk fun a => { a with committed := true }).fanSafe := by
  obtain ⟨hlevel, hcommit⟩ := h
  have hp : s.cyc.phase ≠ .heating := fun hp => hc (hcommit (.inr hp))
  refine ⟨?_, fun _ => rfl⟩
  have hsame : (s.modAlk fun a => { a with committed := true }).phaseLevel = s.phaseLevel := by
    simp only [State.phaseLevel, State.modAlk_cyc]
    cases hphase : s.cyc.phase
    case heating => exact absurd hphase hp
    case idle | locking | cooling | unlocking | held | tripped => rfl
  exact hlevel.trans (congrArg (fun n => if s.tms.zoneOverride then 100 else n) hsame.symm)

theorem fanSafe_shrCommit {s : State} (h : s.fanSafe) : (shrCommit s).fanSafe :=
  fanSafe_ite (fun _ => fanSafe_shrRecord h) fun _ => fanSafe_shrEnterFallback (fanSafe_shrRecord h)

theorem fanSafe_cycCommit {s : State} (h : s.fanSafe) : (cycCommit s).fanSafe :=
  fanSafe_iteSelf h fun _ => fanSafe_cycSetPhase (s := cycClearRecord .interrupted s) h (by simp)

theorem fanSafe_commitAll {s : State} (h : s.fanSafe) (hc : ¬ s.alk.committed = true) : (commitAll s).fanSafe := by
  have hbli : (bliCommit (alkLines (s.modAlk fun a => { a with committed := true }))).fanSafe :=
    fanSafe_of_kept (fanSafe_frozen h hc) (by simp)
  have hexam := fanSafe_unlockExam (fanSafe_tmsCeiling (fanSafe_cycCommit (fanSafe_shrCommit hbli)))
  unfold commitAll
  simp only
  exact fanSafe_alkRecord hexam

theorem fanSafe_configCommit {s : State} (h : s.fanSafe) : (configCommit s).fanSafe := by
  refine fanSafe_ite (fun _ => h) fun hc => ?_
  split
  · exact h
  · exact fanSafe_linkAnswer (fanSafe_commitAll h hc)

theorem fanSafe_profileSeek {index mode : Byte} {s : State} (h : s.fanSafe) : (profileSeek index mode s).fanSafe := by
  unfold profileSeek
  split
  · exact h
  · exact fanSafe_ite (fun _ => h) fun _ => h

theorem fanSafe_profilePut {word : Half} {s : State} (h : s.fanSafe) : (profilePut word s).fanSafe :=
  fanSafe_ite (fun _ => h) fun _ => fanSafe_ite (fun _ => h) fun _ => fanSafe_ite (fun _ => h) fun _ =>
    fanSafe_linkAnswer (fanSafe_of_kept h (by simp))

theorem fanSafe_profileGet {s : State} (h : s.fanSafe) : (profileGet s).fanSafe :=
  fanSafe_ite (fun _ => h) fun _ => fanSafe_ite (fun _ => h) fun _ => fanSafe_linkAnswer (fanSafe_of_kept h (by simp))

theorem committed_of_startRefusal_none {s : State} (h : s.startRefusal = none) : s.alk.committed = true := by
  by_contra hc
  rw [s.startRefusal_eq, if_pos (by simpa using hc)] at h
  cases h

/-- START enters LOCKING after commit alone (R4). -/
theorem fanSafe_startCycle {s : State} (h : s.fanSafe) : (startCycle s).fanSafe := by
  unfold startCycle
  split
  · exact h
  · next hnone =>
    exact fanSafe_linkAnswer (fanSafe_lckLock
      (fanSafe_cycSetPhase (s := cycClearRecord .none s) h fun _ => committed_of_startRefusal_none hnone))

theorem fanSafe_abortCycle {s : State} (h : s.fanSafe) : (abortCycle s).fanSafe := by
  cases hp : s.cyc.phase <;> simp only [abortCycle, hp]
  case heating => exact fanSafe_linkAnswer (fanSafe_cycLeaveHeating (s := cycOutcome .aborted s) h (by simp))
  case locking | idle | cooling | tripped | unlocking | held => exact h

theorem fanSafe_prtRemove {classes : List FaultClass} {s : State} (h : s.fanSafe) : (prtRemove classes s).fanSafe := by
  obtain ⟨a, heq, hitems, hcommitted, -⟩ := prtRemove_eq classes s
  rw [heq]
  exact fanSafe_of_kept h (by simp [hitems, hcommitted])

theorem fanSafe_cycMoveOn {s : State} (h : s.fanSafe) : (cycMoveOn s).fanSafe :=
  fanSafe_ite (fun _ => fanSafe_ite (fun _ => fanSafe_cycSetPhase (fanSafe_of_kept h (by simp)) (by simp)) fun _ =>
    fanSafe_cycSetPhase h (by simp)) fun _ => fanSafe_cycSetPhase h (by simp)

theorem fanSafe_clearFaults {s : State} (h : s.fanSafe) : (clearFaults s).fanSafe :=
  fanSafe_ite (fun _ => fanSafe_ite (fun _ => h) fun _ => fanSafe_ite (fun _ => h) fun _ =>
    fanSafe_linkAnswer (fanSafe_cycMoveOn (fanSafe_prtRemove h))) fun _ => fanSafe_linkAnswer (fanSafe_prtRemove h)

theorem fanSafe_eventRead {s : State} (h : s.fanSafe) : (eventRead s).fanSafe := by
  unfold eventRead
  split
  · exact h
  · exact h

theorem fanSafe_peerForget {station : Byte} {s : State} (h : s.fanSafe) : (peerForget station s).fanSafe := by
  refine fanSafe_ite (fun _ => h) fun _ => ?_
  split
  · exact h
  · split
    · exact h
    · exact fanSafe_linkAnswer (fanSafe_of_kept h (by simp))

theorem fanSafe_stationReset {s : State} (h : s.fanSafe) : (stationReset s).fanSafe :=
  fanSafe_ite (fun _ => fanSafe_linkAnswer (fanSafe_of_kept h (by simp))) fun _ => h

/-- A reset leaves IDLE with the fan off and no override (R1, R73). -/
theorem fanSafe_resetAll (cause : ResetCause) (s : State) : (resetAll cause s).fanSafe :=
  ⟨rfl, by simp [resetAll, Cyc.reset]⟩

theorem fanSafe_stationResetDone {s : State} (h : s.fanSafe) : (stationResetDone s).fanSafe := by
  unfold stationResetDone
  split
  · exact fanSafe_resetAll _ s
  · exact h

/-! ## The seconds, the ramp engine and the regulator (R14, R30 to R42, R75 to R88) -/

theorem fanSafe_cycSecond {s : State} (h : s.fanSafe) : (cycSecond s).fanSafe :=
  fanSafe_ite (fun _ => fanSafe_alkRecord h) fun _ => h

theorem fanSafe_rampJudge {s : State} (h : s.fanSafe) : (rampJudge s).fanSafe :=
  fanSafe_ite (fun _ => fanSafe_rampBegin (fanSafe_prtGone h)) fun _ => fanSafe_iteSelf h fun _ => fanSafe_prtRaise h

theorem fanSafe_holdJudge {s : State} (h : s.fanSafe) : (holdJudge s).fanSafe :=
  fanSafe_ite (fun _ => fanSafe_alkRecord h) fun _ => fanSafe_iteSelf h fun _ => fanSafe_rampBegin h

theorem fanSafe_rampTime {s : State} (h : s.fanSafe) : (rampTime s).fanSafe := fanSafe_ite (fun _ => h) fun _ => h

theorem fanSafe_rampAdvance {s : State} (h : s.fanSafe) : (rampAdvance s).fanSafe :=
  fanSafe_ite (fun _ => fanSafe_rampTime h) fun _ => fanSafe_rampTime h

theorem fanSafe_slotWaitStep {s : State} (h : s.fanSafe) : (slotWaitStep s).fanSafe :=
  fanSafe_ite (fun _ => fanSafe_prtRaise h) fun _ => h

theorem fanSafe_rampStep {s : State} (h : s.fanSafe) : (rampStep s).fanSafe := by
  have hrearm : (rampRearm s).fanSafe := h
  cases hr : s.ramp.state <;> simp only [rampStep, hr]
  case idle | finished => exact h
  case ramping => exact fanSafe_rampJudge (fanSafe_rampAdvance hrearm)
  case holding => exact fanSafe_holdJudge (fanSafe_rampTime hrearm)
  case waitingSlot => exact fanSafe_slotWaitStep hrearm

theorem fanSafe_regEvaluate {s : State} (h : s.fanSafe) : (regEvaluate s).fanSafe :=
  fanSafe_of_kept h (by simp [regEvaluate, regSet])

/-- The cooling rule's new level moves the fan with it (R87). -/
theorem fanSafe_regCoolExpiry {s : State} (h : s.fanSafe) : (regCoolExpiry s).fanSafe :=
  fanSafe_regFan (by simpa using committed_of_fanSafe h)

/-! ## Every row of the table -/

theorem fanSafe_onlyWhen {p : State → State → Bool} {f : State → State} {s : State} (h : s.fanSafe)
    (hf : (f s).fanSafe) : (onlyWhen p f s).fanSafe := fanSafe_iteSelf h fun _ => hf

theorem fanSafe_bliComplete {s : State} (h : s.fanSafe) : (bliComplete s).fanSafe := by
  unfold bliComplete
  split
  · exact fanSafe_of_kept h (by simp)
  · exact h

theorem fanSafe_bliAttempt {s : State} (h : s.fanSafe) : (bliAttempt s).fanSafe := by
  unfold bliAttempt
  split
  · exact fanSafe_iteSelf h fun _ => fanSafe_of_kept h (by simp)
  · exact h

theorem fanSafe_bliDepartExpiry {s : State} (h : s.fanSafe) : (bliDepartExpiry s).fanSafe := by
  have hcut : (bliCutOff s).fanSafe := fanSafe_ite (fun _ => h) fun _ => h
  exact fanSafe_iteSelf h fun _ => fanSafe_of_kept hcut (by simp)

theorem fanSafe_ptbLapse {station : Nat} {s : State} (h : s.fanSafe) : (ptbLapse station s).fanSafe := by
  unfold ptbLapse
  split
  · exact h
  · split
    · exact h
    · exact fanSafe_of_kept h (by simp)

/-- Each row of the table keeps the law of the fan. -/
theorem exec_fanSafe (i : Instr) {s : State} (h : s.fanSafe) : ∃ t, exec i s = .next t ∧ t.fanSafe := by
  cases i
  case powerOnReset | resetn => exact ⟨_, rfl, fanSafe_resetAll _ s⟩
  case readStatus | readTemps | readShare | readPeer | readCycle | readFaults | configGet | badCommand =>
    exact ⟨_, rfl, fanSafe_linkAnswer (fanSafe_linkOpen h)⟩
  case configPut => exact ⟨_, rfl, fanSafe_linkCommand h fun _ => fanSafe_configPut⟩
  case configCommit => exact ⟨_, rfl, fanSafe_takeEvent (fanSafe_linkCommand h fun _ => fanSafe_configCommit)⟩
  case profileSeek => exact ⟨_, rfl, fanSafe_linkCommand h fun _ => fanSafe_profileSeek⟩
  case profilePut => exact ⟨_, rfl, fanSafe_linkCommand h fun _ => fanSafe_profilePut⟩
  case profileGet => exact ⟨_, rfl, fanSafe_profileGet (fanSafe_linkOpen h)⟩
  case start => exact ⟨_, rfl, fanSafe_takeEvent (fanSafe_linkCommand h fun _ => fanSafe_startCycle)⟩
  case abort => exact ⟨_, rfl, fanSafe_takeEvent (fanSafe_linkCommand h fun _ => fanSafe_abortCycle)⟩
  case clear => exact ⟨_, rfl, fanSafe_takeEvent (fanSafe_linkCommand h fun _ => fanSafe_clearFaults)⟩
  case eventRead => exact ⟨_, rfl, fanSafe_eventRead (fanSafe_linkOpen h)⟩
  case peerForget => exact ⟨_, rfl, fanSafe_takeEvent (fanSafe_linkCommand h fun _ => fanSafe_peerForget)⟩
  case stationReset => exact ⟨_, rfl, fanSafe_linkCommand h fun _ => fanSafe_stationReset⟩
  case stationResetDone => exact ⟨_, rfl, fanSafe_stationResetDone h⟩
  case csnRise => exact ⟨_, rfl, fanSafe_of_kept h (by simp)⟩
  case secondsTick | glitch => exact ⟨_, rfl, h⟩
  case cycleSecond => exact ⟨_, rfl, fanSafe_cycSecond h⟩
  case coolSlow => exact ⟨_, rfl, fanSafe_onlyWhen h (fanSafe_cycSecond h)⟩
  case rampStep => exact ⟨_, rfl, fanSafe_takeEvent (fanSafe_rampStep h)⟩
  case holdComplete | segmentRestart | heatTimeout | slotTimeout =>
    exact ⟨_, rfl, fanSafe_iteSelf h fun _ => fanSafe_takeEvent (fanSafe_rampStep h)⟩
  case heatingEvaluation => exact ⟨_, rfl, fanSafe_iteSelf h fun _ => fanSafe_takeEvent (fanSafe_regEvaluate h)⟩
  case coolingRuleExpiry => exact ⟨_, rfl, fanSafe_iteSelf h fun _ => fanSafe_regCoolExpiry h⟩
  case switchEdge => exact ⟨_, rfl, fanSafe_lckEdge h⟩
  case switchDebounced => exact ⟨_, rfl, fanSafe_takeEvent (fanSafe_lckDebounced h)⟩
  case lockDriveExpiry => exact ⟨_, rfl, fanSafe_takeEvent (fanSafe_lckDriveExpiry h)⟩
  case seatEnd => exact ⟨_, rfl, fanSafe_takeEvent (fanSafe_lckSeatEnd h)⟩
  case lockBackDriveEnd | unlockBackDriveEnd => exact ⟨_, rfl, fanSafe_iteSelf h fun _ => h⟩
  case lockPauseEnd => exact ⟨_, rfl, fanSafe_iteSelf h fun _ => fanSafe_of_kept h (by simp [lckRetry])⟩
  case unlockDriveExpiry => exact ⟨_, rfl, fanSafe_takeEvent (fanSafe_lckUnlockExpiry h)⟩
  case clearanceEnd => exact ⟨_, rfl, fanSafe_takeEvent (fanSafe_lckClearanceEnd h)⟩
  case unlockPauseEnd => exact ⟨_, rfl, fanSafe_takeEvent (fanSafe_lckUnlockPause h)⟩
  case conversionCompletion => exact ⟨_, rfl, fanSafe_takeEvent (fanSafe_tmsComplete h)⟩
  case channelFailure | channelRecovery | sensorDisagree | disagreeConditionGone | latchHot =>
    exact ⟨_, rfl, fanSafe_onlyWhen h (fanSafe_takeEvent (fanSafe_tmsComplete h))⟩
  case blindCoolTick => exact ⟨_, rfl, fanSafe_takeEvent (fanSafe_prtSecond h)⟩
  case zeroCross => exact ⟨_, rfl, fanSafe_takeEvent (fanSafe_drvZeroCross h)⟩
  case windowComplete => exact ⟨_, rfl, fanSafe_iteSelf h fun _ => fanSafe_takeEvent (fanSafe_drvZeroCross h)⟩
  case elementOvercurrent | driveStuck | elementLow =>
    exact ⟨_, rfl, fanSafe_onlyWhen h (fanSafe_takeEvent (fanSafe_drvZeroCross h))⟩
  case mainsSuspend => exact ⟨_, rfl, fanSafe_iteSelf h fun _ => fanSafe_of_kept h (by simp)⟩
  case mainsAbsent => exact ⟨_, rfl, fanSafe_iteSelf h fun _ => fanSafe_takeEvent (fanSafe_drvMainsAbsent h)⟩
  case attemptBegin => exact ⟨_, rfl, fanSafe_bliAttempt h⟩
  case attemptLost => exact ⟨_, rfl, fanSafe_iteSelf h fun _ => fanSafe_of_kept h (by simp)⟩
  case attemptComplete => exact ⟨_, rfl, fanSafe_takeEvent (fanSafe_bliComplete h)⟩
  case periodExpiry => exact ⟨_, rfl, fanSafe_iteSelf h fun _ => fanSafe_of_kept h (by simp)⟩
  case departureTimeout => exact ⟨_, rfl, fanSafe_bliDepartExpiry h⟩
  case frameReceived => exact ⟨_, rfl, fanSafe_takeEvent (fanSafe_bliReceive h)⟩
  case unreliable => exact ⟨_, rfl, fanSafe_onlyWhen h (fanSafe_takeEvent (fanSafe_bliReceive h))⟩
  case lineHeld => exact ⟨_, rfl, fanSafe_takeEvent (fanSafe_bliHeldExpiry h)⟩
  case lineIdle => exact ⟨_, rfl, fanSafe_takeEvent (fanSafe_of_kept h (by simp))⟩
  case silent => exact ⟨_, rfl, fanSafe_takeEvent (fanSafe_bliSilent h)⟩
  case peerLapsed => exact ⟨_, rfl, fanSafe_takeEvent (fanSafe_ptbLapse h)⟩
  case listenExpiry => exact ⟨_, rfl, fanSafe_takeEvent (fanSafe_shrListenExpiry h)⟩
  case claimSettle => exact ⟨_, rfl, fanSafe_takeEvent (fanSafe_shrClaimExpiry h)⟩
  case slotSettle => exact ⟨_, rfl, fanSafe_takeEvent (fanSafe_shrSlotExpiry h)⟩
  case slotBackoffExpiry => exact ⟨_, rfl, fanSafe_takeEvent (fanSafe_shrBackOffExpiry h)⟩

/-! ## A millisecond and a step -/

theorem fanSafe_takeDue {i : Instr} {s : State} (h : s.fanSafe) : (takeDue s i).fanSafe := by
  obtain ⟨t, hexec, ht⟩ := exec_fanSafe i h
  simpa only [takeDue, hexec] using fanSafe_iteSelf h fun _ => ht

/-- The rows of a millisecond, in whatever order the draws give them (log 3). -/
theorem fanSafe_foldl_takeDue (rows : List Instr) {s : State} (h : s.fanSafe) : (rows.foldl takeDue s).fanSafe := by
  induction rows generalizing s with
  | nil => exact h
  | cons i rows ih =>
    rw [List.foldl_cons]
    exact ih (fanSafe_takeDue h)

theorem fanSafe_draws {n : Nat} {s : State} (h : s.fanSafe) : ({ s with draws := n } : State).fanSafe := h

/-- Only timers, the line and the draws move with the millisecond itself. -/
theorem fanSafe_tick {s : State} (h : s.fanSafe) : (tick s).fanSafe := by
  have hmoved : (advanceMs s).fanSafe := h
  unfold tick
  simp only
  generalize advanceMs s = m at hmoved ⊢
  exact fanSafe_foldl_takeDue _ (fanSafe_draws hmoved)

/-- Settles O8: every row keeps the law, so a millisecond and a step do. -/
theorem fanLawKept : Obligations.FanLawKept := by
  intro s t h hstep
  unfold step at hstep
  split at hstep
  · exact Host.Outcome.next.inj hstep ▸ fanSafe_tick h
  · next i rest _ =>
    obtain ⟨u, hexec, hu⟩ := exec_fanSafe i (s := s.setPending rest) h
    exact Host.Outcome.next.inj (hexec.symm.trans hstep) ▸ hu

end Sys2Proof.Machine
end

section
/-! SUPPORT. The law of the drive window (R92): the arithmetic of the on-counts, the window that begins, and the operations
that leave the window and the ratings alone. -/

namespace Sys2Proof.Machine

/-! ## The on-counts (R89, R92) -/

theorem State.ratings_congr {s t : State} (hcommitted : t.alk.committed = s.alk.committed)
    (hitems : t.alk.items = s.alk.items) : t.ratings = s.ratings := by
  simp only [State.ratings, State.cfg_congr hitems hcommitted]

theorem State.committedCurrent_congr {s t : State} (hcommitted : t.alk.committed = s.alk.committed)
    (hitems : t.alk.items = s.alk.items) (n : PerElement Nat) : t.committedCurrent n = s.committedCurrent n := by
  simp only [State.committedCurrent, State.ratings_congr hcommitted hitems]

theorem PerElement.sum_eq_zero {p : PerElement Nat} (h : p.sum = 0) : p = PerElement.all 0 := by
  obtain ⟨e0, e1, e2, e3⟩ := p
  simp only [PerElement.sum, Nat.add_eq_zero_iff] at h
  obtain ⟨⟨⟨rfl, rfl⟩, rfl⟩, rfl⟩ := h
  rfl

/-- A window with every output off commits no current, whatever the ratings. -/
theorem committedCurrent_of_allOff {n : PerElement Nat} (h : n.sum = 0) (s : State) : s.committedCurrent n = 0 := by
  simp [PerElement.sum_eq_zero h, State.committedCurrent, PerElement.zip, PerElement.all, PerElement.sum]

/-- An element draws at most its weighted share of the grant: neither the flooring nor the cap rounds up. -/
theorem onCount_mul_le (ig total rating weight : Nat) :
    onCount ig total rating weight * rating * total ≤ 64 * ig * (rating * weight) := by
  unfold onCount
  split_ifs
  · calc min 64 (64 * ig * weight / total) * rating * total
        ≤ 64 * ig * weight / total * rating * total := by gcongr; exact min_le_right _ _
      _ = 64 * ig * weight / total * total * rating := by ring
      _ ≤ 64 * ig * weight * rating := Nat.mul_le_mul_right _ (Nat.div_mul_le_self _ _)
      _ = 64 * ig * (rating * weight) := by ring
  · simp

/-- Without a weighted sum no element is driven. -/
theorem onCount_of_total_zero (ig rating weight : Nat) : onCount ig 0 rating weight = 0 := by simp [onCount]

theorem sum_zip_le {f g : Nat → Nat → Nat} (h : ∀ i w, f i w ≤ g i w) (p q : PerElement Nat) :
    (PerElement.zip f p q).sum ≤ (PerElement.zip g p q).sum :=
  Nat.add_le_add (Nat.add_le_add (Nat.add_le_add (h _ _) (h _ _)) (h _ _)) (h _ _)

/-- R92's bound: the shares add up to at most the whole grant. -/
theorem committedCurrent_onCounts_le (s : State) (ig : Nat) : s.committedCurrent (s.onCounts ig) ≤ 64 * ig := by
  rcases Nat.eq_zero_or_pos (weightedSum s.ratings s.weights) with htotal | htotal
  · simp [State.committedCurrent, State.onCounts, htotal, onCount_of_total_zero, PerElement.zip, PerElement.sum]
  · refine Nat.le_of_mul_le_mul_right ?_ htotal
    calc s.committedCurrent (s.onCounts ig) * weightedSum s.ratings s.weights
        = (PerElement.zip (fun i w => onCount ig (weightedSum s.ratings s.weights) i w * i *
            weightedSum s.ratings s.weights) s.ratings s.weights).sum := by
          simp only [State.committedCurrent, State.onCounts, PerElement.zip, PerElement.sum, add_mul]
      _ ≤ (PerElement.zip (fun i w => 64 * ig * (i * w)) s.ratings s.weights).sum :=
          sum_zip_le (onCount_mul_le ig _) _ _
      _ = 64 * ig * weightedSum s.ratings s.weights := by
          simp only [weightedSum, PerElement.zip, PerElement.sum, mul_add]

/-- Before commit every element is absent (R89). -/
theorem onCounts_of_uncommitted {s : State} (h : s.alk.committed = false) (ig : Nat) : (s.onCounts ig).sum = 0 := by
  simp [State.onCounts, State.ratings, State.cfg, h, Item.default, onCount, PerElement.zip, PerElement.sum]

/-! ## The law at a window's beginning, and while a window stands -/

/-- A window with every on-count 0 meets the law, whatever the configuration. -/
theorem windowSafe_of_allOff {s : State} (h : s.drv.window.n.sum = 0) : s.windowSafe :=
  ⟨by simp [committedCurrent_of_allOff h], fun _ => h⟩

/-- A window that begins meets the law whatever stood before: Ig is at most the window's Ho (R92). -/
theorem windowSafe_drvBegin (s : State) : (drvBegin s).windowSafe := by
  have hwindow : (drvBegin s).drv.window = s.newWindow := rfl
  obtain ⟨hho, hig⟩ := newWindow_ho s
  refine ⟨?_, fun hc => ?_⟩
  · rw [State.committedCurrent_congr (s := s) (by simp) (by simp), hwindow, hho]
    exact (committedCurrent_onCounts_le s s.newWindow.ig).trans (Nat.mul_le_mul_left 64 hig)
  · rw [hwindow]
    exact onCounts_of_uncommitted (by simpa using hc) _

/-- `t` has the window and the configuration of `s`. -/
def WindowKept (s t : State) : Prop :=
  t.drv.window = s.drv.window ∧ t.alk.committed = s.alk.committed ∧ t.alk.items = s.alk.items

theorem windowSafe_of_kept {s t : State} (h : s.windowSafe) (hkept : WindowKept s t) : t.windowSafe := by
  obtain ⟨hwindow, hcommitted, hitems⟩ := hkept
  obtain ⟨hbound, hoff⟩ := h
  refine ⟨?_, ?_⟩
  · rwa [State.committedCurrent_congr hcommitted hitems, hwindow]
  · rwa [hcommitted, hwindow]

theorem windowKept_refl (s : State) : WindowKept s s := ⟨rfl, rfl, rfl⟩

theorem windowKept_trans {s t u : State} (h : WindowKept s t) (h' : WindowKept t u) : WindowKept s u := by
  obtain ⟨hwindow, hcommitted, hitems⟩ := h
  obtain ⟨hwindow', hcommitted', hitems'⟩ := h'
  exact ⟨hwindow'.trans hwindow, hcommitted'.trans hcommitted, hitems'.trans hitems⟩

/-- An operation taken under a condition, or nothing. -/
theorem windowKept_iteSelf {c : Prop} [Decidable c] {s t : State} (h : WindowKept s t) :
    WindowKept s (if c then t else s) := by
  split_ifs
  · exact h
  · exact windowKept_refl s

theorem windowKept_onlyWhen {p : State → State → Bool} {f : State → State} {s : State} (h : WindowKept s (f s)) :
    WindowKept s (onlyWhen p f s) := windowKept_iteSelf h

/-- The unlock travel that CYC may ask for in TRIPPED begins no window (R13). -/
@[simp] theorem takeEvent_window (f : State → State) (s : State) : (takeEvent f s).drv.window = (f s).drv.window := by
  rcases takeEvent_cases f s with h | ⟨h, -⟩ <;> simp [h]

theorem windowKept_takeEvent {f : State → State} {s : State} (h : WindowKept s (f s)) : WindowKept s (takeEvent f s) :=
  windowKept_trans h (by simp [WindowKept])

theorem windowSafe_takeEvent {f : State → State} {s : State} (h : (f s).windowSafe) : (takeEvent f s).windowSafe :=
  windowSafe_of_kept h (by simp [WindowKept])

/-! ## The link commands (R4 to R8, R16, R17, R172 to R178) -/

theorem windowKept_linkOpen (params : Nat) (s : State) : WindowKept s (linkOpen params s) := by simp [WindowKept]

theorem windowKept_linkAnswer (c : ResultCode) (bytes : List Byte) (s : State) : WindowKept s (linkAnswer c bytes s) := by
  simp [WindowKept]

/-- A read is answered and acts on nothing (R172). -/
theorem windowKept_answered (c : ResultCode) (bytes : List Byte) (params : Nat) (s : State) :
    WindowKept s (linkAnswer c bytes (linkOpen params s)) :=
  windowKept_trans (windowKept_linkOpen params s) (windowKept_linkAnswer c bytes _)

theorem windowKept_linkCommand {params n : Nat} {f : State → State} (hf : ∀ t, WindowKept t (f t)) (s : State) :
    WindowKept s (linkCommand params n f s) := by
  unfold linkCommand
  split_ifs
  · exact windowKept_answered _ _ _ s
  · exact windowKept_trans (windowKept_linkOpen params s) (hf _)

/-- A command keeps the law where its effect does; a refused one has none (R172). -/
theorem windowSafe_linkCommand {params n : Nat} {f : State → State} {s : State} (h : s.windowSafe)
    (hf : ∀ t : State, t.windowSafe → (f t).windowSafe) : (linkCommand params n f s).windowSafe := by
  unfold linkCommand
  split_ifs
  · exact windowSafe_of_kept h (windowKept_answered _ _ _ s)
  · exact hf _ (windowSafe_of_kept h (windowKept_linkOpen params s))

/-- Before commit nothing is switched on, so an item may change (R89, R173). -/
theorem windowSafe_configPut {item : Byte} {value : Half} {s : State} (h : s.windowSafe) :
    (configPut item value s).windowSafe := by
  obtain ⟨-, hoff⟩ := id h
  unfold configPut
  split
  · exact windowSafe_of_kept h (windowKept_linkAnswer _ _ s)
  · split_ifs with hc
    · exact windowSafe_of_kept h (windowKept_linkAnswer _ _ s)
    · exact windowSafe_of_allOff (hoff (by simpa using hc))

/-- The commit brings the ratings into force under a window with every on-count 0 (R89, R175). -/
theorem windowSafe_configCommit {s : State} (h : s.windowSafe) : (configCommit s).windowSafe := by
  obtain ⟨-, hoff⟩ := id h
  unfold configCommit
  split_ifs with hc
  · exact windowSafe_of_kept h (windowKept_linkAnswer _ _ s)
  · split
    · exact windowSafe_of_kept h (windowKept_linkAnswer _ _ s)
    · exact windowSafe_of_allOff (by simpa using hoff (by simpa using hc))

theorem windowKept_profileSeek (index mode : Byte) (s : State) : WindowKept s (profileSeek index mode s) := by
  unfold profileSeek
  split
  · exact windowKept_linkAnswer _ _ s
  · split_ifs <;> simp [WindowKept]

theorem windowKept_profilePut (word : Half) (s : State) : WindowKept s (profilePut word s) := by
  unfold profilePut
  split_ifs <;> simp [WindowKept]

theorem windowKept_profileGet (s : State) : WindowKept s (profileGet s) := by
  unfold profileGet
  split_ifs <;> simp [WindowKept]

theorem windowKept_startCycle (s : State) : WindowKept s (startCycle s) := by
  unfold startCycle
  split <;> simp [WindowKept]

theorem windowKept_abortCycle (s : State) : WindowKept s (abortCycle s) := by
  unfold abortCycle
  split <;> simp [WindowKept]

theorem windowKept_prtRemove (classes : List FaultClass) (s : State) : WindowKept s (prtRemove classes s) := by
  obtain ⟨a, heq, hitems, hcommitted, -⟩ := prtRemove_eq classes s
  simp [heq, WindowKept, hitems, hcommitted]

theorem windowKept_clearFaults (s : State) : WindowKept s (clearFaults s) := by
  unfold clearFaults clearTripped clearOther
  split_ifs
  · exact windowKept_linkAnswer _ _ s
  · exact windowKept_linkAnswer _ _ s
  · have hmoved : ∀ t, WindowKept t (linkAnswer .ok [] (cycMoveOn t)) := fun t => by simp [WindowKept]
    exact windowKept_trans (windowKept_prtRemove _ s) (hmoved _)
  · exact windowKept_trans (windowKept_prtRemove _ s) (windowKept_linkAnswer _ _ _)

theorem windowKept_eventRead (s : State) : WindowKept s (eventRead s) := by
  unfold eventRead
  split <;> simp [WindowKept, alkRemove]

theorem windowKept_peerForget (station : Byte) (s : State) : WindowKept s (peerForget station s) := by
  unfold peerForget
  dsimp only
  split_ifs
  · exact windowKept_linkAnswer _ _ s
  · split
    · exact windowKept_linkAnswer _ _ s
    · split <;> simp [WindowKept]

theorem windowKept_stationReset (s : State) : WindowKept s (stationReset s) := by
  unfold stationReset
  split_ifs <;> simp [WindowKept]

/-- A reset leaves a window whose values are all 0 (R90). -/
theorem windowSafe_resetAll (cause : ResetCause) (s : State) : (resetAll cause s).windowSafe := windowSafe_of_allOff rfl

theorem windowSafe_stationResetDone {s : State} (h : s.windowSafe) : (stationResetDone s).windowSafe := by
  unfold stationResetDone
  split
  · exact windowSafe_resetAll _ s
  · exact h

/-! ## The seconds, the ramp engine and the regulator (R14, R30 to R42, R75 to R88) -/

theorem windowKept_cycSecond (s : State) : WindowKept s (cycSecond s) := by
  unfold cycSecond cycCoolSlow
  split_ifs <;> simp [WindowKept, cycCounts]

theorem windowKept_rampTime (s : State) : WindowKept s (rampTime s) := by
  unfold rampTime
  split_ifs <;> simp [WindowKept]

theorem windowKept_rampAdvance (s : State) : WindowKept s (rampAdvance s) := by
  have htime := windowKept_rampTime s
  unfold rampAdvance rampMove
  split_ifs
  · exact htime
  · exact htime

theorem windowKept_rampJudge (s : State) : WindowKept s (rampJudge s) := by
  unfold rampJudge rampNext rampLate
  split_ifs <;> simp [WindowKept]

theorem windowKept_holdJudge (s : State) : WindowKept s (holdJudge s) := by
  unfold holdJudge holdRestart
  split_ifs <;> simp [WindowKept]

theorem windowKept_slotWaitStep (s : State) : WindowKept s (slotWaitStep s) := by
  unfold slotWaitStep
  dsimp only
  split_ifs <;> simp [WindowKept]

theorem windowKept_rampStep (s : State) : WindowKept s (rampStep s) := by
  have hrearm : WindowKept s (rampRearm s) := windowKept_refl s
  cases hr : s.ramp.state <;> simp only [rampStep, hr]
  case idle | finished => exact windowKept_refl s
  case ramping =>
    exact windowKept_trans hrearm (windowKept_trans (windowKept_rampAdvance _) (windowKept_rampJudge _))
  case holding =>
    have hcount : WindowKept (rampRearm s) (holdAdvance (rampRearm s)) := windowKept_rampTime _
    exact windowKept_trans hrearm (windowKept_trans hcount (windowKept_holdJudge _))
  case waitingSlot => exact windowKept_trans hrearm (windowKept_slotWaitStep _)

theorem windowKept_regEvaluate (s : State) : WindowKept s (regEvaluate s) := by simp [WindowKept, regEvaluate, regSet]

theorem windowKept_regCoolExpiry (s : State) : WindowKept s (regCoolExpiry s) := by
  have hmeasured : WindowKept s (regMeasure s) := by
    unfold regMeasure
    split
    · simp [WindowKept]
    · simp [WindowKept]
    · dsimp only
      split_ifs <;> simp [WindowKept]
  exact windowKept_trans hmeasured (by simp [WindowKept, regCoolExpiry])

/-! ## The lock (R43, R49 to R55) -/

theorem windowKept_lckEdge (sw : SwitchId) (level : Bool) (s : State) : WindowKept s (lckEdge sw level s) := by
  unfold lckEdge
  split_ifs <;> simp [WindowKept]

theorem windowKept_lckDriveExpiry (s : State) : WindowKept s (lckDriveExpiry s) := by
  unfold lckDriveExpiry
  split_ifs <;> simp [WindowKept]

theorem windowKept_lckSeatEnd (s : State) : WindowKept s (lckSeatEnd s) := by
  unfold lckSeatEnd
  split_ifs <;> simp [WindowKept, lckLocked]

theorem windowKept_lckUnlockExpiry (s : State) : WindowKept s (lckUnlockExpiry s) := by
  unfold lckUnlockExpiry
  split <;> simp [WindowKept]

theorem windowKept_lckClearanceEnd (s : State) : WindowKept s (lckClearanceEnd s) := by
  unfold lckClearanceEnd
  split <;> simp [WindowKept]

theorem windowKept_lckUnlockPause (s : State) : WindowKept s (lckUnlockPause s) := by
  unfold lckUnlockPause
  split_ifs <;> simp [WindowKept, lckRetry]

/-! ## PRT, BLI, PTB and SHR (R105 to R135, R139, R146, R151, R152, R164) -/

theorem windowKept_prtSecond (s : State) : WindowKept s (prtSecond s) := by
  unfold prtSecond
  dsimp only
  split_ifs <;> simp [WindowKept]

theorem windowKept_bliAttempt (s : State) : WindowKept s (bliAttempt s) := by
  unfold bliAttempt
  split
  · exact windowKept_iteSelf (by simp [WindowKept])
  · exact windowKept_refl s

theorem windowKept_bliComplete (s : State) : WindowKept s (bliComplete s) := by
  unfold bliComplete
  split <;> simp [WindowKept]

theorem windowKept_bliDepartExpiry (s : State) : WindowKept s (bliDepartExpiry s) := by
  unfold bliDepartExpiry bliCutOff
  split_ifs <;> simp [WindowKept]

theorem windowKept_bliHeldExpiry (own : Bool) (s : State) : WindowKept s (bliHeldExpiry own s) := by
  unfold bliHeldExpiry
  split_ifs <;> simp [WindowKept]

theorem windowKept_bliSilent (s : State) : WindowKept s (bliSilent s) := windowKept_iteSelf (by simp [WindowKept])

theorem windowKept_ptbLapse (station : Nat) (s : State) : WindowKept s (ptbLapse station s) := by
  unfold ptbLapse
  split
  · exact windowKept_refl s
  · split <;> simp [WindowKept]

theorem windowKept_shrResume (s : State) : WindowKept s (shrResume s) := windowKept_iteSelf (by simp [WindowKept])

theorem windowKept_shrListenExpiry (s : State) : WindowKept s (shrListenExpiry s) :=
  windowKept_iteSelf (windowKept_trans (by simp [WindowKept]) (windowKept_shrResume _))

theorem windowKept_shrClaimExpiry (s : State) : WindowKept s (shrClaimExpiry s) :=
  windowKept_iteSelf (by simp [WindowKept, shrSettle])

theorem windowKept_shrSlotExpiry (s : State) : WindowKept s (shrSlotExpiry s) := by
  unfold shrSlotExpiry
  split_ifs <;> simp [WindowKept]

theorem windowKept_shrBackOffExpiry (s : State) : WindowKept s (shrBackOffExpiry s) :=
  windowKept_iteSelf (by simp [WindowKept])

/-! ## DRV (R91 to R103) -/

theorem windowKept_drvMainsAbsent (s : State) : WindowKept s (drvMainsAbsent s) := by
  unfold drvMainsAbsent
  dsimp only
  split_ifs <;> simp [WindowKept]

theorem windowKept_crossed (s : State) : WindowKept s (crossed s) := by
  obtain ⟨hitems, hcommitted, -⟩ := crossed_alk s
  exact ⟨by simp [crossed_drv], hcommitted, hitems⟩

/-- A boundary begins a window or leaves the one that runs (R91, R95). -/
theorem windowSafe_drvBoundary {sample : Nat} {s : State} (h : s.windowSafe) : (drvBoundary sample s).windowSafe := by
  unfold drvBoundary
  dsimp only
  split_ifs
  · exact windowSafe_drvBegin _
  · exact windowSafe_drvBegin _
  · exact windowSafe_of_kept h (by simp [WindowKept])

theorem windowSafe_drvZeroCross {sample : Nat} {s : State} (h : s.windowSafe) : (drvZeroCross sample s).windowSafe := by
  rw [drvZeroCross_eq]
  split_ifs
  · exact windowSafe_drvBoundary (windowSafe_of_kept h (windowKept_crossed s))
  · exact windowSafe_drvBegin _

theorem windowSafe_zeroCrossEvent {sample : Nat} {s : State} (h : s.windowSafe) :
    (takeEvent (drvZeroCross sample) s).windowSafe := windowSafe_takeEvent (windowSafe_drvZeroCross h)

/-- A zero-cross that is taken only as the case of a named row. -/
theorem windowSafe_onlyWhen {p : State → State → Bool} {f : State → State} {s : State} (h : s.windowSafe)
    (hf : (f s).windowSafe) : (onlyWhen p f s).windowSafe := by
  rcases onlyWhen_cases p f s with ⟨heq, -⟩ | ⟨heq, -⟩ <;> rw [heq]
  · exact hf
  · exact h

end Sys2Proof.Machine
end

section
/-! CERTIFICATE. The law of the drive window (R92) under the rows of the table, a millisecond and a step. -/

namespace Sys2Proof.Machine

/-- Each row of the table keeps the law of the drive window. -/
theorem exec_windowSafe (i : Instr) {s : State} (h : s.windowSafe) : ∃ t, exec i s = .next t ∧ t.windowSafe := by
  have kept {t : State} (hk : WindowKept s t) : t.windowSafe := windowSafe_of_kept h hk
  have event {f : State → State} (hk : WindowKept s (f s)) : (takeEvent f s).windowSafe := kept (windowKept_takeEvent hk)
  cases i
  case powerOnReset | resetn => exact ⟨_, rfl, windowSafe_resetAll _ s⟩
  case readStatus | readTemps | readShare | readPeer | readCycle | readFaults | configGet | badCommand =>
    exact ⟨_, rfl, kept (windowKept_answered _ _ _ s)⟩
  case configPut => exact ⟨_, rfl, windowSafe_linkCommand h fun _ => windowSafe_configPut⟩
  case configCommit => exact ⟨_, rfl, windowSafe_takeEvent (windowSafe_linkCommand h fun _ => windowSafe_configCommit)⟩
  case profileSeek => exact ⟨_, rfl, kept (windowKept_linkCommand (windowKept_profileSeek _ _) s)⟩
  case profilePut => exact ⟨_, rfl, kept (windowKept_linkCommand (windowKept_profilePut _) s)⟩
  case profileGet => exact ⟨_, rfl, kept (windowKept_trans (windowKept_linkOpen _ s) (windowKept_profileGet _))⟩
  case start => exact ⟨_, rfl, event (windowKept_linkCommand windowKept_startCycle s)⟩
  case abort => exact ⟨_, rfl, event (windowKept_linkCommand windowKept_abortCycle s)⟩
  case clear => exact ⟨_, rfl, event (windowKept_linkCommand windowKept_clearFaults s)⟩
  case eventRead => exact ⟨_, rfl, kept (windowKept_trans (windowKept_linkOpen _ s) (windowKept_eventRead _))⟩
  case peerForget => exact ⟨_, rfl, event (windowKept_linkCommand (windowKept_peerForget _) s)⟩
  case stationReset => exact ⟨_, rfl, kept (windowKept_linkCommand windowKept_stationReset s)⟩
  case stationResetDone => exact ⟨_, rfl, windowSafe_stationResetDone h⟩
  case csnRise | secondsTick | glitch => exact ⟨_, rfl, h⟩
  case cycleSecond => exact ⟨_, rfl, kept (windowKept_cycSecond s)⟩
  case coolSlow => exact ⟨_, rfl, kept (windowKept_onlyWhen (windowKept_cycSecond s))⟩
  case rampStep => exact ⟨_, rfl, event (windowKept_rampStep s)⟩
  case holdComplete | segmentRestart | heatTimeout | slotTimeout =>
    exact ⟨_, rfl, kept (windowKept_iteSelf (windowKept_takeEvent (windowKept_rampStep s)))⟩
  case heatingEvaluation => exact ⟨_, rfl, kept (windowKept_iteSelf (windowKept_takeEvent (windowKept_regEvaluate s)))⟩
  case coolingRuleExpiry => exact ⟨_, rfl, kept (windowKept_iteSelf (windowKept_regCoolExpiry s))⟩
  case switchEdge => exact ⟨_, rfl, kept (windowKept_lckEdge _ _ s)⟩
  case switchDebounced => exact ⟨_, rfl, event (by simp [WindowKept])⟩
  case lockDriveExpiry => exact ⟨_, rfl, event (windowKept_lckDriveExpiry s)⟩
  case seatEnd => exact ⟨_, rfl, event (windowKept_lckSeatEnd s)⟩
  case lockBackDriveEnd | unlockBackDriveEnd => exact ⟨_, rfl, kept (windowKept_iteSelf (windowKept_refl s))⟩
  case lockPauseEnd => exact ⟨_, rfl, kept (windowKept_iteSelf (by simp [WindowKept, lckRetry]))⟩
  case unlockDriveExpiry => exact ⟨_, rfl, event (windowKept_lckUnlockExpiry s)⟩
  case clearanceEnd => exact ⟨_, rfl, event (windowKept_lckClearanceEnd s)⟩
  case unlockPauseEnd => exact ⟨_, rfl, event (windowKept_lckUnlockPause s)⟩
  case conversionCompletion => exact ⟨_, rfl, event (by simp [WindowKept])⟩
  case channelFailure | channelRecovery | sensorDisagree | disagreeConditionGone | latchHot =>
    exact ⟨_, rfl, kept (windowKept_onlyWhen (windowKept_takeEvent (by simp [WindowKept])))⟩
  case blindCoolTick => exact ⟨_, rfl, event (windowKept_prtSecond s)⟩
  case zeroCross => exact ⟨_, rfl, windowSafe_zeroCrossEvent h⟩
  case windowComplete =>
    refine ⟨_, rfl, ?_⟩
    split_ifs
    · exact windowSafe_zeroCrossEvent h
    · exact h
  case elementOvercurrent | driveStuck | elementLow =>
    exact ⟨_, rfl, windowSafe_onlyWhen h (windowSafe_zeroCrossEvent h)⟩
  case mainsSuspend => exact ⟨_, rfl, kept (windowKept_iteSelf (by simp [WindowKept]))⟩
  case mainsAbsent => exact ⟨_, rfl, kept (windowKept_iteSelf (windowKept_takeEvent (windowKept_drvMainsAbsent s)))⟩
  case attemptBegin => exact ⟨_, rfl, kept (windowKept_bliAttempt s)⟩
  case attemptLost | periodExpiry => exact ⟨_, rfl, kept (windowKept_iteSelf (by simp [WindowKept]))⟩
  case attemptComplete => exact ⟨_, rfl, event (windowKept_bliComplete s)⟩
  case departureTimeout => exact ⟨_, rfl, kept (windowKept_bliDepartExpiry s)⟩
  case frameReceived => exact ⟨_, rfl, event (by simp [WindowKept])⟩
  case unreliable => exact ⟨_, rfl, kept (windowKept_onlyWhen (windowKept_takeEvent (by simp [WindowKept])))⟩
  case lineHeld => exact ⟨_, rfl, event (windowKept_bliHeldExpiry _ s)⟩
  case lineIdle => exact ⟨_, rfl, event (by simp [WindowKept])⟩
  case silent => exact ⟨_, rfl, event (windowKept_bliSilent s)⟩
  case peerLapsed => exact ⟨_, rfl, event (windowKept_ptbLapse _ s)⟩
  case listenExpiry => exact ⟨_, rfl, event (windowKept_shrListenExpiry s)⟩
  case claimSettle => exact ⟨_, rfl, event (windowKept_shrClaimExpiry s)⟩
  case slotSettle => exact ⟨_, rfl, event (windowKept_shrSlotExpiry s)⟩
  case slotBackoffExpiry => exact ⟨_, rfl, event (windowKept_shrBackOffExpiry s)⟩

/-! ## A millisecond and a step -/

theorem windowSafe_takeDue {i : Instr} {s : State} (h : s.windowSafe) : (takeDue s i).windowSafe := by
  obtain ⟨t, hexec, ht⟩ := exec_windowSafe i h
  simp only [takeDue, hexec]
  split_ifs
  · exact ht
  · exact h

/-- The rows of a millisecond, in whatever order the draws give them (log 3). -/
theorem windowSafe_foldl_takeDue (rows : List Instr) {s : State} (h : s.windowSafe) :
    (rows.foldl takeDue s).windowSafe := by
  induction rows generalizing s with
  | nil => exact h
  | cons i rows ih =>
    rw [List.foldl_cons]
    exact ih (windowSafe_takeDue h)

theorem windowSafe_draws {n : Nat} {s : State} (h : s.windowSafe) : ({ s with draws := n } : State).windowSafe := h

/-- Only timers, the line and the draws move with the millisecond itself. -/
theorem windowSafe_tick {s : State} (h : s.windowSafe) : (tick s).windowSafe := by
  have hmoved : (advanceMs s).windowSafe := windowSafe_of_kept h (windowKept_refl s)
  unfold tick
  simp only
  generalize advanceMs s = m at hmoved ⊢
  exact windowSafe_foldl_takeDue _ (windowSafe_draws hmoved)

/-- Settles O7: a window begins within R92's bound, and every row, a millisecond and a step keep it. -/
theorem windowLawKept : Obligations.WindowLawKept := by
  intro s t h hstep
  unfold step at hstep
  split at hstep
  · exact Host.Outcome.next.inj hstep ▸ windowSafe_tick h
  · next i rest _ =>
    obtain ⟨u, hexec, hu⟩ := exec_windowSafe i (s := s.setPending rest) h
    exact Host.Outcome.next.inj (hexec.symm.trans hstep) ▸ hu

end Sys2Proof.Machine
end

section
/-! SUPPORT. The end of a drive window (R91, R94, R98 to R101): what stands in DRV through the rest of the event, and the
three checks, an equation for each case that the statements name. -/

namespace Sys2Proof.Machine

/-! ## The window's counts and the last window's currents (R90, R94) -/

@[simp] theorem drvMain_counts (s : State) :
    (drvMain s).drv.position = s.drv.position ∧ (drvMain s).drv.sampleSum = s.drv.sampleSum ∧
      (drvMain s).drv.lastMeasured = s.drv.lastMeasured ∧ (drvMain s).drv.lastExpected = s.drv.lastExpected := by
  unfold drvMain drvLowGone
  split_ifs <;> simp [drvAbandon, drvOutputs]

@[simp] theorem lckSetState_counts (st : LockState) (s : State) :
    (lckSetState st s).drv.position = s.drv.position ∧ (lckSetState st s).drv.sampleSum = s.drv.sampleSum ∧
      (lckSetState st s).drv.lastMeasured = s.drv.lastMeasured ∧
      (lckSetState st s).drv.lastExpected = s.drv.lastExpected := by
  unfold lckSetState
  split_ifs <;> simp

/-- The unlock travel that may end the event leaves the window's values as they are (R13). -/
@[simp] theorem takeEvent_drv (f : State → State) (s : State) :
    (takeEvent f s).drv.state = (f s).drv.state ∧ (takeEvent f s).drv.limited = (f s).drv.limited ∧
      (takeEvent f s).drv.last = (f s).drv.last ∧ (takeEvent f s).drv.position = (f s).drv.position ∧
      (takeEvent f s).drv.sampleSum = (f s).drv.sampleSum ∧
      (takeEvent f s).drv.lastMeasured = (f s).drv.lastMeasured ∧
      (takeEvent f s).drv.lastExpected = (f s).drv.lastExpected ∧
      (takeEvent f s).drv.overPresent = (f s).drv.overPresent ∧
      (takeEvent f s).drv.stuckPresent = (f s).drv.stuckPresent := by
  rcases takeEvent_cases f s with h | ⟨h, -⟩
  · simp [h]
  · simp [h, lckUnlock]

@[simp] theorem lckTripped_currents (s : State) :
    (lckTripped s).drv.lastMeasured = s.drv.lastMeasured ∧
      (lckTripped s).drv.lastExpected = s.drv.lastExpected := by
  unfold lckTripped lckSetJammed
  split_ifs <;> simp

@[simp] theorem cycSetPhase_currents (p : Phase) (s : State) :
    (cycSetPhase p s).drv.lastMeasured = s.drv.lastMeasured ∧
      (cycSetPhase p s).drv.lastExpected = s.drv.lastExpected := by
  unfold cycSetPhase
  split_ifs <;> simp [drvPhase]

@[simp] theorem cycLeaveHeating_currents (p : Phase) (s : State) :
    (cycLeaveHeating p s).drv.lastMeasured = s.drv.lastMeasured ∧
      (cycLeaveHeating p s).drv.lastExpected = s.drv.lastExpected := by
  simp [cycLeaveHeating]

@[simp] theorem prtAction_currents (c : FaultCode) (s : State) :
    (prtAction c s).drv.lastMeasured = s.drv.lastMeasured ∧
      (prtAction c s).drv.lastExpected = s.drv.lastExpected := by
  unfold prtAction
  cases c.cls <;> dsimp only
  case trip => unfold cycTrip; split <;> simp
  case abort => unfold cycAbort; split <;> simp
  case degrade => exact ⟨rfl, rfl⟩

@[simp] theorem prtRaise_currents (c : FaultCode) (s : State) :
    (prtRaise c s).drv.lastMeasured = s.drv.lastMeasured ∧
      (prtRaise c s).drv.lastExpected = s.drv.lastExpected := by
  unfold prtRaise
  split_ifs <;> simp

@[simp] theorem drvOverCheck_currents (measured expected : Nat) (s : State) :
    (drvOverCheck measured expected s).drv.lastMeasured = s.drv.lastMeasured ∧
      (drvOverCheck measured expected s).drv.lastExpected = s.drv.lastExpected := by
  unfold drvOverCheck
  dsimp only
  split_ifs <;> simp

@[simp] theorem drvStuckCheck_currents (measured : Nat) (s : State) :
    (drvStuckCheck measured s).drv.lastMeasured = s.drv.lastMeasured ∧
      (drvStuckCheck measured s).drv.lastExpected = s.drv.lastExpected := by
  unfold drvStuckCheck
  dsimp only
  split_ifs <;> simp

@[simp] theorem drvLowCheck_currents (measured expected : Nat) (s : State) :
    (drvLowCheck measured expected s).drv.lastMeasured = s.drv.lastMeasured ∧
      (drvLowCheck measured expected s).drv.lastExpected = s.drv.lastExpected := by
  unfold drvLowCheck drvLowGone
  dsimp only
  split_ifs <;> simp

/-! ## The boundary that completes the window (R91, R94) -/

/-- The measured current of the window whose last sample is `sample` (R94). -/
def State.measured (s : State) (sample : Nat) : Nat := (s.drv.sampleSum + sample) / 64

/-- The expected current of the window (R94). -/
def State.expected (s : State) : Nat := s.committedCurrent s.drv.window.n / 64

/-- The window's values stored and its standing handed on, as the checks find them (R94). -/
def windowStored (sample : Nat) (s : State) : State :=
  drvIndicate (decide (s.drv.window.ig < s.drv.window.ir)) ((crossed s).modDrv fun d => { d with
    sampleSum := d.sampleSum + sample, windowRunning := false, last := s.drv.window
    lastExpected := s.expected, lastMeasured := s.measured sample })

theorem windowStored_drv (sample : Nat) (s : State) :
    (windowStored sample s).drv = { s.drv with
      absence := 0, mainsTimer := none, state := .running, mainsAbsentPresent := false
      sampleSum := s.drv.sampleSum + sample, windowRunning := false, last := s.drv.window
      lastExpected := s.expected, lastMeasured := s.measured sample
      limited := decide (s.drv.window.ig < s.drv.window.ir) } := by
  simp [windowStored, drvIndicate, crossed_drv]

/-- What the checks find of the window, of their run counters and of their conditions. -/
@[simp] theorem windowStored_judged (sample : Nat) (s : State) :
    (windowStored sample s).drv.last = s.drv.window ∧ (windowStored sample s).drv.main = s.drv.main ∧
      (windowStored sample s).drv.overRun = s.drv.overRun ∧ (windowStored sample s).drv.stuckRun = s.drv.stuckRun ∧
      (windowStored sample s).drv.lowRun = s.drv.lowRun ∧ (windowStored sample s).drv.overPresent = s.drv.overPresent ∧
      (windowStored sample s).drv.stuckPresent = s.drv.stuckPresent ∧
      (windowStored sample s).drv.lowPresent = s.drv.lowPresent := by
  simp [windowStored_drv]

@[simp] theorem windowStored_limited (sample : Nat) (s : State) :
    (windowStored sample s).reg.limited = decide (s.drv.window.ig < s.drv.window.ir) := rfl

@[simp] theorem windowStored_frame (sample : Nat) (s : State) :
    (windowStored sample s).cyc = s.cyc ∧ (windowStored sample s).prf = s.prf ∧
      (windowStored sample s).ramp = s.ramp ∧ (windowStored sample s).tms = s.tms ∧
      (windowStored sample s).ptb = s.ptb := by
  simp [windowStored]

/-- The checks of a completed window in their order: overcurrent, stuck, low (R98 to R100; log 10). -/
def windowChecked (sample : Nat) (s : State) : State :=
  drvLowCheck (s.measured sample) s.expected (drvStuckCheck (s.measured sample)
    (drvOverCheck (s.measured sample) s.expected (windowStored sample s)))

/-- The zero-cross that completes a window stores it, checks it and begins the next (R91, R94). -/
theorem drvZeroCross_completes {sample : Nat} {s : State} (h : s.completes = true) :
    drvZeroCross sample s = drvBegin (windowChecked sample s) := by
  simp only [State.completes, Bool.and_eq_true, beq_iff_eq] at h
  obtain ⟨⟨hrun, hwindow⟩, hpos⟩ := h
  obtain ⟨hitems, hcommitted, -⟩ := crossed_alk s
  have hexpected : (crossed s).committedCurrent s.drv.window.n / 64 = s.expected := by
    rw [State.committedCurrent_congr hcommitted hitems, State.expected]
  have hcomplete : drvComplete ((crossed s).modDrv fun d => { d with sampleSum := d.sampleSum + sample }) =
      windowChecked sample s := by
    simp only [drvComplete, windowChecked, windowStored, State.modDrv_drv, crossed_drv, State.measured, ← hexpected]
    rfl
  rw [drvZeroCross_eq, if_pos ⟨hrun, hwindow⟩, drvBoundary, if_pos (by simpa [crossed_drv] using hpos)]
  exact congrArg drvBegin hcomplete

/-! ## The checks by case (R98 to R101) -/

theorem Window.allOff_iff (w : Window) : w.allOff = true ↔ w.n.sum = 0 := by simp [Window.allOff]

/-- The third overdrawn window in a row (R98, R101). -/
theorem drvOverCheck_third {measured expected : Nat} {s : State} (hn : s.drv.last.n.sum ≠ 0)
    (hover : expected + max 20 (expected / 4) < measured) (hrun : s.drv.overRun = 2) (hpresent : s.drv.overPresent = false) :
    drvOverCheck measured expected s =
      prtRaise .elementOvercurrent (s.modDrv fun d => { d with overRun := 3, overPresent := true }) := by
  have hfails : overFails measured expected = true := decide_eq_true hover
  simp [drvOverCheck, Window.allOff_iff, hn, hfails, State.modDrv, hrun, hpresent, satSucc]

/-- A judged window that is not overdrawn, the condition not present (R101). -/
theorem drvOverCheck_passes {measured expected : Nat} {s : State} (hn : s.drv.last.n.sum ≠ 0)
    (hover : ¬ expected + max 20 (expected / 4) < measured) (hpresent : s.drv.overPresent = false) :
    drvOverCheck measured expected s = s.modDrv fun d => { d with overRun := 0 } := by
  have hfails : overFails measured expected = false := decide_eq_false hover
  simp [drvOverCheck, Window.allOff_iff, hn, hfails, hpresent]

/-- An all-off window that draws current is not the overcurrent check's to judge (R98). -/
theorem drvOverCheck_allOff {measured expected : Nat} {s : State} (hn : s.drv.last.n.sum = 0) (hdraws : 10 < measured) :
    drvOverCheck measured expected s = s := by
  simp [drvOverCheck, (Window.allOff_iff _).mpr hn, Nat.not_le.mpr hdraws]

/-- The third all-off window in a row that draws current (R99, R101). -/
theorem drvStuckCheck_third {measured : Nat} {s : State} (hn : s.drv.last.n.sum = 0) (hdraws : 10 < measured)
    (hrun : s.drv.stuckRun = 2) (hpresent : s.drv.stuckPresent = false) :
    drvStuckCheck measured s =
      prtRaise .driveStuck (s.modDrv fun d => { d with stuckRun := 3, stuckPresent := true }) := by
  simp [drvStuckCheck, (Window.allOff_iff _).mpr hn, hdraws, State.modDrv, hrun, hpresent, satSucc]

/-- A window with an on-count above 0 can end the stuck condition and no more (R99). -/
theorem drvStuckCheck_driven {measured : Nat} {s : State} (hn : s.drv.last.n.sum ≠ 0) :
    drvStuckCheck measured s = if s.drv.stuckPresent ∧ measured ≤ 10 then
      prtGone .driveStuck (s.modDrv fun d => { d with stuckPresent := false }) else s := by
  by_cases hgone : s.drv.stuckPresent ∧ measured ≤ 10
  · simp [drvStuckCheck, hgone, Window.allOff_iff, hn]
  · simp [drvStuckCheck, hgone, Window.allOff_iff, hn]

/-- After a window with an on-count above 0 the stuck check touches its own code alone. -/
theorem flagIn_drvStuckCheck_driven {c : FaultCode} (hc : ¬ c = .driveStuck) {measured : Nat} {s : State}
    (hn : s.drv.last.n.sum ≠ 0) (b : Bool) :
    flagIn c b (drvStuckCheck measured s).prt.faults = flagIn c b s.prt.faults := by
  rw [drvStuckCheck_driven hn]
  split_ifs <;> simp [hc]

/-- The eighth low window in a row (R100, R101). -/
theorem drvLowCheck_eighth {measured expected : Nat} {s : State} (hjudged : 20 ≤ expected)
    (hlow : measured * 10 < expected * 6) (hrun : s.drv.lowRun = 7) (hpresent : s.drv.lowPresent = false) :
    drvLowCheck measured expected s =
      prtRaise .elementLow (s.modDrv fun d => { d with lowRun := 8, lowPresent := true }) := by
  simp [drvLowCheck, hjudged, hlow, State.modDrv, hrun, hpresent, satSucc]

/-! ## The reports in the fault set (R157 to R159) -/

/-- ELEMENT_LOW acts on nothing beside PRT and the list (R100, R161). -/
theorem prtRaise_elementLow (s : State) :
    prtRaise .elementLow s = if flagIn .elementLow true s.prt.faults = true then s else prtEnter .elementLow s := by
  split_ifs with h
  · exact prtRaise_present _ s (by rwa [any_present_eq_flagIn])
  · exact prtRaise_new (Bool.eq_false_iff.mpr h)

/-- The report of ELEMENT_LOW leaves all but the fault set and the list as it finds them (R100). -/
theorem prtRaise_elementLow_effects (s : State) :
    (prtRaise .elementLow s).drv = s.drv ∧ (prtRaise .elementLow s).cyc = s.cyc ∧
      (prtRaise .elementLow s).ramp = s.ramp ∧ flagIn .elementLow true (prtRaise .elementLow s).prt.faults = true := by
  rw [prtRaise_elementLow]
  split_ifs with h
  · exact ⟨rfl, rfl, rfl, h⟩
  · simp [flagIn_raiseFlag]

/-- A trip-class code stands once reported, new or not. -/
theorem flagIn_prtRaise_trip_self {c : FaultCode} (hc : c.cls = .trip) (s : State) :
    flagIn c true (prtRaise c s).prt.faults = true := by
  by_cases h : flagIn c true s.prt.faults = true
  · rw [prtRaise_present c s (by rwa [any_present_eq_flagIn]), h]
  · exact flagIn_prtRaise_trip hc (Bool.eq_false_iff.mpr h)

/-- The low check reports its own code alone (R100). -/
theorem flagIn_drvLowCheck {c : FaultCode} (hc : ¬ c = .elementLow) (b : Bool) (measured expected : Nat) (s : State) :
    flagIn c b (drvLowCheck measured expected s).prt.faults = flagIn c b s.prt.faults := by
  unfold drvLowCheck drvLowGone
  simp only [prtRaise_elementLow]
  split_ifs <;> simp [hc, flagIn_raiseFlag_ne]

/-- A trip-class code in the set keeps MAIN open (R96). -/
theorem main_open_of_trip {c : FaultCode} (hc : c.cls = .trip) {s : State} (h : s.heatSafe)
    (hflag : flagIn c true s.prt.faults = true) : s.drv.main = false := by
  obtain ⟨hmain, -⟩ := h
  simp [hmain, State.mainAllowed, hasTrip_raiseFlag hc hflag]

/-- Where MAIN is open the unlock travel leaves DRV and the fault set as they are (R54, R96). -/
theorem lckUnlock_of_main_open {s : State} (h : s.drv.main = false) :
    (lckUnlock s).drv = s.drv ∧ (lckUnlock s).prt = s.prt := by
  have hset : (lckSetState .unlocking s).drv = s.drv ∧ (lckSetState .unlocking s).prt = s.prt := by
    unfold lckSetState
    split_ifs
    · exact ⟨rfl, rfl⟩
    · simp [drvMain, State.mainAllowed, h]
  simpa [lckUnlock] using hset

/-- The unlock travel that may follow begins in TRIPPED, where MAIN is open, and leaves DRV and the report alone (R13, R96). -/
theorem takeEvent_keeps_drv_prt {f : State → State} {s : State} (h : (f s).heatSafe) :
    (takeEvent f s).drv = (f s).drv ∧ (takeEvent f s).prt = (f s).prt := by
  rcases takeEvent_cases f s with heq | ⟨heq, hphase, -⟩
  · simp [heq]
  · obtain ⟨hmain, hpermitted, -⟩ := h
    rw [heq]
    exact lckUnlock_of_main_open (by simp [hmain, State.mainAllowed, hpermitted, hphase])

end Sys2Proof.Machine
end

section
/-! CERTIFICATE. The end of a drive window: what it stores and begins (R91, R94), and the reports of its checks (R98 to R101). -/

namespace Sys2Proof.Machine

/-- The checks leave what the completion has stored and handed on (R94). -/
theorem windowChecked_stores (sample : Nat) (s : State) :
    (windowChecked sample s).drv.last = s.drv.window ∧
      (windowChecked sample s).drv.lastMeasured = s.measured sample ∧
      (windowChecked sample s).drv.lastExpected = s.expected ∧
      (windowChecked sample s).drv.limited = decide (s.drv.window.ig < s.drv.window.ir) ∧
      (windowChecked sample s).reg.limited = decide (s.drv.window.ig < s.drv.window.ir) ∧
      (windowChecked sample s).drv.state = .running := by
  simp [windowChecked, windowStored_drv]

/-- Settles O53: the checks leave what is stored, and the next window begins after them at position 0. -/
theorem windowCompletes : Obligations.WindowCompletes := by
  intro s sample h
  have hend : drvZeroCross sample s = drvBegin (windowChecked sample s) := drvZeroCross_completes h
  obtain ⟨hlast, hmeasured, hexpected, hlimited, hreg, hstate⟩ := windowChecked_stores sample s
  have hbegun : (drvZeroCross sample s).drv.position = 0 ∧ (drvZeroCross sample s).drv.sampleSum = 0 := by
    rw [hend]
    exact ⟨rfl, rfl⟩
  obtain ⟨hposition, hsum⟩ := hbegun
  refine ⟨takeEvent (drvZeroCross sample) s, next_congr (if_pos h), ?_, ?_, ?_, ?_, ?_, by simp [hposition],
    by simp [hsum], ?_, ?_, by simp, by simp⟩
  · simp [hend, hlast]
  · simpa [hend, drvBegin_drv, State.measured] using hmeasured
  · simpa [hend, drvBegin_drv, State.expected] using hexpected
  · simp [hend, hlimited]
  · simp [hend, hreg, hlimited]
  · simp [hend, hstate]
  · simp

/-- The event that completes a window keeps the law of heat, so a trip that it reports finds MAIN open at its end (R96). -/
theorem windowEvent_trips {c : FaultCode} (hc : c.cls = .trip) {sample : Nat} {s : State} (hsafe : s.heatSafe)
    (hflag : flagIn c true (drvZeroCross sample s).prt.faults = true) :
    (takeEvent (drvZeroCross sample) s).holdsFault c true ∧ (takeEvent (drvZeroCross sample) s).drv.main = false := by
  have hend := heatSafe_drvZeroCross (sample := sample) hsafe
  obtain ⟨hkeptDrv, hkeptPrt⟩ := takeEvent_keeps_drv_prt hend
  exact ⟨by rwa [holdsFault_iff, hkeptPrt], by rw [hkeptDrv, main_open_of_trip hc hend hflag]⟩

/-- The window that begins leaves the fault set as the checks leave it. -/
theorem windowEvent_faults {sample : Nat} {s : State} (h : s.completes = true) :
    (drvZeroCross sample s).prt.faults = (windowChecked sample s).prt.faults := by
  simp [drvZeroCross_completes h]

/-- The third overdrawn window (R98). -/
theorem elementOvercurrent_raised {sample : Nat} {s : State} (h : s.completes = true) (hsafe : s.heatSafe)
    (hn : s.drv.window.n.sum ≠ 0) (hover : s.expected + max 20 (s.expected / 4) < s.measured sample)
    (hrun : s.drv.overRun = 2) (hpresent : s.drv.overPresent = false) :
    ∃ t, exec (.elementOvercurrent sample) s = .next t ∧ t.drv.overPresent = true ∧
      t.holdsFault .elementOvercurrent true ∧ t.drv.main = false := by
  have hcheck := drvOverCheck_third (s := windowStored sample s) (by simpa using hn) hover
    (by simpa using hrun) (by simpa using hpresent)
  have hstands : (drvZeroCross sample s).drv.overPresent = true := by
    simp [drvZeroCross_completes h, windowChecked, hcheck]
  have hflag : flagIn .elementOvercurrent true (drvZeroCross sample s).prt.faults = true := by
    rw [windowEvent_faults h, windowChecked, flagIn_drvLowCheck (by decide), flagIn_drvStuckCheck_driven (by decide), hcheck]
    · exact flagIn_prtRaise_trip_self rfl _
    · simpa using hn
  have htaken := onlyWhen_taken (p := fun a b => !a.drv.overPresent && b.drv.overPresent)
    (f := takeEvent (drvZeroCross sample)) (s := s) (by simp [hpresent, hstands])
  exact ⟨_, next_congr htaken, by simp [hstands], windowEvent_trips rfl hsafe hflag⟩

/-- The third all-off window that draws current (R99): the overcurrent check does not judge it, and the low check reports its
own code alone. -/
theorem driveStuck_raised {sample : Nat} {s : State} (h : s.completes = true) (hsafe : s.heatSafe)
    (hn : s.drv.window.n.sum = 0) (hdraws : 10 < s.measured sample) (hrun : s.drv.stuckRun = 2)
    (hpresent : s.drv.stuckPresent = false) :
    ∃ t, exec (.driveStuck sample) s = .next t ∧ t.drv.stuckPresent = true ∧ t.holdsFault .driveStuck true ∧
      t.drv.main = false := by
  have hlast : (windowStored sample s).drv.last.n.sum = 0 := by simpa using hn
  have hcheck := drvStuckCheck_third hlast hdraws (by simpa using hrun)
    (by simpa using hpresent)
  have hstands : (drvZeroCross sample s).drv.stuckPresent = true := by
    simp [drvZeroCross_completes h, windowChecked, drvOverCheck_allOff hlast hdraws, hcheck]
  have hflag : flagIn .driveStuck true (drvZeroCross sample s).prt.faults = true := by
    rw [windowEvent_faults h, windowChecked, flagIn_drvLowCheck (by decide), drvOverCheck_allOff hlast hdraws, hcheck]
    exact flagIn_prtRaise_trip_self rfl _
  have htaken := onlyWhen_taken (p := fun a b => !a.drv.stuckPresent && b.drv.stuckPresent)
    (f := takeEvent (drvZeroCross sample)) (s := s) (by simp [hpresent, hstands])
  exact ⟨_, next_congr htaken, by simp [hstands], windowEvent_trips rfl hsafe hflag⟩

/-- The state in which the eighth low window's report finds the machine (R100). -/
def lowCounted (sample : Nat) (s : State) : State :=
  (windowStored sample s).modDrv fun d => { d with overRun := 0, lowRun := 8, lowPresent := true }

@[simp] theorem lowCounted_frame (sample : Nat) (s : State) :
    (lowCounted sample s).drv.main = s.drv.main ∧ (lowCounted sample s).drv.lowPresent = true ∧
      (lowCounted sample s).cyc = s.cyc ∧ (lowCounted sample s).ramp = s.ramp := by
  simp [lowCounted]

/-- A low window is not overdrawn, and with an on-count above 0 it is not the stuck check's (R98 to R100). -/
theorem windowChecked_low {sample : Nat} {s : State} (hn : s.drv.window.n.sum ≠ 0) (hjudged : 20 ≤ s.expected)
    (hlow : s.measured sample * 10 < s.expected * 6) (hrun : s.drv.lowRun = 7) (hpresent : s.drv.lowPresent = false)
    (hover : s.drv.overPresent = false) (hstuck : s.drv.stuckPresent = false) :
    windowChecked sample s = prtRaise .elementLow (lowCounted sample s) := by
  have hpasses := drvOverCheck_passes (measured := s.measured sample) (expected := s.expected)
    (s := windowStored sample s) (by simpa using hn) (by omega) (by simpa using hover)
  rw [windowChecked, hpasses, drvStuckCheck_driven (by simpa using hn),
    if_neg (by simp [hstuck]),
    drvLowCheck_eighth hjudged hlow (by simpa using hrun) (by simpa using hpresent)]
  rfl

/-- The eighth low window (R100): heating goes on. -/
theorem elementLow_raised {sample : Nat} {s : State} (h : s.completes = true) (hsafe : s.heatSafe)
    (hn : s.drv.window.n.sum ≠ 0) (hjudged : 20 ≤ s.expected) (hlow : s.measured sample * 10 < s.expected * 6)
    (hrun : s.drv.lowRun = 7) (hpresent : s.drv.lowPresent = false) (hover : s.drv.overPresent = false)
    (hstuck : s.drv.stuckPresent = false) :
    ∃ t, exec (.elementLow sample) s = .next t ∧ t.drv.lowPresent = true ∧ t.holdsFault .elementLow true ∧
      t.drv.main = s.drv.main ∧ t.cyc = s.cyc ∧ t.ramp = s.ramp := by
  obtain ⟨hdrv, hcyc, hramp, hflag⟩ := prtRaise_elementLow_effects (lowCounted sample s)
  obtain ⟨hkeptDrv, hkeptPrt⟩ := takeEvent_keeps_drv_prt (heatSafe_drvZeroCross (sample := sample) hsafe)
  have hend : drvZeroCross sample s = drvBegin (prtRaise .elementLow (lowCounted sample s)) := by
    rw [drvZeroCross_completes h, windowChecked_low hn hjudged hlow hrun hpresent hover hstuck]
  have hstands : (takeEvent (drvZeroCross sample) s).drv.lowPresent = true := by simp [hkeptDrv, hend, drvBegin_drv, hdrv]
  have htaken := onlyWhen_taken (p := fun a b => !a.drv.lowPresent && b.drv.lowPresent)
    (f := takeEvent (drvZeroCross sample)) (s := s) (by simp [hpresent, hstands])
  refine ⟨_, next_congr htaken, hstands, ?_, ?_, ?_, ?_⟩
  · rw [holdsFault_iff, hkeptPrt, windowEvent_faults h, windowChecked_low hn hjudged hlow hrun hpresent hover hstuck]
    exact hflag
  · simp [hkeptDrv, hend, hdrv]
  · simp [hend, hcyc]
  · simp [hend, hramp]

/-- Settles O54: each check's report is what its own row brings, and the trips' reports open MAIN by the law of heat. -/
theorem windowChecksReport : Obligations.WindowChecksReport := by
  rintro s sample m x h hsafe rfl rfl
  exact ⟨elementOvercurrent_raised h hsafe, driveStuck_raised h hsafe,
    fun hn hjudged hlow hrun hpresent hover hstuck _ =>
      elementLow_raised h hsafe hn hjudged hlow hrun hpresent hover hstuck⟩

end Sys2Proof.Machine
end

section
/-! CERTIFICATE. The bank frame: its 64 bits and the fields read back from them (R107, R116, R181). -/

namespace Sys2Proof.Machine

/-! ## The codes of a frame's fields (section 12.1) -/

theorem FrameKind.ofCode?_code (k : FrameKind) : FrameKind.ofCode? k.code = some k := by
  cases k <;> rfl

theorem SlotState.ofCode?_code (x : SlotState) : SlotState.ofCode? x.code = some x := by
  cases x <;> rfl

theorem ReportedPhase.ofCode_code (p : ReportedPhase) : ReportedPhase.ofCode p.code = p := by
  cases p <;> rfl

theorem FrameKind.code_lt (k : FrameKind) : k.code < 8 := by
  cases k <;> decide

theorem SlotState.code_lt (x : SlotState) : x.code < 4 := by
  cases x <;> decide

theorem ReportedPhase.code_lt (p : ReportedPhase) : p.code < 8 := by
  cases p <;> decide

/-! ## Where the fields stand in the bits (R107) -/

theorem Frame.bits_check (f : Frame) : f.bits.extractLsb' 0 8 = f.check := by
  unfold Frame.bits
  exact BitVec.extractLsb'_append_eq_right

/-- The bits from station to fallback are those of the body (R107). -/
theorem Frame.bits_body (f : Frame) (i n : Nat) (h : i + n ≤ 48) :
    f.bits.extractLsb' (i + 8) n = f.body.extractLsb' i n := by
  unfold Frame.bits
  rw [BitVec.extractLsb'_append_eq_of_le (by omega), BitVec.extractLsb'_append_eq_of_add_le (by omega)]
  simp

theorem Frame.bits_word (f : Frame) (h : f.word ≤ 255) : (f.bits.extractLsb' 56 8).toNat = f.word := by
  unfold Frame.bits
  rw [BitVec.extractLsb'_append_eq_of_le (by omega), BitVec.extractLsb'_append_eq_of_le (by omega)]
  simp
  omega

theorem Frame.body_fields (f : Frame) :
    f.body.extractLsb' 43 5 = BitVec.ofNat 5 f.station ∧ f.body.extractLsb' 39 4 = BitVec.ofNat 4 f.group ∧
      f.body.extractLsb' 36 3 = BitVec.ofNat 3 f.kind.code ∧ f.body.extractLsb' 26 10 = BitVec.ofNat 10 f.held ∧
      f.body.extractLsb' 16 10 = BitVec.ofNat 10 f.want ∧ f.body.extractLsb' 6 10 = BitVec.ofNat 10 f.claim ∧
      f.body.extractLsb' 4 2 = BitVec.ofNat 2 f.slot.code ∧ f.body.extractLsb' 1 3 = BitVec.ofNat 3 f.phase.code ∧
      f.body.extractLsb' 0 1 = BitVec.ofBool f.fallback := by
  unfold Frame.body
  refine ⟨?station, ?group, ?kind, ?held, ?want, ?claim, ?slot, ?phase, ?fallback⟩
  case station =>
    repeat rw [BitVec.extractLsb'_append_eq_of_le (by omega)]
    simp
  all_goals
    repeat rw [BitVec.extractLsb'_append_eq_of_le (by omega)]
    rw [BitVec.extractLsb'_append_eq_of_add_le (by omega)]
    simp

/-- Every field of the received bits is the one sent (R107). -/
theorem Frame.frameFields_bits {f : Frame} (hword : f.word ≤ 255) (hlow : 1 ≤ f.station) (hhigh : f.station ≤ 31)
    (hgroup : f.group ≤ 15) (hheld : f.held ≤ 1023) (hwant : f.want ≤ 1023) (hclaim : f.claim ≤ 1023) :
    frameFields f.bits = some f := by
  obtain ⟨station, group, kind, held, want, claim, slot, phase, fallback⟩ := f.body_fields
  have hkind := f.kind.code_lt
  have hslot := f.slot.code_lt
  have hphase := f.phase.code_lt
  have hflag : f.bits.getLsbD 8 = f.fallback := by
    have h := (f.bits_body 0 1 (by omega)).trans fallback
    simpa using congrArg (BitVec.getLsbD · 0) h
  unfold frameFields
  rw [f.bits_body 36 3 (by omega), f.bits_body 4 2 (by omega), f.bits_body 43 5 (by omega), f.bits_body 39 4 (by omega),
    f.bits_body 26 10 (by omega), f.bits_body 16 10 (by omega), f.bits_body 6 10 (by omega), f.bits_body 1 3 (by omega),
    f.bits_word hword, hflag, station, group, kind, held, want, claim, slot, phase]
  simp only [BitVec.toNat_ofNat]
  rw [Nat.mod_eq_of_lt hkind, Nat.mod_eq_of_lt hslot, Nat.mod_eq_of_lt hphase, Nat.mod_eq_of_lt (by omega),
    Nat.mod_eq_of_lt (by omega), Nat.mod_eq_of_lt (by omega), Nat.mod_eq_of_lt (by omega), Nat.mod_eq_of_lt (by omega),
    FrameKind.ofCode?_code, SlotState.ofCode?_code, ReportedPhase.ofCode_code]
  simp [Nat.ne_of_gt hlow]

/-- Settles O12: the check is over the body as received, and each field is cut out of it where it was put in. -/
theorem bankFrameRoundTrip : Obligations.BankFrameRoundTrip := by
  intro f hword hlow hhigh hgroup hheld hwant hclaim
  have hcheck : f.bits.extractLsb' 0 8 = crc8 (f.bits.extractLsb' 8 48) := by
    rw [f.bits_check, f.bits_body 0 48 le_rfl, BitVec.extractLsb'_eq_self]
    rfl
  simp [classify, hcheck, Frame.frameFields_bits hword hlow hhigh hgroup hheld hwant hclaim]

end Sys2Proof.Machine
end

section
/-! CERTIFICATE. STATION_RESET: its acceptance and the departure that it asks for (R115, R176). -/

namespace Sys2Proof.Machine

/-- An accepted STATION_RESET waits for nothing where no departure is asked for, or where BLI refuses one (R115, R176). -/
theorem alkScheduleReset_eq (s : State) :
    alkScheduleReset s =
      if s.alk.committed = true then
        if s.bli.tx = .off ∨ s.bli.tx = .stopped then
          s.modAlk fun a => { a with resetPending := some { csnRisen := false, departure := .notSent } }
        else
          (s.modAlk fun a => { a with resetPending := some { csnRisen := false, departure := .waiting } }).modBli
            fun b => { b with departureTimer := some 50, reasons := b.reasons ||| FrameKind.depart.bit,
                              tx := if b.tx = .quiet then .waiting else b.tx }
      else s.modAlk fun a => { a with resetPending := some { csnRisen := false, departure := .notAsked } } := by
  unfold alkScheduleReset
  split_ifs with hcommitted hrefused
  · rcases hrefused with h | h <;> simp [bliDepart, alkDeparture, h] <;> rfl
  · obtain ⟨hoff, hstopped⟩ := not_or.mp hrefused
    cases htx : s.bli.tx
    case off => exact absurd htx hoff
    case stopped => exact absurd htx hstopped
    case quiet | waiting | sending => simp [bliDepart, bliSetReason, htx, State.modBli]
  · rfl

/-- An accepted STATION_RESET touches BLI and the waiting reset alone. -/
theorem alkScheduleReset_apart (s : State) :
    alkScheduleReset s = { s with
      bli := (alkScheduleReset s).bli
      alk := { s.alk with resetPending := (alkScheduleReset s).alk.resetPending } } := by
  rw [alkScheduleReset_eq]
  split_ifs <;> rfl

/-- With no reset waiting a command's transaction changes the port alone. -/
theorem linkOpen_ready (params : Nat) {s : State} (h : s.alk.resetPending = none) :
    linkOpen params s =
      s.modAlk fun a => { a with link := { csnLow := true, lead := params + 2, answer := [], sdoCut := false } } := by
  rw [linkOpen_eq, linkOpen_resetPending_none params s h, ← h]
  rfl

/-- Settles O15: the refusal answers alone, and the accepted reset asks BLI to depart where the configuration is committed. -/
theorem stationResetAsked : Obligations.StationResetAsked := by
  intro s hnone
  refine ⟨stationReset (linkOpen 0 s), next_congr (linkCommand_ready 0 0 stationReset s hnone), ?_⟩
  by_cases hidle : s.cyc.phase = .idle ∧ s.lck.state = .unlocked
  · have haccepted : stationReset (linkOpen 0 s) = linkAnswer .ok [] (alkScheduleReset (linkOpen 0 s)) := by
      simp [stationReset, hidle]
    rw [if_pos hidle, haccepted]
    refine ⟨rfl, ?_, ?_⟩
    · rw [alkScheduleReset_apart, linkOpen_ready 0 hnone]
      rfl
    · simp only [linkAnswer, State.modAlk_alk, State.modAlk_bli, alkScheduleReset_eq, linkOpen_ready 0 hnone]
      by_cases hcommitted : s.alk.committed = true
      · by_cases hoff : s.bli.tx = .off ∨ s.bli.tx = .stopped
        · simp [hcommitted, hoff]
        · simp only [hcommitted, hoff, if_true, if_false]
          exact ⟨rfl, rfl⟩
      · simp [hcommitted]
  · have hrefused : stationReset (linkOpen 0 s) = linkAnswer .wrongPhase [] (linkOpen 0 s) := by
      rw [stationReset, if_neg (by simpa using hidle)]
    rw [if_neg hidle, hrefused]
    exact ⟨rfl, sameButLink_answer _ _ _ _⟩

end Sys2Proof.Machine
end

section
/-! SUPPORT. What SHR, PTB and the ramp engine leave of BLI and of its faults: BLI hears from them by reasons to send alone
(R109). -/

namespace Sys2Proof.Machine

/-! ## The relation -/

/-- The two codes that BLI reports to PRT (R117, R120). -/
def FaultCode.ofBli (c : FaultCode) : Bool := c == .txStuck || c == .numberConflict

theorem FaultCode.ofBli_apart {c : FaultCode} (h : c.ofBli = true) :
    ¬ c = .elementLow ∧ ¬ c = .slotTimeout ∧ ¬ c = .heatTimeout := by
  refine ⟨?_, ?_, ?_⟩ <;> rintro rfl <;> cases h

/-- From `s` to `t` BLI changes by reasons that were set alone, by none in STOPPED, and its codes stand as they stood. -/
def LineKept (s t : State) : Prop :=
  (∃ r x, t.bli = { s.bli with reasons := r, tx := x }) ∧ (s.bli.tx = .stopped → t.bli = s.bli) ∧
    ∀ c b, c.ofBli = true → flagIn c b t.prt.faults = flagIn c b s.prt.faults

theorem lineKept_of_flags {s t : State} (hbli : t.bli = s.bli)
    (hflags : ∀ c b, c.ofBli = true → flagIn c b t.prt.faults = flagIn c b s.prt.faults) : LineKept s t :=
  ⟨⟨s.bli.reasons, s.bli.tx, hbli⟩, fun _ => hbli, hflags⟩

theorem lineKept_of_frame {s t : State} (hbli : t.bli = s.bli) (hfaults : t.prt.faults = s.prt.faults) : LineKept s t :=
  lineKept_of_flags hbli fun c b _ => congrArg (flagIn c b) hfaults

theorem LineKept.refl (s : State) : LineKept s s := lineKept_of_frame rfl rfl

theorem LineKept.trans {s t u : State} (h : LineKept s t) (h' : LineKept t u) : LineKept s u := by
  obtain ⟨⟨r, x, htold⟩, hstopped, hflags⟩ := h
  obtain ⟨⟨r', x', htold'⟩, hstopped', hflags'⟩ := h'
  refine ⟨⟨r', x', by rw [htold', htold]⟩, fun hs => ?_, fun c b hc => (hflags' c b hc).trans (hflags c b hc)⟩
  have ht := hstopped hs
  rw [hstopped' (by rw [ht, hs]), ht]

/-- The counters, conditions and timers that no other block touches. -/
theorem LineKept.fields {s t : State} (h : LineKept s t) :
    t.bli.errors = s.bli.errors ∧ t.bli.unreliable = s.bli.unreliable ∧ t.bli.silent = s.bli.silent ∧
      t.bli.releasedRun = s.bli.releasedRun ∧ t.bli.heldTimer = s.bli.heldTimer ∧
      t.bli.silenceTimer = s.bli.silenceTimer := by
  obtain ⟨⟨r, x, htold⟩, -⟩ := h
  simp [htold]

/-! ## SHR's held current and slot (R141 to R150, R155) -/

theorem lineKept_bliSetReason (k : FrameKind) (s : State) : LineKept s (bliSetReason k s) := by
  unfold bliSetReason
  split
  case h_1 | h_2 => exact LineKept.refl s
  case h_3 hquiet => exact ⟨⟨_, _, rfl⟩, fun h => by simp [h] at hquiet, fun _ _ _ => rfl⟩
  case h_4 hwaiting => exact ⟨⟨_, s.bli.tx, rfl⟩, fun h => by simp [h] at hwaiting, fun _ _ _ => rfl⟩
  case h_5 hsending => exact ⟨⟨_, s.bli.tx, rfl⟩, fun h => by simp [h] at hsending, fun _ _ _ => rfl⟩

theorem lineKept_alkRecord (k : EventKind) (d : Half) (s : State) : LineKept s (alkRecord k d s) :=
  lineKept_of_frame (by simp) (by simp)

theorem lineKept_shrShed (h : Nat) (s : State) : LineKept s (shrShed h s) :=
  (lineKept_of_frame (by simp) (by simp)).trans (lineKept_bliSetReason _ _)

theorem lineKept_shrClaim (s : State) : LineKept s (shrClaim s) := by
  unfold shrClaim
  split_ifs
  · exact lineKept_bliSetReason .claim (s.modShr _)
  · exact LineKept.refl s

theorem lineKept_shrCompare (s : State) : LineKept s (shrCompare s) := by
  unfold shrCompare
  split_ifs
  · exact (lineKept_shrShed _ s).trans (LineKept.refl _)
  · exact lineKept_shrClaim s
  · exact LineKept.refl s

theorem lineKept_shrEvaluate (s : State) : LineKept s (shrEvaluate s) :=
  lineKept_shrCompare (s.modShr _)

theorem lineKept_shrFollow (s : State) : LineKept s (shrFollow s) := by
  unfold shrFollow
  simp only
  split_ifs
  · exact lineKept_shrShed _ s
  · exact lineKept_bliSetReason .settled (s.modShr _)
  · exact LineKept.refl s

theorem lineKept_shrWant (w : Nat) (s : State) : LineKept s (shrWant w s) := by
  unfold shrWant shrLower
  simp only
  split
  case h_1 | h_2 => exact LineKept.refl s
  case h_3 =>
    split_ifs
    · exact lineKept_shrShed _ (s.modShr _)
    · exact LineKept.refl s
  case h_4 => exact lineKept_shrEvaluate (s.modShr _)
  case h_5 => exact lineKept_shrFollow (s.modShr _)

theorem lineKept_shrSetSlot (st : SlotState) (s : State) : LineKept s (shrSetSlot st s) := by
  unfold shrSetSlot
  split_ifs
  · exact LineKept.refl s
  · exact (lineKept_bliSetReason .slot (s.modShr _)).trans (lineKept_alkRecord _ _ _)

theorem lineKept_shrRelease (s : State) : LineKept s (shrRelease s) :=
  lineKept_shrSetSlot .none (s.modShr _)

/-! ## HEATING left, and the ramp engine (R10, R32, R39, R42) -/

theorem lineKept_cycLeaveHeating (p : Phase) (s : State) : LineKept s (cycLeaveHeating p s) := by
  have hopen : LineKept s (drvMain ((prfIdle (cycSetPhase p s)).modDrv fun d => { d with permitted := false })) := by
    refine lineKept_of_flags (by simp) fun c b hc => ?_
    obtain ⟨hlow, hslot, hheat⟩ := FaultCode.ofBli_apart hc
    simp [hlow, prfIdle_faults, flagIn_clearFlag_ne hslot, flagIn_clearFlag_ne hheat]
  exact (hopen.trans (lineKept_shrRelease _)).trans (lineKept_shrWant 0 (State.modReg _ _))

theorem lineKept_cycComplete (s : State) : LineKept s (cycComplete s) := by
  unfold cycComplete
  split_ifs
  · exact lineKept_cycLeaveHeating .cooling (cycOutcome .completed s)
  · exact LineKept.refl s

theorem lineKept_rampEnter (s : State) : LineKept s (rampEnter s) := by
  unfold rampEnter
  simp only
  split
  case h_1 | h_2 => exact lineKept_of_frame (by simp) (by simp)
  case h_3 | h_4 => exact lineKept_cycComplete (State.modRamp _ _)

theorem lineKept_prfGrant (s : State) : LineKept s (prfGrant s) := by
  unfold prfGrant
  split_ifs
  · refine LineKept.trans (lineKept_of_flags (by simp) fun c b hc => ?_) (lineKept_rampEnter _)
    simp [(FaultCode.ofBli_apart hc).2.1]
  · exact lineKept_shrRelease s

theorem lineKept_shrHold (s : State) : LineKept s (shrHold s) :=
  (lineKept_shrSetSlot .hold (s.modShr _)).trans (lineKept_prfGrant _)

theorem lineKept_shrStatic (s : State) : LineKept s (shrStatic s) := by
  unfold shrStatic
  split_ifs
  · exact lineKept_shrHold s
  · exact LineKept.refl s

/-! ## Causes, fallback and the sums (R134, R138, R140, R154) -/

theorem lineKept_shrSlotFallback (s : State) : LineKept s (shrSlotFallback s) := by
  unfold shrSlotFallback
  split
  · exact (lineKept_shrSetSlot .none s).trans (lineKept_shrStatic _)
  · exact lineKept_shrStatic s
  all_goals exact LineKept.refl s

theorem lineKept_shrWithdraw (s : State) : LineKept s (shrWithdraw s) := by
  unfold shrWithdraw
  split_ifs
  · exact LineKept.refl s
  · exact lineKept_bliSetReason .withdraw (shrDropClaim s)

theorem lineKept_shrSolo (s : State) : LineKept s (shrSolo s) := by
  unfold shrSolo
  simp only
  split_ifs
  · exact lineKept_shrShed _ s
  · exact LineKept.refl s

theorem lineKept_shrEnterFallback (s : State) : LineKept s (shrEnterFallback s) :=
  ((((lineKept_shrWithdraw (s.modShr _)).trans (lineKept_shrSolo _)).trans (lineKept_bliSetReason .settled _)).trans
    (lineKept_shrSlotFallback _)).trans (lineKept_alkRecord _ _ _)

theorem lineKept_shrAddCause (c : Cause) (s : State) : LineKept s (shrAddCause c s) := by
  unfold shrAddCause
  simp only
  split
  case h_1 | h_2 => exact LineKept.refl s
  all_goals
    split_ifs
    · exact lineKept_shrEnterFallback (s.modShr _)
    · exact LineKept.refl s

theorem lineKept_shrRemoveCause (c : Cause) (s : State) : LineKept s (shrRemoveCause c s) := by
  unfold shrRemoveCause
  simp only
  split_ifs
  · exact (lineKept_bliSetReason .settled (State.modShr _ (s.modShr _))).trans (lineKept_alkRecord _ _ _)
  · exact LineKept.refl s

theorem lineKept_shrSums (x : Sums) (s : State) : LineKept s (shrSums x s) := by
  unfold shrSums
  simp only
  split_ifs
  · exact lineKept_shrEvaluate (s.modShr _)
  · exact LineKept.refl s

/-! ## PTB (R126 to R134) -/

theorem lineKept_ptbSignal (s : State) : LineKept s (ptbSignal s) := lineKept_shrSums _ s

theorem lineKept_ptbOverflowGone (s : State) : LineKept s (ptbOverflowGone s) := by
  unfold ptbOverflowGone
  split_ifs
  · exact (lineKept_of_frame (by simp) (by simp)).trans (lineKept_shrRemoveCause .overflow _)
  · exact LineKept.refl s

theorem lineKept_ptbRemove (cause station : Nat) (s : State) : LineKept s (ptbRemove cause station s) :=
  ((lineKept_of_frame (by simp) (by simp)).trans (lineKept_ptbSignal _)).trans (lineKept_ptbOverflowGone _)

theorem lineKept_ptbUpdate (old : Peer) (f : Frame) (s : State) : LineKept s (ptbUpdate old f s) := by
  unfold ptbUpdate
  simp only
  refine LineKept.trans ?_ (lineKept_ptbSignal _)
  split_ifs <;> exact lineKept_of_frame (by simp) (by simp)

theorem lineKept_ptbInsert (f : Frame) (s : State) : LineKept s (ptbInsert f s) := by
  unfold ptbInsert
  split_ifs
  · exact (lineKept_of_frame (by simp) (by simp)).trans (lineKept_ptbSignal _)
  · exact LineKept.refl s
  · exact (lineKept_of_frame (by simp) (by simp)).trans (lineKept_shrAddCause .overflow _)

theorem lineKept_ptbTake (f : Frame) (s : State) : LineKept s (ptbTake f s) := by
  unfold ptbTake
  split_ifs
  · split
    · exact lineKept_ptbRemove _ _ s
    · exact LineKept.refl s
    · exact lineKept_ptbUpdate _ f s
    · exact lineKept_ptbInsert f s
  · exact LineKept.refl s

end Sys2Proof.Machine
end

section
/-! CERTIFICATE. Attempts on the bank line (R110 to R115). -/

namespace Sys2Proof.Machine

/-! ## Free draws (log 1) -/

/-- A draw lies inside the bounds that its rule states (R111, R112, R114). -/
theorem State.drawIn_bounds (s : State) (lo : Nat) {span : Nat} (h : 0 < span) :
    lo ≤ s.drawIn lo span ∧ s.drawIn lo span < lo + span :=
  ⟨Nat.le_add_right _ _, Nat.add_lt_add_left (Nat.mod_lt _ h) _⟩

/-- A period lies between 875 and 1125 ms (R114). -/
theorem bliPeriod_bounds (s : State) : ∃ ms, 875 ≤ ms ∧ ms ≤ 1125 ∧ (bliPeriod s).bli.periodTimer = some ms := by
  obtain ⟨hlow, hhigh⟩ := s.drawIn_bounds 875 (span := 251) (by decide)
  exact ⟨_, hlow, by omega, rfl⟩

/-! ## Attempts (R110 to R113) -/

theorem bliAttempt_refused {s : State}
    (h : s.bli.tx ≠ .waiting ∨ s.bli.releasedRun < 12 + s.bli.backoff ∨ s.bli.frame = .other) : bliAttempt s = s := by
  have hmay : s.bli.mayBegin = false := by
    rcases h with h | h | h
    · simp [Bli.mayBegin, h]
    · simp [Bli.mayBegin, idleGap, Nat.not_le.mpr h]
    · exact Bli.mayBegin_of_other h
  unfold bliAttempt
  cases s.bli.nextKind <;> simp [hmay]

theorem bliAttempt_begins {k : FrameKind} {s : State} (htx : s.bli.tx = .waiting) (hframe : s.bli.frame ≠ .other)
    (hrun : 12 + s.bli.backoff ≤ s.bli.releasedRun) (hkind : s.bli.nextKind = some k) : bliAttempt s = bliBegin k s := by
  have hmay : s.bli.mayBegin = true := by simp [Bli.mayBegin, idleGap, htx, hframe, hrun]
  simp [bliAttempt, hkind, hmay]

/-- What BLI holds after a successful attempt, its period apart (R113). -/
theorem bliSucceed_bli (a : Attempt) (s : State) :
    (bliSucceed a s).bli.reasons = s.bli.reasons &&& ~~~a.sent ∧ (bliSucceed a s).bli.attempt = none ∧
      (bliSucceed a s).bli.backoff = 0 ∧ (bliSucceed a s).bli.output = .released ∧
      (bliSucceed a s).bli.tx = (if (bliSucceed a s).bli.reasons = 0 then .quiet else .waiting) ∧
      (bliSucceed a s).bli.lastKind = some a.frame.kind ∧
      ∃ ms, 875 ≤ ms ∧ ms ≤ 1125 ∧ (bliSucceed a s).bli.periodTimer = some ms := by
  have hperiod := bliPeriod_bounds (s.modBli fun b => { b with
    attempt := none, reasons := b.reasons &&& ~~~a.sent, backoff := 0, lastKind := some a.frame.kind, output := .released,
    releasedRun := 0 })
  by_cases hdepart : a.frame.kind = .depart
  · simpa [bliSucceed, hdepart, bliAfter, bliDepartSent, bliPeriod] using hperiod
  · simpa [bliSucceed, hdepart, bliAfter, bliPeriod] using hperiod

/-- SHR at a completion: the own claim and the own slot claim that went out settle (R145, R150). -/
theorem shrCompletion_shr (f : Frame) (s : State) :
    (shrCompletion f s).shr = { s.shr with
      claim := if s.shr.claim = .announcing ∧ 0 < f.claim ∧ f.claim = s.shr.co then .settling else s.shr.claim
      claimTimer := if s.shr.claim = .announcing ∧ 0 < f.claim ∧ f.claim = s.shr.co then some 300 else s.shr.claimTimer
      settleTimer := if s.shr.request = .claiming ∧ f.slot = .claim ∧ s.shr.settleTimer = none then some 300
        else s.shr.settleTimer } := by
  have hclaim : (if s.shr.claim = .announcing ∧ 0 < f.claim ∧ f.claim = s.shr.co then
      s.modShr fun u => { u with claim := .settling, claimTimer := some 300 } else s).shr = { s.shr with
        claim := if s.shr.claim = .announcing ∧ 0 < f.claim ∧ f.claim = s.shr.co then .settling else s.shr.claim
        claimTimer :=
          if s.shr.claim = .announcing ∧ 0 < f.claim ∧ f.claim = s.shr.co then some 300 else s.shr.claimTimer } := by
    split_ifs <;> rfl
  have hslot : ∀ t : State, (if t.shr.request = .claiming ∧ f.slot = .claim ∧ t.shr.settleTimer = none then
      t.modShr fun u => { u with settleTimer := some 300 } else t).shr = { t.shr with
        settleTimer := if t.shr.request = .claiming ∧ f.slot = .claim ∧ t.shr.settleTimer = none then some 300
          else t.shr.settleTimer } := by
    intro t
    split_ifs <;> rfl
  rw [shrCompletion, hslot, hclaim]

theorem bliSucceed_shr (a : Attempt) (s : State) : (bliSucceed a s).shr = (shrCompletion a.frame s).shr := by
  by_cases hdepart : a.frame.kind = .depart <;> simp [bliSucceed, hdepart, shrCompletion_shr]

/-- A successful attempt reaches ALK by the departure that it may complete (R115, R176). -/
theorem bliSucceed_alk (a : Attempt) (s : State) :
    (bliSucceed a s).alk = if a.frame.kind = .depart then (alkDeparture .sent s).alk else s.alk := by
  by_cases hdepart : a.frame.kind = .depart <;> simp [bliSucceed, hdepart, bliDepartSent, alkDeparture]

theorem bliSucceed_departureTimer {a : Attempt} (h : a.frame.kind = .depart) (s : State) :
    (bliSucceed a s).bli.departureTimer = none := by
  simp [bliSucceed, h, bliDepartSent]

/-- The departure that a reset waits for is reported to it (R115). -/
theorem alkDeparture_waiting {s : State} {r : ResetPending} (hr : s.alk.resetPending = some r) (hw : r.departure = .waiting)
    (d : Departure) : (alkDeparture d s).alk.resetPending = some { r with departure := d } := by
  simp [alkDeparture, hr, hw]

/-- A completion enters nothing that the end of an event examines (R113, R160). -/
theorem takeEvent_bliComplete {a : Attempt} {s : State} (htx : s.bli.tx = .sending) (ha : s.bli.attempt = some a) :
    takeEvent bliComplete s = bliSucceed a s := by
  have hsent : bliComplete s = bliSucceed a s := by simp [bliComplete, htx, ha]
  rw [takeEvent_of_unexamined, hsent]
  rw [hsent]
  exact examines_eq_false (by simp) (by simp)

/-- Settles O56: each row is one operation of BLI, and a completion reaches SHR and ALK as R113 and R115 have it. -/
theorem attemptRuns : Obligations.AttemptRuns := by
  intro s
  refine ⟨?refused, ?held, ?begins, ?lost, ?completes⟩
  case refused => exact fun h => next_congr (bliAttempt_refused h)
  case held =>
    intro h
    have hline : tickLine (freeLine s.draws) s.bli = s.bli := tickLine_of_other h
    simp [advanceMs, hline, h]
  case begins =>
    intro k htx hframe hrun hkind
    obtain ⟨hlow, hhigh⟩ := s.drawIn_bounds 1 (span := 255) (by decide)
    exact ⟨bliBegin k s, next_congr (bliAttempt_begins htx hframe hrun hkind), rfl, rfl, rfl, rfl, rfl,
      ⟨s.drawIn 1 255, hlow, by omega, rfl⟩, rfl⟩
  case lost =>
    intro htx
    obtain ⟨-, hhigh⟩ := s.drawIn_bounds 0 (span := 16) (by decide)
    exact ⟨bliLost s, next_congr (if_pos htx), rfl, rfl, rfl, rfl, ⟨s.drawIn 0 16, by omega, rfl⟩, rfl⟩
  case completes =>
    intro a htx ha
    obtain ⟨hreasons, hattempt, hbackoff, houtput, hstate, hkind, hperiod⟩ := bliSucceed_bli a s
    refine ⟨bliSucceed a s, next_congr (takeEvent_bliComplete htx ha), hreasons, hattempt, hbackoff, houtput, hstate, hkind,
      hperiod, ?claim, ?slot, ?depart, by simp, by simp, ?events, ?apart⟩
    case claim =>
      intro hc h0 hco
      simp [bliSucceed_shr, shrCompletion_shr, hc, ← hco, h0]
    case slot =>
      intro hreq hslot hsettle
      simp [bliSucceed_shr, shrCompletion_shr, hreq, hslot, hsettle]
    case depart =>
      intro hdepart
      refine ⟨bliSucceed_departureTimer hdepart s, fun r hr hw => ?_⟩
      rw [bliSucceed_alk, if_pos hdepart, alkDeparture_waiting hr hw]
    case events =>
      rw [bliSucceed_alk]
      split_ifs <;> rfl
    case apart => apply State.eq_of_blocks <;> simp

end Sys2Proof.Machine
end

section
/-! CERTIFICATE. BLI's timers (R114, R115, R121) and the line conditions (R105, R106, R119, R120). -/

namespace Sys2Proof.Machine

/-! ## Causes and the entry to FALLBACK (R138, R140) -/

theorem shrAddCause_causes (c : Cause) (s : State) : (shrAddCause c s).shr.causes = s.shr.causes ||| c.bit := by
  unfold shrAddCause
  simp only
  split
  case h_1 | h_2 => rfl
  all_goals split_ifs <;> simp

theorem shrRemoveCause_causes (c : Cause) (s : State) : (shrRemoveCause c s).shr.causes = s.shr.causes &&& ~~~c.bit := by
  unfold shrRemoveCause
  simp only
  split_ifs <;> simp

/-- The first cause in SHARING brings FALLBACK (R140). -/
theorem shrAddCause_first {c : Cause} {s : State} (hcauses : s.shr.causes = 0) (hstate : s.shr.state = .sharing) :
    shrAddCause c s = shrEnterFallback (s.modShr fun u => { u with causes := u.causes ||| c.bit }) := by
  simp [shrAddCause, hcauses, hstate]

/-- A want in FALLBACK moves Ho and no claim (R141). -/
theorem cycLeaveHeating_claim {p : Phase} {s : State} (h : s.shr.state = .fallback) :
    (cycLeaveHeating p s).shr.claim = s.shr.claim ∧ (cycLeaveHeating p s).shr.co = s.shr.co := by
  simp [cycLeaveHeating, regLeave, shrWant, h]

theorem rampEnter_claim {s : State} (h : s.shr.state = .fallback) :
    (rampEnter s).shr.claim = s.shr.claim ∧ (rampEnter s).shr.co = s.shr.co := by
  unfold rampEnter cycComplete
  simp only
  split
  case h_1 | h_2 => simp
  all_goals
    split_ifs
    · simp [cycLeaveHeating_claim, h]
    · simp

theorem shrStatic_claim {s : State} (h : s.shr.state = .fallback) :
    (shrStatic s).shr.claim = s.shr.claim ∧ (shrStatic s).shr.co = s.shr.co := by
  unfold shrStatic shrHold prfGrant
  split_ifs <;> simp [rampEnter_claim, h]

theorem shrSlotFallback_claim {s : State} (h : s.shr.state = .fallback) :
    (shrSlotFallback s).shr.claim = s.shr.claim ∧ (shrSlotFallback s).shr.co = s.shr.co := by
  unfold shrSlotFallback
  split <;> simp [shrStatic_claim, h]

/-- FALLBACK is entered with no claim, one that stood withdrawn (R140). -/
theorem shrEnterFallback_effects (s : State) :
    (shrEnterFallback s).shr.state = .fallback ∧ (shrEnterFallback s).shr.claim = .none ∧
      (s.shr.claim ≠ .none → (shrEnterFallback s).shr.co = 0) := by
  by_cases hclaim : s.shr.claim = .none
  · simp [shrEnterFallback, shrSlotFallback_claim, shrWithdraw, hclaim]
  · simp [shrEnterFallback, shrSlotFallback_claim, shrWithdraw, hclaim, shrDropClaim]

/-! ## The timers (R114, R115, R121) -/

/-- PERIODIC is set, and a new period begins (R114). -/
theorem periodExpiry_effects {s : State} (htimer : s.bli.periodTimer.isSome = true) (hoff : s.bli.tx ≠ .off)
    (hstopped : s.bli.tx ≠ .stopped) :
    ∃ t, exec .periodExpiry s = .next t ∧
      t.bli.reasons = s.bli.reasons ||| FrameKind.periodic.bit ∧
      t.bli.tx = (if s.bli.tx = .quiet then .waiting else s.bli.tx) ∧
      (∃ ms, 875 ≤ ms ∧ ms ≤ 1125 ∧ t.bli.periodTimer = some ms) ∧ { t with bli := s.bli, draws := s.draws } = s := by
  refine ⟨bliPeriod (bliSetReason .periodic s), next_congr (if_pos htimer), ?_, ?_, bliPeriod_bounds _, ?_⟩
  · simp [bliPeriod, bliSetReason_reasons, hoff, hstopped]
  · simp [bliPeriod, bliSetReason_tx]
  · apply State.eq_of_blocks <;> simp

/-- The departure was not sent, and an attempt on the line is cut off (R115; log 24). -/
theorem departureTimeout_effects {s : State} (htimer : s.bli.departureTimer.isSome = true) :
    ∃ t, exec .departureTimeout s = .next t ∧ t.bli.departureTimer = none ∧
      (if s.bli.tx = .sending then t.bli.tx = .waiting ∧ t.bli.attempt = none ∧ t.bli.output = .released
       else t.bli = { s.bli with departureTimer := none }) ∧
      (∀ r, s.alk.resetPending = some r → r.departure = .waiting →
        t.alk.resetPending = some { r with departure := .notSent }) ∧
      { t with bli := s.bli, alk := { t.alk with resetPending := s.alk.resetPending } } = s := by
  refine ⟨bliDepartFails (bliCutOff s), next_congr (if_pos htimer), rfl, ?_, fun r hr hw => ?_, ?_⟩
  · by_cases hsending : s.bli.tx = .sending <;> simp [bliDepartFails, bliCutOff, hsending]
  · unfold bliDepartFails
    refine alkDeparture_waiting ?_ hw .notSent
    unfold bliCutOff
    split_ifs <;> simpa using hr
  · unfold bliCutOff
    split_ifs <;> rfl

/-- Settles O57: each timer's row is one operation of BLI; the silence reaches SHR as a cause. -/
theorem bankTimersExpire : Obligations.BankTimersExpire := by
  intro s
  refine ⟨periodExpiry_effects, departureTimeout_effects, fun htimer hsilent => ?_⟩
  have hcase : bliSilent s =
      shrAddCause .silent (lineRecord 1 true (s.modBli fun b => { b with silent := true })) := by
    simp [bliSilent, htimer, hsilent]
  refine ⟨takeEvent bliSilent s, rfl, by simp [hcase], by simp [hcase, shrAddCause_causes], by simp [hcase], by simp [hcase],
    by simp [hcase], fun hcauses hstate => ?_⟩
  have hfall : bliSilent s = shrEnterFallback ((lineRecord 1 true (s.modBli fun b => { b with silent := true })).modShr
      fun u => { u with causes := u.causes ||| Cause.silent.bit }) := by
    rw [hcase, shrAddCause_first (by simpa using hcauses) (by simpa using hstate)]
  obtain ⟨hfallback, hnone, hdropped⟩ := shrEnterFallback_effects
    ((lineRecord 1 true (s.modBli fun b => { b with silent := true })).modShr
      fun u => { u with causes := u.causes ||| Cause.silent.bit })
  simp only [takeEvent_frame, hfall]
  exact ⟨hfallback, hnone, fun h => hdropped (by simpa using h)⟩

/-! ## The line conditions (R105, R106, R119, R120) -/

/-- A degrade-class report reaches PRT and the list alone (R161). -/
theorem prtRaise_degrade {c : FaultCode} (hc : c.cls = .degrade) (s : State) :
    prtRaise c s = if flagIn c true s.prt.faults = true then s else prtEnter c s := by
  split_ifs with h
  · exact prtRaise_present c s (by rwa [any_present_eq_flagIn])
  · simp [prtRaise_new (Bool.eq_false_iff.mpr h), prtAction, hc]

theorem prtRaise_degrade_bli {c : FaultCode} (hc : c.cls = .degrade) (s : State) : (prtRaise c s).bli = s.bli := by
  rw [prtRaise_degrade hc]
  split_ifs <;> simp

/-- A degrade-class code stands once reported, new or not (R158). -/
theorem flagIn_prtRaise_degrade_self {c : FaultCode} (hc : c.cls = .degrade) (s : State) :
    flagIn c true (prtRaise c s).prt.faults = true := by
  rw [prtRaise_degrade hc]
  split_ifs with h
  · exact h
  · simp [flagIn_raiseFlag]

theorem FaultCode.cls_of_ofBli {c : FaultCode} (h : c.ofBli = true) : c.cls = .degrade := by
  cases c <;> simp_all [FaultCode.ofBli, FaultCode.cls]

/-- A code of BLI that is reported, and whose cause SHR then takes, stands at the end of the event. -/
theorem holdsFault_takeEvent_of_reported {c : FaultCode} (hc : c.ofBli = true) {cause : Cause} {f : State → State}
    {s m : State} (hf : (f s).prt = (shrAddCause cause (prtRaise c m)).prt) : (takeEvent f s).holdsFault c true := by
  obtain ⟨-, -, hflags⟩ := lineKept_shrAddCause cause (prtRaise c m)
  have hstands : flagIn c true (f s).prt.faults = true := by
    rw [hf, hflags c true hc, flagIn_prtRaise_degrade_self (FaultCode.cls_of_ofBli hc)]
  rw [holdsFault_iff]
  rcases takeEvent_cases f s with h | ⟨h, -⟩
  · rw [h, hstands]
  · simpa [h, lckUnlock, (FaultCode.ofBli_apart hc).1] using hstands

/-- BLI with TX_STUCK latched: STOPPED, and what SHR sets is discarded (R109, R120). -/
theorem bliStuck_bli (s : State) :
    (bliStuck s).bli = { s.bli with
      txStuck := true, tx := .stopped, reasons := 0, attempt := none, output := .disabled, frame := .none,
      periodTimer := none, departureTimer := none, heldTimer := 0, releasedRun := 0 } := by
  obtain ⟨-, hstopped, -⟩ := lineKept_shrAddCause .txStuck (prtRaise .txStuck (bliDepartFails (s.modBli fun b => { b with
    txStuck := true, tx := .stopped, reasons := 0, attempt := none, output := .disabled, frame := .none,
    periodTimer := none, heldTimer := 0, releasedRun := 0 })))
  rw [prtRaise_degrade_bli rfl] at hstopped
  exact hstopped rfl

theorem lineHeld_effects {s : State} (h : s.bli.lineHeld = false) :
    ∃ t, exec (.lineHeld false) s = .next t ∧ t.bli.lineHeld = true ∧ t.bli.txStuck = s.bli.txStuck ∧
      t.shr.causes = s.shr.causes ||| Cause.lineHeld.bit ∧ t.ptb = s.ptb := by
  have hheld : bliHeldExpiry false s = shrAddCause .lineHeld (lineRecord 2 true
      (s.modBli fun b => { b with heldTimer := 8, releasedRun := 0, lineHeld := true })) := by
    simp [bliHeldExpiry, bliHeld, h, State.modBli]
  exact ⟨takeEvent (bliHeldExpiry false) s, rfl, by simp [hheld], by simp [hheld], by simp [hheld, shrAddCause_causes],
    by simp [hheld]⟩

theorem txStuck_effects {s : State} (h : s.bli.txStuck = false) :
    ∃ t, exec (.lineHeld true) s = .next t ∧ t.bli.txStuck = true ∧ t.bli.tx = .stopped ∧ t.bli.reasons = 0 ∧
      t.bli.attempt = none ∧ t.bli.output = .disabled ∧ t.bli.periodTimer = none ∧ t.bli.departureTimer = none ∧
      t.bli.lineHeld = s.bli.lineHeld ∧ t.holdsFault .txStuck true ∧
      t.shr.causes = s.shr.causes ||| Cause.txStuck.bit := by
  have hstuck : bliHeldExpiry true s = bliStuck s := by simp [bliHeldExpiry, h]
  have hbli := bliStuck_bli s
  refine ⟨takeEvent (bliHeldExpiry true) s, rfl, ?_, ?_, ?_, ?_, ?_, ?_, ?_, ?_,
    holdsFault_takeEvent_of_reported rfl (by rw [hstuck]; rfl), ?_⟩
  case refine_9 => simp [hstuck, bliStuck, shrAddCause_causes]
  all_goals simp [hstuck, hbli]

/-- The line at rest, LINE_HELD reported gone (R106, R119). -/
def lineRested (s : State) : State :=
  lineRecord 2 false (s.modBli fun b => { b with
    heldTimer := 0, releasedRun := max 12 b.releasedRun, frame := if b.tx = .sending then b.frame else .none,
    lineHeld := false })

theorem lineRested_releasedRun (s : State) : (lineRested s).bli.releasedRun = max 12 s.bli.releasedRun := by
  simp [lineRested]

theorem lineRested_heldTimer (s : State) : (lineRested s).bli.heldTimer = 0 := by
  simp [lineRested]

theorem bliIdle_held {s : State} (h : s.bli.lineHeld = true) : bliIdle s = shrRemoveCause .lineHeld (lineRested s) := by
  simp [bliIdle, h, lineRested, State.modBli, idleGap]

/-- The line has come to rest: LINE_HELD ends, and where it did not stand SHR hears nothing (R106, R119). -/
theorem lineIdle_effects (s : State) :
    ∃ t, exec .lineIdle s = .next t ∧ t.bli.lineHeld = false ∧ t.bli.releasedRun = max 12 s.bli.releasedRun ∧
      t.bli.heldTimer = 0 ∧ t.ptb = s.ptb ∧ t.shr.ho = s.shr.ho ∧ (s.bli.lineHeld = false → t.shr = s.shr) := by
  refine ⟨takeEvent bliIdle s, rfl, ?_⟩
  cases hheld : s.bli.lineHeld
  case false => simp [bliIdle, hheld, idleGap]
  case true =>
    obtain ⟨-, -, -, hrun, htimer, -⟩ := (lineKept_shrRemoveCause .lineHeld (lineRested s)).fields
    rw [lineRested_releasedRun] at hrun
    rw [lineRested_heldTimer] at htimer
    simp only [takeEvent_frame, bliIdle_held hheld, hrun, htimer]
    simp [lineRested]

/-- Settles O59: the cause goes by the own driver; idle ends LINE_HELD, and a glitch touches the released run alone. -/
theorem lineConditions : Obligations.LineConditions := by
  intro s
  exact ⟨lineHeld_effects, fun h _ => txStuck_effects h, lineIdle_effects s, ⟨_, rfl, rfl, rfl⟩⟩

end Sys2Proof.Machine
end

section
/-! SUPPORT. PTB's operations: what the table, the sums and the causes are after each (R126 to R130, R134). -/

namespace Sys2Proof.Machine

/-! ## The table as a list (R125, R127, R129) -/

theorem mem_insertPeer {p q : Peer} {l : List Peer} : q ∈ insertPeer p l ↔ q = p ∨ q ∈ l := by
  induction l with
  | nil => simp [insertPeer]
  | cons r l ih =>
    unfold insertPeer
    split_ifs
    · simp
    · simp only [List.mem_cons, ih]
      exact or_left_comm

theorem mem_replacePeer_self {p : Peer} {l : List Peer} (h : (peerOf p.station l).isSome = true) :
    p ∈ replacePeer p l := by
  obtain ⟨q, hq, hstation⟩ := List.find?_isSome.mp h
  exact List.mem_map.mpr ⟨q, hq, if_pos (by simpa using hstation)⟩

theorem mem_replacePeer_of_ne {p q : Peer} {l : List Peer} (hq : q ∈ l) (h : q.station ≠ p.station) :
    q ∈ replacePeer p l :=
  List.mem_map.mpr ⟨q, hq, if_neg h⟩

/-! ## The change signal and OVERFLOW (R130, R134) -/

@[simp] theorem ptbSet_records (l : List Peer) (s : State) : (ptbSet l s).ptb.records = l := rfl

theorem ptbSignal_sums (s : State) : (ptbSignal s).shr.sums = tableSums s.soloAllowance s.ptb.records := by
  unfold ptbSignal shrSums
  simp only
  split_ifs <;> simp

theorem State.soloAllowance_congr {s t : State} (hi : t.alk.items = s.alk.items) (hc : t.alk.committed = s.alk.committed) :
    t.soloAllowance = s.soloAllowance := by
  simp [State.soloAllowance, State.cfg_congr hi hc]

theorem State.accepts_congr {s t : State} (hi : t.alk.items = s.alk.items) (hc : t.alk.committed = s.alk.committed)
    (group : Nat) : t.accepts group = s.accepts group := by
  simp [State.accepts, State.cfg_congr hi hc]

theorem ptbOverflowGone_overflow (s : State) : (ptbOverflowGone s).ptb.overflow = false := by
  unfold ptbOverflowGone
  split_ifs with h
  · simp
  · simpa using h

/-! ## A record updated, inserted, removed, or refused (R127 to R130) -/

/-- The table after an accepted frame of a station with a record (R127). -/
theorem ptbUpdate_table (old : Peer) (f : Frame) (s : State) :
    (ptbUpdate old f s).ptb.records = replacePeer (Peer.ofFrame f) s.ptb.records ∧
      (ptbUpdate old f s).shr.sums = tableSums s.soloAllowance (ptbUpdate old f s).ptb.records := by
  unfold ptbUpdate
  simp only
  split_ifs <;> simp [ptbSignal_sums, State.soloAllowance_congr (s := s)]

/-- The table after an accepted frame of a new station, with room for its record (R129). -/
theorem ptbInsert_table {f : Frame} {s : State} (h : s.ptb.records.length < 15) :
    (ptbInsert f s).ptb.records = insertPeer (Peer.ofFrame f) s.ptb.records ∧
      (ptbInsert f s).ptb.overflow = s.ptb.overflow ∧
      (ptbInsert f s).shr.sums = tableSums s.soloAllowance (ptbInsert f s).ptb.records := by
  simp [ptbInsert, h, ptbSignal_sums, State.soloAllowance_congr (s := s)]

/-- The table is full: the frame is dropped, and OVERFLOW is SHR's to know at its first setting (R130). -/
theorem ptbInsert_full {f : Frame} {s : State} (h : 15 ≤ s.ptb.records.length) :
    (ptbInsert f s).ptb.records = s.ptb.records ∧ (ptbInsert f s).ptb.overflow = true ∧
      (s.ptb.overflow = false → (ptbInsert f s).shr.causes.getLsbD 5 = true) := by
  have hfull : ¬ s.ptb.records.length < 15 := by omega
  cases hover : s.ptb.overflow <;> simp [ptbInsert, hfull, hover, shrAddCause_causes, Cause.bit]

/-- The table without a departed station's record (R128, R130). -/
theorem ptbRemove_table (cause station : Nat) (s : State) :
    (ptbRemove cause station s).ptb.records = removePeer station s.ptb.records ∧
      (ptbRemove cause station s).ptb.overflow = false ∧
      (ptbRemove cause station s).shr.sums = tableSums s.soloAllowance (ptbRemove cause station s).ptb.records := by
  simp [ptbRemove, ptbOverflowGone_overflow, ptbSignal_sums, State.soloAllowance_congr (s := s)]

/-! ## The frame taken (R124, R126) -/

section
variable {f : Frame} {s : State}

theorem ptbTake_filtered (h : s.accepts f.group = false) : ptbTake f s = s := by
  simp [ptbTake, h]

theorem ptbTake_departed (hc : s.alk.committed = true) (ha : s.accepts f.group = true) (hk : f.kind = .depart) :
    ptbTake f s = if (peerOf f.station s.ptb.records).isSome = true then ptbRemove 0 f.station s else s := by
  cases h : peerOf f.station s.ptb.records <;> simp [ptbTake, hc, ha, hk, h]

theorem ptbTake_known {old : Peer} (hc : s.alk.committed = true) (ha : s.accepts f.group = true) (hk : f.kind ≠ .depart)
    (h : peerOf f.station s.ptb.records = some old) : ptbTake f s = ptbUpdate old f s := by
  simp [ptbTake, hc, ha, h]

theorem ptbTake_unknown (hc : s.alk.committed = true) (ha : s.accepts f.group = true) (hk : f.kind ≠ .depart)
    (h : peerOf f.station s.ptb.records = none) : ptbTake f s = ptbInsert f s := by
  simp [ptbTake, hc, ha, h]

/-- A frame with a place in the table is its station's record afterwards, and every other record stands (R127, R129). -/
theorem ptbTake_placed (hc : s.alk.committed = true) (ha : s.accepts f.group = true) (hk : f.kind ≠ .depart)
    (h : (peerOf f.station s.ptb.records).isSome = true ∨ s.ptb.records.length < 15) :
    Peer.ofFrame f ∈ (ptbTake f s).ptb.records ∧
      (∀ p ∈ s.ptb.records, p.station ≠ f.station → p ∈ (ptbTake f s).ptb.records) ∧
      (ptbTake f s).ptb.overflow = s.ptb.overflow ∧
      (ptbTake f s).shr.sums = tableSums s.soloAllowance (ptbTake f s).ptb.records := by
  cases hold : peerOf f.station s.ptb.records with
  | some old =>
    obtain ⟨hrecords, hsums⟩ := ptbUpdate_table old f s
    have hknown : (peerOf (Peer.ofFrame f).station s.ptb.records).isSome = true := Option.isSome_of_eq_some hold
    rw [ptbTake_known hc ha hk hold]
    refine ⟨?_, fun p hp hne => ?_, by simp, hsums⟩
    · rw [hrecords]
      exact mem_replacePeer_self hknown
    · rw [hrecords]
      exact mem_replacePeer_of_ne hp hne
  | none =>
    obtain ⟨hrecords, hover, hsums⟩ := ptbInsert_table (f := f) (s := s) (h.resolve_left (by simp [hold]))
    rw [ptbTake_unknown hc ha hk hold]
    refine ⟨?_, fun p hp _ => ?_, hover, hsums⟩
    · rw [hrecords]
      exact mem_insertPeer.mpr (.inl rfl)
    · rw [hrecords]
      exact mem_insertPeer.mpr (.inr hp)

/-- PTB moves no cause but OVERFLOW (R130): UNRELIABLE stands as it stood. -/
theorem ptbTake_unreliable_cause : (ptbTake f s).shr.causes.getLsbD 0 = s.shr.causes.getLsbD 0 := by
  have hremove : (ptbRemove 0 f.station s).shr.causes.getLsbD 0 = s.shr.causes.getLsbD 0 := by
    unfold ptbRemove ptbOverflowGone
    split_ifs <;> simp [shrRemoveCause_causes, Cause.bit]
  have hinsert : (ptbInsert f s).shr.causes.getLsbD 0 = s.shr.causes.getLsbD 0 := by
    unfold ptbInsert
    split_ifs <;> simp [shrAddCause_causes, Cause.bit]
  unfold ptbTake
  split_ifs
  · split
    · exact hremove
    · rfl
    · simp
    · exact hinsert
  · rfl

end

end Sys2Proof.Machine
end

section
/-! CERTIFICATE. Reception (R116 to R118, R121): a frame is classed, counted, heard and taken. -/

namespace Sys2Proof.Machine

/-! ## The receive error counter and the silence (R118, R121) -/

/-- UNRELIABLE's change reaches nothing that LINE_STATE and SHR do not (R118): the silence timer runs on. -/
theorem bliReliability_silenceTimer (s : State) : (bliReliability s).bli.silenceTimer = s.bli.silenceTimer := by
  unfold bliReliability
  split_ifs
  · obtain ⟨-, -, -, -, -, htimer⟩ := (lineKept_shrAddCause .unreliable
      (lineRecord 0 true (s.modBli fun b => { b with unreliable := true }))).fields
    rw [htimer]
    simp
  · obtain ⟨-, -, -, -, -, htimer⟩ := (lineKept_shrRemoveCause .unreliable
      (lineRecord 0 false (s.modBli fun b => { b with unreliable := false }))).fields
    rw [htimer]
    simp
  · rfl

theorem bliReliability_sets {s : State} (h : s.bli.unreliable = false) (hcount : 24 ≤ s.bli.errors) :
    (bliReliability s).bli.unreliable = true ∧
      (bliReliability s).shr.causes = s.shr.causes ||| Cause.unreliable.bit := by
  simp [bliReliability, h, hcount, shrAddCause_causes]

theorem bliReliability_clears {s : State} (h : s.bli.unreliable = true) (hcount : s.bli.errors ≤ 8) :
    (bliReliability s).bli.unreliable = false ∧ (bliReliability s).shr.causes.getLsbD 0 = false := by
  simp [bliReliability, h, hcount, shrRemoveCause_causes, Cause.bit]

/-- SILENT's end clears its own cause alone (R121). -/
theorem bliHeard_unreliable_cause (s : State) : (bliHeard s).shr.causes.getLsbD 0 = s.shr.causes.getLsbD 0 := by
  unfold bliHeard
  simp only
  split_ifs <;> simp [shrRemoveCause_causes, Cause.bit]

theorem bliHeard_silenceTimer (s : State) : (bliHeard s).bli.silenceTimer = s.bli.silenceTimer.map fun _ => 0 := by
  unfold bliHeard
  simp only
  split_ifs
  · obtain ⟨-, -, -, -, -, htimer⟩ := (lineKept_shrRemoveCause .silent (lineRecord 1 false
      ((s.modBli fun b => { b with silenceTimer := b.silenceTimer.map fun _ => 0 }).modBli
        fun b => { b with silent := false }))).fields
    rw [htimer]
    simp
  · rfl

theorem bliBad_counts (s : State) :
    (bliBad s).bli.errors = satSucc 31 s.bli.errors ∧ (bliBad s).bli.silenceTimer = s.bli.silenceTimer := by
  simp [bliBad, bliReliability_silenceTimer]

theorem bliGood_counts (s : State) :
    (bliGood s).bli.errors = s.bli.errors - 1 ∧
      (bliGood s).bli.silenceTimer = s.bli.silenceTimer.map fun _ => 0 := by
  simp [bliGood, bliHeard_silenceTimer, bliReliability_silenceTimer]

/-! ## A frame by its class and its sender (R116, R117) -/

section
variable {nbits : Nat} {bits : BitVec 64} {f : Frame} {s : State}

theorem bliClassed_bad {c : RxClass} (h : ∀ f, c ≠ .good f) (s : State) : bliClassed c s = bliBad s := by
  cases c with
  | cutShort | checkFailed | invalidCode => rfl
  | good f => exact absurd rfl (h f)

theorem bliGoodFrame_own (hframe : s.bli.frame = .own) (hstation : f.station = s.cfg .station) : bliGoodFrame f s = s := by
  simp [bliGoodFrame, State.ownFrame, hframe, hstation]

theorem bliGoodFrame_other (hstation : f.station ≠ s.cfg .station) : bliGoodFrame f s = ptbTake f (bliGood s) := by
  simp [bliGoodFrame, State.ownFrame, hstation]

theorem bliGoodFrame_conflict (hframe : s.bli.frame ≠ .own) (hstation : f.station = s.cfg .station) :
    bliGoodFrame f s = bliConflict (bliGood s) := by
  simp [bliGoodFrame, State.ownFrame, hframe, hstation]

/-! ## The row of each -/

theorem frameReceived_bad (h : ∀ f, classify nbits bits ≠ .good f) :
    (takeEvent (bliReceive nbits bits) s).bli.errors = satSucc 31 s.bli.errors ∧
      (takeEvent (bliReceive nbits bits) s).ptb = s.ptb ∧
      (takeEvent (bliReceive nbits bits) s).bli.silenceTimer = s.bli.silenceTimer := by
  simp [bliReceive, bliClassed_bad h, bliBad_counts]

/-- A reception with nothing handled gives CYC nothing to examine. -/
theorem frameReceived_own (h : classify nbits bits = .good f) (hframe : s.bli.frame = .own)
    (hstation : f.station = s.cfg .station) :
    takeEvent (bliReceive nbits bits) s = s.modBli fun b => { b with frame := .none, releasedRun := 0 } := by
  have hreceive : bliReceive nbits bits s = s.modBli fun b => { b with frame := .none, releasedRun := 0 } := by
    simp [bliReceive, h, bliClassed, bliGoodFrame_own hframe hstation]
  rw [takeEvent_of_unexamined, hreceive]
  rw [hreceive]
  exact examines_eq_false (by simp) (by simp)

/-- What another station's good frame leaves is what BLI counts and PTB takes. -/
theorem frameReceived_other (h : classify nbits bits = .good f) (hstation : f.station ≠ s.cfg .station) :
    (takeEvent (bliReceive nbits bits) s).bli.errors = s.bli.errors - 1 ∧
      (takeEvent (bliReceive nbits bits) s).bli.silenceTimer = s.bli.silenceTimer.map (fun _ => 0) ∧
      (takeEvent (bliReceive nbits bits) s).ptb = (ptbTake f (bliGood s)).ptb ∧
      (takeEvent (bliReceive nbits bits) s).shr = (ptbTake f (bliGood s)).shr := by
  obtain ⟨herrors, hsilence⟩ := bliGood_counts s
  obtain ⟨-, -, -, -, -, htimer⟩ := (lineKept_ptbTake f (bliGood s)).fields
  simp [bliReceive, h, bliClassed, bliGoodFrame_other hstation, herrors, htimer, hsilence]

theorem bliConflict_latches (s : State) : (bliConflict s).bli.numberConflict = true := by
  unfold bliConflict
  split_ifs with h
  · exact h
  · simp [prtRaise_degrade_bli (c := .numberConflict) rfl]

theorem bliConflict_silenceTimer (s : State) : (bliConflict s).bli.silenceTimer = s.bli.silenceTimer := by
  unfold bliConflict
  split_ifs
  · rfl
  · obtain ⟨-, -, -, -, -, htimer⟩ := (lineKept_shrAddCause .numberConflict
      (prtRaise .numberConflict (s.modBli fun b => { b with numberConflict := true }))).fields
    rw [htimer, prtRaise_degrade_bli rfl]
    rfl

theorem frameReceived_conflict (h : classify nbits bits = .good f) (hframe : s.bli.frame ≠ .own)
    (hstation : f.station = s.cfg .station) :
    (takeEvent (bliReceive nbits bits) s).bli.errors = s.bli.errors - 1 ∧
      (takeEvent (bliReceive nbits bits) s).bli.silenceTimer = s.bli.silenceTimer.map (fun _ => 0) ∧
      (takeEvent (bliReceive nbits bits) s).bli.numberConflict = true ∧
      (takeEvent (bliReceive nbits bits) s).ptb = s.ptb := by
  simp [bliReceive, h, bliClassed, bliGoodFrame_conflict hframe hstation, bliConflict_latches, bliConflict_silenceTimer,
    bliGood_counts]

/-- The first conflict is reported and becomes a cause (R117, R138). -/
theorem frameReceived_first_conflict (h : classify nbits bits = .good f) (hframe : s.bli.frame ≠ .own)
    (hstation : f.station = s.cfg .station) (hfirst : s.bli.numberConflict = false) :
    (takeEvent (bliReceive nbits bits) s).holdsFault .numberConflict true ∧
      (takeEvent (bliReceive nbits bits) s).shr.causes.getLsbD 4 = true := by
  have hreceive : bliReceive nbits bits s = (shrAddCause .numberConflict (prtRaise .numberConflict
      ((bliGood s).modBli fun b => { b with numberConflict := true }))).modBli
        fun b => { b with frame := .none, releasedRun := 0 } := by
    simp [bliReceive, h, bliClassed, bliGoodFrame_conflict hframe hstation, bliConflict, hfirst]
  refine ⟨holdsFault_takeEvent_of_reported rfl (by rw [hreceive]; rfl), ?_⟩
  simp [hreceive, shrAddCause_causes, Cause.bit]

/-! ## UNRELIABLE set and cleared (R118) -/

theorem unreliable_set (h : ∀ f, classify nbits bits ≠ .good f) (hcount : s.bli.errors = 23)
    (hclear : s.bli.unreliable = false) :
    (takeEvent (bliReceive nbits bits) s).bli.unreliable = true ∧
      (takeEvent (bliReceive nbits bits) s).shr.causes = s.shr.causes ||| Cause.unreliable.bit := by
  obtain ⟨hset, hcauses⟩ := bliReliability_sets
    (s := s.modBli fun b => { b with errors := satSucc 31 b.errors }) hclear (by simp [hcount, satSucc])
  simp [bliReceive, bliClassed_bad h, bliBad, hset, hcauses]

theorem unreliable_cleared (h : classify nbits bits = .good f) (hstation : f.station ≠ s.cfg .station)
    (hcount : s.bli.errors = 9) (hset : s.bli.unreliable = true) :
    (takeEvent (bliReceive nbits bits) s).bli.unreliable = false ∧
      (takeEvent (bliReceive nbits bits) s).shr.causes.getLsbD 0 = false := by
  obtain ⟨hclear, hcauses⟩ := bliReliability_clears
    (s := s.modBli fun b => { b with errors := b.errors - 1 }) hset (by simp [hcount])
  obtain ⟨-, -, -, hshr⟩ := frameReceived_other h hstation
  constructor
  · simp [bliReceive, h, bliClassed, bliGoodFrame_other hstation, bliGood, hclear]
  · rw [hshr, ptbTake_unreliable_cause, bliGood, bliHeard_unreliable_cause, hcauses]

end

/-- Settles O58: a frame's class and its sender pick the operation, and the rows read off what BLI, PTB and SHR hold. -/
theorem framesAreTaken : Obligations.FramesAreTaken := by
  intro s nbits bits own
  refine ⟨?bad, ?own, ?other, ?conflict, ?set, ?clear⟩
  case bad =>
    intro h
    obtain ⟨herrors, htable, htimer⟩ := frameReceived_bad (s := s) h
    exact ⟨takeEvent (bliReceive nbits bits) s, rfl, herrors, by simp, by simp, htable, by simp, by simp, htimer⟩
  case own =>
    intro f h hframe hstation
    exact ⟨_, next_congr (frameReceived_own h hframe hstation), rfl, rfl⟩
  case other =>
    intro f h hstation
    obtain ⟨herrors, htimer, hptb, hshr⟩ := frameReceived_other h hstation
    have hitems : (bliGood s).alk.items = s.alk.items := by simp
    have hcommitted : (bliGood s).alk.committed = s.alk.committed := by simp
    have htable : (bliGood s).ptb = s.ptb := by simp
    have haccepts := State.accepts_congr hitems hcommitted f.group
    have hsolo := State.soloAllowance_congr hitems hcommitted
    refine ⟨takeEvent (bliReceive nbits bits) s, rfl, herrors, by simp, htimer, by simp, by simp, ?_⟩
    rw [hptb, hshr, ← haccepts, ← hcommitted, ← hsolo, ← htable]
    refine ⟨fun hc ha hk hroom => ptbTake_placed hc ha hk hroom, fun hc ha hk => ?departed,
      fun _ ha => by rw [ptbTake_filtered ha], fun hc ha hk hnone hfull => ?full⟩
    case departed =>
      rw [ptbTake_departed hc ha hk]
      unfold peerOf
      split_ifs
      · exact ptbRemove_table 0 f.station (bliGood s)
      · rfl
    case full =>
      rw [ptbTake_unknown hc ha hk hnone]
      exact ptbInsert_full hfull
  case conflict =>
    intro f h hframe hstation
    obtain ⟨herrors, htimer, hlatched, htable⟩ := frameReceived_conflict h hframe hstation
    exact ⟨takeEvent (bliReceive nbits bits) s, rfl, herrors, htimer, hlatched, htable,
      fun hfirst _ => frameReceived_first_conflict h hframe hstation hfirst⟩
  case set =>
    intro h hcount hclear
    obtain ⟨herrors, htable, -⟩ := frameReceived_bad (s := s) h
    obtain ⟨hset, hcauses⟩ := unreliable_set h hcount hclear
    refine ⟨takeEvent (bliReceive nbits bits) s, next_congr (onlyWhen_taken (by rw [hset, hclear]; rfl)), hset, ?_, hcauses,
      htable⟩
    rw [herrors, hcount]
    rfl
  case clear =>
    intro f h hstation hcount hset
    obtain ⟨herrors, -⟩ := frameReceived_other h hstation
    obtain ⟨hclear, hcauses⟩ := unreliable_cleared h hstation hcount hset
    refine ⟨takeEvent (bliReceive nbits bits) s, next_congr (onlyWhen_taken (by rw [hset, hclear]; rfl)), hclear, ?_, hcauses⟩
    rw [herrors, hcount]

end Sys2Proof.Machine
end

section
/-! SUPPORT. The law of the peer table (R125): the table as a list, and PTB's operations on it (R127 to R132). -/

namespace Sys2Proof.Machine

/-! ## The table as a list (R125) -/

/-- A record that the table of station `own` may hold: of another station, and made by no DEPART (R125, R128). -/
def Peer.placed (own : Nat) (p : Peer) : Prop :=
  1 ≤ p.station ∧ p.station ≤ 31 ∧ p.station ≠ own ∧ p.lastKind ≠ .depart

/-- R125 as it reads off the list alone. -/
def TableSafe (own : Nat) (l : List Peer) : Prop :=
  l.length ≤ 15 ∧ (l.map Peer.station).Pairwise (· < ·) ∧ ∀ p ∈ l, p.placed own

theorem tableSafe_nil (own : Nat) : TableSafe own [] := by simp [TableSafe]

/-- Records changed in place, each under its station. -/
theorem tableSafe_map {own : Nat} {l : List Peer} {f : Peer → Peer} (h : TableSafe own l)
    (hstation : ∀ p ∈ l, (f p).station = p.station) (hplaced : ∀ p ∈ l, (f p).placed own) : TableSafe own (l.map f) := by
  obtain ⟨hlength, horder, -⟩ := h
  refine ⟨by simpa using hlength, ?_, by simpa using hplaced⟩
  rw [List.map_map]
  exact List.map_congr_left (g := Peer.station) hstation ▸ horder

theorem tableSafe_replacePeer {own : Nat} {l : List Peer} {p : Peer} (h : TableSafe own l) (hp : p.placed own) :
    TableSafe own (replacePeer p l) := by
  refine tableSafe_map h (fun q _ => ?_) fun q hq => ?_
  · split_ifs with hstation
    · exact hstation.symm
    · rfl
  · obtain ⟨-, -, hplaced⟩ := h
    split_ifs
    · exact hp
    · exact hplaced q hq

theorem tableSafe_removePeer {own : Nat} {l : List Peer} (h : TableSafe own l) (station : Nat) :
    TableSafe own (removePeer station l) := by
  obtain ⟨hlength, horder, hplaced⟩ := h
  have hsub : (removePeer station l).Sublist l := List.filter_sublist
  exact ⟨hsub.length_le.trans hlength, horder.sublist (hsub.map _), fun p hp => hplaced p (hsub.subset hp)⟩

theorem insertPeer_length (p : Peer) (l : List Peer) : (insertPeer p l).length = l.length + 1 := by
  induction l with
  | nil => rfl
  | cons q l ih =>
    unfold insertPeer
    split_ifs
    · rfl
    · simp [ih]

/-- A new station's record goes in front of the first greater station (R125, R129). -/
theorem insertPeer_ascending {p : Peer} {l : List Peer} (h : (l.map Peer.station).Pairwise (· < ·))
    (hnew : ∀ q ∈ l, q.station ≠ p.station) : ((insertPeer p l).map Peer.station).Pairwise (· < ·) := by
  induction l with
  | nil => simp [insertPeer]
  | cons q l ih =>
    obtain ⟨hfirst, hrest⟩ := List.pairwise_cons.mp h
    unfold insertPeer
    split_ifs with hlt
    · refine List.pairwise_cons.mpr ⟨fun n hn => ?_, h⟩
      rcases List.mem_cons.mp hn with rfl | hn
      · exact hlt
      · exact hlt.trans (hfirst n hn)
    · refine List.pairwise_cons.mpr ⟨fun n hn => ?_, ih hrest fun r hr => hnew r (List.mem_cons_of_mem q hr)⟩
      obtain ⟨r, hr, rfl⟩ := List.mem_map.mp hn
      rcases mem_insertPeer.mp hr with rfl | hr
      · have hne := hnew q List.mem_cons_self
        omega
      · exact hfirst _ (List.mem_map_of_mem hr)

theorem tableSafe_insertPeer {own : Nat} {l : List Peer} {p : Peer} (h : TableSafe own l) (hp : p.placed own)
    (hnew : peerOf p.station l = none) (hroom : l.length < 15) : TableSafe own (insertPeer p l) := by
  obtain ⟨-, horder, hplaced⟩ := h
  refine ⟨?_, insertPeer_ascending horder fun q hq => ?_, fun q hq => ?_⟩
  · rw [insertPeer_length]
    omega
  · simpa using List.find?_eq_none.mp hnew q hq
  · rcases mem_insertPeer.mp hq with rfl | hq
    · exact hp
    · exact hplaced q hq

/-! ## The law and the table -/

theorem peerSafe_iff (s : State) :
    s.peerSafe ↔ TableSafe (s.cfg .station) s.ptb.records ∧ (s.alk.committed = false → s.ptb.records = []) := by
  simp only [State.peerSafe, TableSafe, Peer.placed, and_assoc]

theorem peerSafe_of_empty {s : State} (h : s.ptb.records = []) : s.peerSafe := by
  rw [peerSafe_iff, h]
  exact ⟨tableSafe_nil _, fun _ => rfl⟩

/-- The configuration stands, and the table is lawful and empty before commit. -/
theorem peerSafe_of_table {s t : State} (hitems : t.alk.items = s.alk.items) (hcommitted : t.alk.committed = s.alk.committed)
    (htable : TableSafe (s.cfg .station) t.ptb.records) (hempty : s.alk.committed = false → t.ptb.records = []) :
    t.peerSafe := by
  rw [peerSafe_iff, State.cfg_congr hitems hcommitted, hcommitted]
  exact ⟨htable, hempty⟩

theorem peerSafe_of_kept {s t : State} (h : s.peerSafe) (hrecords : t.ptb.records = s.ptb.records)
    (hcommitted : t.alk.committed = s.alk.committed) (hitems : t.alk.items = s.alk.items) : t.peerSafe := by
  obtain ⟨htable, hempty⟩ := (peerSafe_iff s).mp h
  rw [← hrecords] at htable hempty
  exact peerSafe_of_table hitems hcommitted htable hempty

/-! ## A frame and the table (R116, R124 to R130) -/

/-- A good frame's station is one that the bank has (R116): five bits, and not 0. -/
theorem station_of_classify {nbits : Nat} {bits : BitVec 64} {f : Frame} (h : classify nbits bits = .good f) :
    1 ≤ f.station ∧ f.station ≤ 31 := by
  have hfields : frameFields bits = some f := by
    unfold classify at h
    split_ifs at h
    split at h
    · next g hg => rw [hg, RxClass.good.inj h]
    · cases h
  unfold frameFields at hfields
  split at hfields
  · simp only at hfields
    split_ifs at hfields with hzero
    cases hfields
    have hlt := (bits.extractLsb' 51 5).isLt
    exact ⟨Nat.one_le_iff_ne_zero.mpr hzero, Nat.le_of_lt_succ hlt⟩
  · cases hfields

theorem placed_ofFrame {own : Nat} {f : Frame} (hstation : 1 ≤ f.station ∧ f.station ≤ 31) (hown : f.station ≠ own)
    (hkind : f.kind ≠ .depart) : (Peer.ofFrame f).placed own :=
  ⟨hstation.1, hstation.2, hown, hkind⟩

theorem peerSafe_ptbRemove {cause station : Nat} {s : State} (h : s.peerSafe) : (ptbRemove cause station s).peerSafe := by
  obtain ⟨htable, hempty⟩ := (peerSafe_iff s).mp h
  obtain ⟨hrecords, -⟩ := ptbRemove_table cause station s
  refine peerSafe_of_table (s := s) (by simp) (by simp) ?_ fun hc => ?_
  · rw [hrecords]
    exact tableSafe_removePeer htable station
  · rw [hrecords, hempty hc]
    rfl

section
variable {f : Frame} {s : State}

theorem peerSafe_ptbUpdate {old : Peer} (h : s.peerSafe) (hf : (Peer.ofFrame f).placed (s.cfg .station)) :
    (ptbUpdate old f s).peerSafe := by
  obtain ⟨htable, hempty⟩ := (peerSafe_iff s).mp h
  obtain ⟨hrecords, -⟩ := ptbUpdate_table old f s
  refine peerSafe_of_table (s := s) (by simp) (by simp) ?_ fun hc => ?_
  · rw [hrecords]
    exact tableSafe_replacePeer htable hf
  · rw [hrecords, hempty hc]
    rfl

/-- A new record needs a free place; a full table drops the frame (R129, R130). -/
theorem peerSafe_ptbInsert (h : s.peerSafe) (hc : s.alk.committed = true) (hf : (Peer.ofFrame f).placed (s.cfg .station))
    (hnew : peerOf f.station s.ptb.records = none) : (ptbInsert f s).peerSafe := by
  obtain ⟨htable, -⟩ := (peerSafe_iff s).mp h
  rcases Nat.lt_or_ge s.ptb.records.length 15 with hroom | hfull
  · obtain ⟨hrecords, -⟩ := ptbInsert_table (f := f) hroom
    refine peerSafe_of_table (s := s) (by simp) (by simp) ?_ (by simp [hc])
    rw [hrecords]
    exact tableSafe_insertPeer htable hf hnew hroom
  · obtain ⟨hrecords, -⟩ := ptbInsert_full (f := f) hfull
    exact peerSafe_of_kept h hrecords (by simp) (by simp)

theorem ptbTake_uncommitted (h : s.alk.committed = false) : ptbTake f s = s := by
  simp [ptbTake, h]

theorem peerSafe_ptbTake (h : s.peerSafe) (hstation : 1 ≤ f.station ∧ f.station ≤ 31)
    (hown : f.station ≠ s.cfg .station) :
    (ptbTake f s).peerSafe := by
  cases hc : s.alk.committed
  case false => rwa [ptbTake_uncommitted hc]
  case true =>
  cases ha : s.accepts f.group
  case false => rwa [ptbTake_filtered ha]
  case true =>
  by_cases hkind : f.kind = .depart
  · rw [ptbTake_departed hc ha hkind]
    split_ifs
    · exact peerSafe_ptbRemove h
    · exact h
  · have hf := placed_ofFrame hstation hown hkind
    cases hold : peerOf f.station s.ptb.records with
    | some old =>
      rw [ptbTake_known hc ha hkind hold]
      exact peerSafe_ptbUpdate h hf
    | none =>
      rw [ptbTake_unknown hc ha hkind hold]
      exact peerSafe_ptbInsert h hc hf hold

/-- Only another station's good frame reaches the table (R117). -/
theorem peerSafe_bliGoodFrame (h : s.peerSafe) (hstation : 1 ≤ f.station ∧ f.station ≤ 31) :
    (bliGoodFrame f s).peerSafe := by
  by_cases hown : f.station = s.cfg .station
  · by_cases hframe : s.bli.frame = .own
    · rwa [bliGoodFrame_own hframe hown]
    · rw [bliGoodFrame_conflict hframe hown]
      exact peerSafe_of_kept h (by simp) (by simp) (by simp)
  · have hgood : (bliGood s).peerSafe := peerSafe_of_kept h (by simp) (by simp) (by simp)
    have hstill : (bliGood s).cfg .station = s.cfg .station := State.cfg_congr (by simp) (by simp) _
    rw [bliGoodFrame_other hown]
    exact peerSafe_ptbTake hgood hstation (by rwa [hstill])

end

theorem peerSafe_bliReceive {nbits : Nat} {bits : BitVec 64} {s : State} (h : s.peerSafe) :
    (bliReceive nbits bits s).peerSafe := by
  have hclassed : (bliClassed (classify nbits bits) s).peerSafe := by
    cases hclass : classify nbits bits with
    | cutShort | checkFailed | invalidCode => exact peerSafe_of_kept h (by simp [bliClassed]) (by simp) (by simp)
    | good f => exact peerSafe_bliGoodFrame h (station_of_classify hclass)
  exact peerSafe_of_kept hclassed rfl rfl rfl

/-! ## PEER_FORGET, a lapse and the ages (R131, R132) -/

theorem peerSafe_peerForget {station : Byte} {s : State} (h : s.peerSafe) : (peerForget station s).peerSafe := by
  have answered {c : ResultCode} {t : State} (ht : t.peerSafe) : (linkAnswer c [] t).peerSafe :=
    peerSafe_of_kept ht (by simp) (by simp) (by simp)
  unfold peerForget
  dsimp only
  split_ifs
  · exact answered h
  · split
    · exact answered h
    · split
      · exact answered h
      · exact answered (peerSafe_ptbRemove h)

/-- The table after a LIVE record's lapse (R131). -/
theorem ptbLapse_live {station : Nat} {p : Peer} {s : State} (hp : peerOf station s.ptb.records = some p)
    (hlive : p.state = .live) :
    ptbLapse station s = ptbSignal (alkRecord .peerLapsed (lapseDetail p)
      (ptbSet (replacePeer { p with state := .lapsed, age := 3500 } s.ptb.records) s)) := by
  simp [ptbLapse, hp, hlive]

theorem peerSafe_ptbLapse {station : Nat} {s : State} (h : s.peerSafe) : (ptbLapse station s).peerSafe := by
  obtain ⟨htable, hempty⟩ := (peerSafe_iff s).mp h
  cases hp : peerOf station s.ptb.records with
  | none => simpa [ptbLapse, hp] using h
  | some p =>
    cases hstate : p.state with
    | lapsed => simpa [ptbLapse, hp, hstate] using h
    | live =>
      have hmem : p ∈ s.ptb.records := List.mem_of_find?_eq_some hp
      obtain ⟨-, -, hplaced⟩ := id htable
      rw [ptbLapse_live hp hstate]
      refine peerSafe_of_table (s := s) (by simp) (by simp) ?_ fun hc => ?_
      · simpa using tableSafe_replacePeer (p := { p with state := .lapsed, age := 3500 }) htable (hplaced p hmem)
      · simp [hempty hc, replacePeer]

theorem Peer.aged_placed {own : Nat} {p : Peer} (h : p.placed own) : p.aged.placed own := by
  unfold Peer.aged
  split <;> exact h

theorem Peer.aged_station (p : Peer) : p.aged.station = p.station := by
  unfold Peer.aged
  split <;> rfl

theorem peerSafe_advanceMs {s : State} (h : s.peerSafe) : (advanceMs s).peerSafe := by
  obtain ⟨htable, hempty⟩ := (peerSafe_iff s).mp h
  obtain ⟨-, -, hplaced⟩ := id htable
  refine peerSafe_of_table (s := s) rfl rfl ?_ fun hc => ?_
  · exact tableSafe_map htable (fun p _ => p.aged_station) fun p hp => Peer.aged_placed (hplaced p hp)
  · simp [advanceMs, hempty hc]

end Sys2Proof.Machine
end

section
/-! SUPPORT. The rows that leave PTB as it was: its table is moved by receptions, lapses, PEER_FORGET and the timebase alone
(R124, R131, R132). -/

namespace Sys2Proof.Machine

/-! ## The link commands (R4 to R8, R16, R17, R172 to R178) -/

theorem linkCommand_ptb {params n : Nat} {f : State → State} (hf : ∀ t, (f t).ptb = t.ptb) (s : State) :
    (linkCommand params n f s).ptb = s.ptb := by
  unfold linkCommand
  split_ifs <;> simp [hf]

@[simp] theorem profileSeek_ptb (index mode : Byte) (s : State) : (profileSeek index mode s).ptb = s.ptb := by
  unfold profileSeek
  split
  · simp
  · split_ifs <;> simp

@[simp] theorem profilePut_ptb (word : Half) (s : State) : (profilePut word s).ptb = s.ptb := by
  unfold profilePut
  split_ifs <;> simp

@[simp] theorem profileGet_ptb (s : State) : (profileGet s).ptb = s.ptb := by
  unfold profileGet
  split_ifs <;> simp

@[simp] theorem startCycle_ptb (s : State) : (startCycle s).ptb = s.ptb := by
  unfold startCycle
  split <;> simp

@[simp] theorem abortCycle_ptb (s : State) : (abortCycle s).ptb = s.ptb := by
  unfold abortCycle
  split <;> simp

@[simp] theorem clearFaults_ptb (s : State) : (clearFaults s).ptb = s.ptb := by
  unfold clearFaults clearTripped clearOther
  split_ifs <;> simp

@[simp] theorem eventRead_ptb (s : State) : (eventRead s).ptb = s.ptb := by
  unfold eventRead
  split <;> simp [alkRemove]

@[simp] theorem stationReset_ptb (s : State) : (stationReset s).ptb = s.ptb := by
  unfold stationReset
  split_ifs <;> simp

/-! ## The seconds, the ramp engine and the regulator (R14, R30 to R42, R75 to R88) -/

@[simp] theorem cycSecond_ptb (s : State) : (cycSecond s).ptb = s.ptb := by
  obtain ⟨hsame, -⟩ := cycSecond_frame s
  simpa using congrArg State.ptb hsame

@[simp] theorem rampTime_ptb (s : State) : (rampTime s).ptb = s.ptb := by
  unfold rampTime
  split_ifs <;> rfl

@[simp] theorem rampAdvance_ptb (s : State) : (rampAdvance s).ptb = s.ptb := by
  unfold rampAdvance rampMove
  split_ifs <;> simp

@[simp] theorem rampJudge_ptb (s : State) : (rampJudge s).ptb = s.ptb := by
  unfold rampJudge rampNext rampLate
  split_ifs <;> simp

@[simp] theorem holdJudge_ptb (s : State) : (holdJudge s).ptb = s.ptb := by
  unfold holdJudge holdRestart
  split_ifs <;> simp

@[simp] theorem slotWaitStep_ptb (s : State) : (slotWaitStep s).ptb = s.ptb := by
  unfold slotWaitStep
  dsimp only
  split_ifs <;> simp

@[simp] theorem rampStep_ptb (s : State) : (rampStep s).ptb = s.ptb := by
  cases hr : s.ramp.state <;> simp [rampStep, hr, rampRearm, holdAdvance, holdCount]

@[simp] theorem regEvaluate_ptb (s : State) : (regEvaluate s).ptb = s.ptb := by simp [regEvaluate, regSet]

@[simp] theorem regMeasure_ptb (s : State) : (regMeasure s).ptb = s.ptb := by
  unfold regMeasure
  split
  · rfl
  · rfl
  · dsimp only
    split_ifs <;> rfl

@[simp] theorem regCoolExpiry_ptb (s : State) : (regCoolExpiry s).ptb = s.ptb := by simp [regCoolExpiry]

/-! ## The lock (R43, R49 to R55) -/

@[simp] theorem lckEdge_ptb (sw : SwitchId) (level : Bool) (s : State) : (lckEdge sw level s).ptb = s.ptb := by
  unfold lckEdge
  split_ifs <;> rfl

@[simp] theorem lckDriveExpiry_ptb (s : State) : (lckDriveExpiry s).ptb = s.ptb := by
  unfold lckDriveExpiry
  split_ifs <;> simp

@[simp] theorem lckSeatEnd_ptb (s : State) : (lckSeatEnd s).ptb = s.ptb := by
  unfold lckSeatEnd lckLocked
  split_ifs <;> simp

@[simp] theorem lckUnlockExpiry_ptb (s : State) : (lckUnlockExpiry s).ptb = s.ptb := by
  unfold lckUnlockExpiry
  split <;> simp

@[simp] theorem lckClearanceEnd_ptb (s : State) : (lckClearanceEnd s).ptb = s.ptb := by
  unfold lckClearanceEnd
  split <;> simp

@[simp] theorem lckUnlockPause_ptb (s : State) : (lckUnlockPause s).ptb = s.ptb := by
  unfold lckUnlockPause lckRetry
  split_ifs <;> simp

/-! ## PRT, DRV, BLI and SHR (R103, R105 to R121, R139, R146, R151, R152, R164) -/

@[simp] theorem prtSecond_ptb (s : State) : (prtSecond s).ptb = s.ptb := by
  unfold prtSecond
  dsimp only
  split_ifs <;> simp

@[simp] theorem drvMainsAbsent_ptb (s : State) : (drvMainsAbsent s).ptb = s.ptb := by
  unfold drvMainsAbsent
  dsimp only
  split_ifs <;> simp

@[simp] theorem bliAttempt_ptb (s : State) : (bliAttempt s).ptb = s.ptb := by
  unfold bliAttempt
  split
  · split_ifs <;> simp
  · rfl

@[simp] theorem bliComplete_ptb (s : State) : (bliComplete s).ptb = s.ptb := by
  unfold bliComplete
  split <;> simp

@[simp] theorem bliDepartExpiry_ptb (s : State) : (bliDepartExpiry s).ptb = s.ptb := by
  unfold bliDepartExpiry bliCutOff
  split_ifs <;> simp

@[simp] theorem bliHeldExpiry_ptb (own : Bool) (s : State) : (bliHeldExpiry own s).ptb = s.ptb := by
  unfold bliHeldExpiry
  split_ifs <;> simp

@[simp] theorem bliSilent_ptb (s : State) : (bliSilent s).ptb = s.ptb := by
  unfold bliSilent
  split_ifs <;> simp

@[simp] theorem shrListenExpiry_ptb (s : State) : (shrListenExpiry s).ptb = s.ptb := by
  unfold shrListenExpiry shrEnterSharing shrResume
  split_ifs <;> simp

@[simp] theorem shrClaimExpiry_ptb (s : State) : (shrClaimExpiry s).ptb = s.ptb := by
  unfold shrClaimExpiry shrSettle
  split_ifs <;> simp

@[simp] theorem shrSlotExpiry_ptb (s : State) : (shrSlotExpiry s).ptb = s.ptb := by
  unfold shrSlotExpiry
  split_ifs <;> simp

@[simp] theorem shrBackOffExpiry_ptb (s : State) : (shrBackOffExpiry s).ptb = s.ptb := by
  unfold shrBackOffExpiry
  split_ifs <;> simp

/-! ## A row taken under a condition -/

theorem iteSelf_ptb {c : Prop} [Decidable c] {s t : State} (h : t.ptb = s.ptb) : (if c then t else s).ptb = s.ptb := by
  split_ifs
  · exact h
  · rfl

theorem onlyWhen_ptb {p : State → State → Bool} {f : State → State} {s : State} (h : (f s).ptb = s.ptb) :
    (onlyWhen p f s).ptb = s.ptb := iteSelf_ptb h

theorem takeEvent_ptb {f : State → State} {s : State} (h : (f s).ptb = s.ptb) : (takeEvent f s).ptb = s.ptb := by
  simpa using h

end Sys2Proof.Machine
end

section
/-! CERTIFICATE. The law of the peer table (R125) under the rows of the table, a millisecond and a step. -/

namespace Sys2Proof.Machine

theorem peerSafe_resetAll (cause : ResetCause) (s : State) : (resetAll cause s).peerSafe := peerSafe_of_empty rfl

theorem peerSafe_stationResetDone {s : State} (h : s.peerSafe) : (stationResetDone s).peerSafe := by
  unfold stationResetDone
  split
  · exact peerSafe_resetAll _ s
  · exact h

theorem peerSafe_takeEvent {f : State → State} {s : State} (h : (f s).peerSafe) : (takeEvent f s).peerSafe :=
  peerSafe_of_kept h (by simp) (by simp) (by simp)

theorem peerSafe_onlyWhen {p : State → State → Bool} {f : State → State} {s : State} (h : s.peerSafe)
    (hf : (f s).peerSafe) : (onlyWhen p f s).peerSafe := by
  unfold onlyWhen
  split_ifs
  · exact hf
  · exact h

theorem peerSafe_linkCommand {params n : Nat} {f : State → State} {s : State} (h : s.peerSafe)
    (hf : ∀ t : State, t.peerSafe → (f t).peerSafe) : (linkCommand params n f s).peerSafe := by
  unfold linkCommand
  split_ifs
  · exact peerSafe_of_kept h (by simp) (by simp) (by simp)
  · exact hf _ (peerSafe_of_kept h (by simp) (by simp) (by simp))

/-- An item, the own station among them, changes under an empty table (R173). -/
theorem peerSafe_configPut {item : Byte} {value : Half} {s : State} (h : s.peerSafe) : (configPut item value s).peerSafe := by
  obtain ⟨-, hempty⟩ := (peerSafe_iff s).mp h
  unfold configPut
  split
  · exact peerSafe_of_kept h (by simp) (by simp) (by simp)
  · split_ifs with hc
    · exact peerSafe_of_kept h (by simp) (by simp) (by simp)
    · exact peerSafe_of_empty (hempty (by simpa using hc))

/-- The commit finds an empty table (R124, R175). -/
theorem peerSafe_configCommit {s : State} (h : s.peerSafe) : (configCommit s).peerSafe := by
  obtain ⟨-, hempty⟩ := (peerSafe_iff s).mp h
  unfold configCommit
  split_ifs with hc
  · exact peerSafe_of_kept h (by simp) (by simp) (by simp)
  · split
    · exact peerSafe_of_kept h (by simp) (by simp) (by simp)
    · exact peerSafe_of_empty (by simpa using hempty (by simpa using hc))

/-- Each row of the table keeps the law of the peer table. -/
theorem exec_peerSafe (i : Instr) {s : State} (h : s.peerSafe) : ∃ t, exec i s = .next t ∧ t.peerSafe := by
  have kept {t : State} (hw : WindowKept s t) (hp : t.ptb = s.ptb) : t.peerSafe := by
    obtain ⟨-, hcommitted, hitems⟩ := hw
    exact peerSafe_of_kept h (congrArg Ptb.records hp) hcommitted hitems
  have event {f : State → State} (hw : WindowKept s (f s)) (hp : (f s).ptb = s.ptb) : (takeEvent f s).peerSafe :=
    peerSafe_takeEvent (kept hw hp)
  have crossing (sample : Nat) : (takeEvent (drvZeroCross sample) s).peerSafe :=
    peerSafe_takeEvent (peerSafe_of_kept h (by simp) (by simp) (by simp))
  cases i
  case powerOnReset | resetn => exact ⟨_, rfl, peerSafe_resetAll _ s⟩
  case readStatus | readTemps | readShare | readPeer | readCycle | readFaults | configGet | badCommand =>
    exact ⟨_, rfl, kept (windowKept_answered _ _ _ s) rfl⟩
  case configPut => exact ⟨_, rfl, peerSafe_linkCommand h fun _ => peerSafe_configPut⟩
  case configCommit => exact ⟨_, rfl, peerSafe_takeEvent (peerSafe_linkCommand h fun _ => peerSafe_configCommit)⟩
  case profileSeek =>
    exact ⟨_, rfl, kept (windowKept_linkCommand (windowKept_profileSeek _ _) s) (linkCommand_ptb (profileSeek_ptb _ _) s)⟩
  case profilePut =>
    exact ⟨_, rfl, kept (windowKept_linkCommand (windowKept_profilePut _) s) (linkCommand_ptb (profilePut_ptb _) s)⟩
  case profileGet =>
    exact ⟨_, rfl, kept (windowKept_trans (windowKept_linkOpen _ s) (windowKept_profileGet _)) (by simp [linkRead])⟩
  case start => exact ⟨_, rfl, event (windowKept_linkCommand windowKept_startCycle s) (linkCommand_ptb startCycle_ptb s)⟩
  case abort => exact ⟨_, rfl, event (windowKept_linkCommand windowKept_abortCycle s) (linkCommand_ptb abortCycle_ptb s)⟩
  case clear => exact ⟨_, rfl, event (windowKept_linkCommand windowKept_clearFaults s) (linkCommand_ptb clearFaults_ptb s)⟩
  case eventRead =>
    exact ⟨_, rfl, kept (windowKept_trans (windowKept_linkOpen _ s) (windowKept_eventRead _)) (by simp [linkRead])⟩
  case peerForget => exact ⟨_, rfl, peerSafe_takeEvent (peerSafe_linkCommand h fun _ => peerSafe_peerForget)⟩
  case stationReset =>
    exact ⟨_, rfl, kept (windowKept_linkCommand windowKept_stationReset s) (linkCommand_ptb stationReset_ptb s)⟩
  case stationResetDone => exact ⟨_, rfl, peerSafe_stationResetDone h⟩
  case csnRise | secondsTick | glitch => exact ⟨_, rfl, h⟩
  case cycleSecond => exact ⟨_, rfl, kept (windowKept_cycSecond s) (cycSecond_ptb s)⟩
  case coolSlow => exact ⟨_, rfl, kept (windowKept_onlyWhen (windowKept_cycSecond s)) (onlyWhen_ptb (cycSecond_ptb s))⟩
  case rampStep => exact ⟨_, rfl, event (windowKept_rampStep s) (rampStep_ptb s)⟩
  case holdComplete | segmentRestart | heatTimeout | slotTimeout =>
    exact ⟨_, rfl, kept (windowKept_iteSelf (windowKept_takeEvent (windowKept_rampStep s)))
      (iteSelf_ptb (takeEvent_ptb (rampStep_ptb s)))⟩
  case heatingEvaluation =>
    exact ⟨_, rfl, kept (windowKept_iteSelf (windowKept_takeEvent (windowKept_regEvaluate s)))
      (iteSelf_ptb (takeEvent_ptb (regEvaluate_ptb s)))⟩
  case coolingRuleExpiry =>
    exact ⟨_, rfl, kept (windowKept_iteSelf (windowKept_regCoolExpiry s)) (iteSelf_ptb (regCoolExpiry_ptb s))⟩
  case switchEdge => exact ⟨_, rfl, kept (windowKept_lckEdge _ _ s) (lckEdge_ptb _ _ s)⟩
  case switchDebounced => exact ⟨_, rfl, event (by simp [WindowKept]) (by simp)⟩
  case lockDriveExpiry => exact ⟨_, rfl, event (windowKept_lckDriveExpiry s) (lckDriveExpiry_ptb s)⟩
  case seatEnd => exact ⟨_, rfl, event (windowKept_lckSeatEnd s) (lckSeatEnd_ptb s)⟩
  case lockBackDriveEnd | unlockBackDriveEnd =>
    exact ⟨_, rfl, kept (windowKept_iteSelf (windowKept_refl s)) (iteSelf_ptb rfl)⟩
  case lockPauseEnd =>
    exact ⟨_, rfl, kept (windowKept_iteSelf (by simp [WindowKept, lckRetry])) (iteSelf_ptb (by simp [lckRetry]))⟩
  case unlockDriveExpiry => exact ⟨_, rfl, event (windowKept_lckUnlockExpiry s) (lckUnlockExpiry_ptb s)⟩
  case clearanceEnd => exact ⟨_, rfl, event (windowKept_lckClearanceEnd s) (lckClearanceEnd_ptb s)⟩
  case unlockPauseEnd => exact ⟨_, rfl, event (windowKept_lckUnlockPause s) (lckUnlockPause_ptb s)⟩
  case conversionCompletion => exact ⟨_, rfl, event (by simp [WindowKept]) (by simp)⟩
  case channelFailure | channelRecovery | sensorDisagree | disagreeConditionGone | latchHot =>
    exact ⟨_, rfl, peerSafe_onlyWhen h (event (by simp [WindowKept]) (by simp))⟩
  case blindCoolTick => exact ⟨_, rfl, event (windowKept_prtSecond s) (prtSecond_ptb s)⟩
  case zeroCross => exact ⟨_, rfl, crossing _⟩
  case windowComplete =>
    refine ⟨_, rfl, ?_⟩
    split_ifs
    · exact crossing _
    · exact h
  case elementOvercurrent | driveStuck | elementLow => exact ⟨_, rfl, peerSafe_onlyWhen h (crossing _)⟩
  case mainsSuspend => exact ⟨_, rfl, kept (windowKept_iteSelf (by simp [WindowKept])) (iteSelf_ptb (by simp))⟩
  case mainsAbsent =>
    exact ⟨_, rfl, kept (windowKept_iteSelf (windowKept_takeEvent (windowKept_drvMainsAbsent s)))
      (iteSelf_ptb (takeEvent_ptb (drvMainsAbsent_ptb s)))⟩
  case attemptBegin => exact ⟨_, rfl, kept (windowKept_bliAttempt s) (bliAttempt_ptb s)⟩
  case attemptLost | periodExpiry =>
    exact ⟨_, rfl, kept (windowKept_iteSelf (by simp [WindowKept])) (iteSelf_ptb (by simp))⟩
  case attemptComplete => exact ⟨_, rfl, event (windowKept_bliComplete s) (bliComplete_ptb s)⟩
  case departureTimeout => exact ⟨_, rfl, kept (windowKept_bliDepartExpiry s) (bliDepartExpiry_ptb s)⟩
  case frameReceived => exact ⟨_, rfl, peerSafe_takeEvent (peerSafe_bliReceive h)⟩
  case unreliable => exact ⟨_, rfl, peerSafe_onlyWhen h (peerSafe_takeEvent (peerSafe_bliReceive h))⟩
  case lineHeld => exact ⟨_, rfl, event (windowKept_bliHeldExpiry _ s) (bliHeldExpiry_ptb _ s)⟩
  case lineIdle => exact ⟨_, rfl, event (by simp [WindowKept]) (by simp)⟩
  case silent => exact ⟨_, rfl, event (windowKept_bliSilent s) (bliSilent_ptb s)⟩
  case peerLapsed => exact ⟨_, rfl, peerSafe_takeEvent (peerSafe_ptbLapse h)⟩
  case listenExpiry => exact ⟨_, rfl, event (windowKept_shrListenExpiry s) (shrListenExpiry_ptb s)⟩
  case claimSettle => exact ⟨_, rfl, event (windowKept_shrClaimExpiry s) (shrClaimExpiry_ptb s)⟩
  case slotSettle => exact ⟨_, rfl, event (windowKept_shrSlotExpiry s) (shrSlotExpiry_ptb s)⟩
  case slotBackoffExpiry => exact ⟨_, rfl, event (windowKept_shrBackOffExpiry s) (shrBackOffExpiry_ptb s)⟩

/-! ## A millisecond and a step -/

theorem peerSafe_takeDue {i : Instr} {s : State} (h : s.peerSafe) : (takeDue s i).peerSafe := by
  obtain ⟨t, hexec, ht⟩ := exec_peerSafe i h
  simp only [takeDue, hexec]
  split_ifs
  · exact ht
  · exact h

/-- The rows of a millisecond, in whatever order the draws give them (log 3). -/
theorem peerSafe_foldl_takeDue (rows : List Instr) {s : State} (h : s.peerSafe) : (rows.foldl takeDue s).peerSafe := by
  induction rows generalizing s with
  | nil => exact h
  | cons i rows ih =>
    rw [List.foldl_cons]
    exact ih (peerSafe_takeDue h)

theorem peerSafe_draws {n : Nat} {s : State} (h : s.peerSafe) : ({ s with draws := n } : State).peerSafe := h

theorem peerSafe_tick {s : State} (h : s.peerSafe) : (tick s).peerSafe := by
  have hmoved := peerSafe_advanceMs h
  unfold tick
  simp only
  generalize advanceMs s = m at hmoved ⊢
  exact peerSafe_foldl_takeDue _ (peerSafe_draws hmoved)

/-- Settles O11: the four operations of PTB keep the table's law, and no other row, nor a millisecond's ageing, moves a
station. -/
theorem peerLawKept : Obligations.PeerLawKept := by
  intro s t h hstep
  unfold step at hstep
  split at hstep
  · exact Host.Outcome.next.inj hstep ▸ peerSafe_tick h
  · next i rest _ =>
    obtain ⟨u, hexec, hu⟩ := exec_peerSafe i (s := s.setPending rest) h
    exact Host.Outcome.next.inj (hexec.symm.trans hstep) ▸ hu

end Sys2Proof.Machine
end

section
/-! CERTIFICATE. The peer commands: READ_PEER and CONFIG_GET by their parameter (R136, R173), and PEER_FORGET (R132). -/

namespace Sys2Proof.Machine

/-! ## The reads with a parameter (R136, R173) -/

theorem peerBytes_length (count : Nat) (overflow : Bool) (solo : Nat) (p : Peer) :
    (peerBytes count overflow solo p).length = 24 := by
  simp [peerBytes]

theorem peerAnswer_outside {index : Byte} (h : 14 < index.toNat) (s : State) :
    peerAnswer index s = (.badParameter, zeroBytes 24) := if_pos h

theorem peerAnswer_record {index : Byte} {s : State} (h : ¬ 14 < index.toNat) (hrecord : index.toNat < s.ptb.records.length) :
    peerAnswer index s =
      (.ok, peerBytes s.ptb.records.length s.ptb.overflow s.soloAllowance s.ptb.records[index.toNat]) := by
  simp only [peerAnswer, if_neg h, List.getElem?_eq_getElem hrecord]

theorem peerAnswer_past {index : Byte} {s : State} (h : ¬ 14 < index.toNat)
    (hpast : ¬ index.toNat < s.ptb.records.length) :
    peerAnswer index s = (.empty, [byteOf s.ptb.records.length, flagByte s.ptb.overflow] ++ zeroBytes 22) := by
  simp only [peerAnswer, if_neg h, List.getElem?_eq_none (Nat.le_of_not_lt hpast)]

/-- READ_PEER gives 24 bytes in each of its cases (section 12.3). -/
theorem peerAnswer_length (index : Byte) (s : State) : (peerAnswer index s).2.length = 24 := by
  by_cases hindex : 14 < index.toNat
  · simp [peerAnswer_outside hindex]
  · by_cases hrecord : index.toNat < s.ptb.records.length
    · simp [peerAnswer_record hindex hrecord, peerBytes_length]
    · simp [peerAnswer_past hindex hrecord]

/-- The item that a number names is the one of that number, and the numbers end at 33 (section 12.3). -/
theorem Item.ofNumber?_of_lt {n : Nat} (h : n < 34) : ∃ i, Item.ofNumber? n = some i ∧ i.number = ⟨n, h⟩ := by
  have hall : ∀ k : Fin 34, ∃ i, Item.ofNumber? k = some i ∧ i.number = k := by decide
  exact hall ⟨n, h⟩

theorem Item.ofNumber?_of_ge {n : Nat} (h : ¬ n < 34) : Item.ofNumber? n = none :=
  List.getElem?_eq_none (Nat.le_of_not_lt h)

theorem getAnswer_stored {item : Byte} (h : item.toNat < 34) (s : State) :
    getAnswer item s = (.ok, halfBytes (BitVec.ofNat 16 s.alk.items[item.toNat])) := by
  obtain ⟨i, hi, hnumber⟩ := Item.ofNumber?_of_lt h
  simp [getAnswer, hi, State.stored, hnumber, natBytes]

theorem getAnswer_outside {item : Byte} (h : ¬ item.toNat < 34) (s : State) :
    getAnswer item s = (.badParameter, natBytes 0) := by
  simp only [getAnswer, Item.ofNumber?_of_ge h]

theorem linkRead_answer (params : Nat) (c : ResultCode) (bytes : List Byte) (s : State) :
    (linkRead params (linkAnswer c bytes) s).alk.link.answer = byteOf c.code :: bytes := rfl

/-- Settles O18: the bytes are formed from the state as it stood, and only the port's transaction moves. -/
theorem parameterReadsAnswer : Obligations.ParameterReadsAnswer := by
  intro s i
  refine ⟨⟨_, rfl, sameButLink_answer _ _ _ _, ?_, ?_⟩, ⟨_, rfl, sameButLink_answer _ _ _ _, ?_⟩⟩
  · rw [linkRead_answer, List.length_cons, peerAnswer_length]
  · rw [linkRead_answer]
    split_ifs with hindex hrecord
    · rw [peerAnswer_outside hindex]
      rfl
    · rw [peerAnswer_record hindex hrecord]
      rfl
    · rw [peerAnswer_past hindex hrecord]
      rfl
  · rw [linkRead_answer]
    split_ifs with hitem
    · rw [getAnswer_stored hitem]
      rfl
    · rw [getAnswer_outside hitem]
      rfl

/-! ## PEER_FORGET (R132) -/

section
variable {station : Byte} {s : State}

theorem peerForget_badStation (h : station.toNat < 1 ∨ 31 < station.toNat) :
    peerForget station s = linkAnswer .badParameter [] s := if_pos h

theorem peerForget_unknown (h : ¬(station.toNat < 1 ∨ 31 < station.toNat))
    (hp : peerOf station.toNat s.ptb.records = none) : peerForget station s = linkAnswer .empty [] s := by
  simp only [peerForget, if_neg h, hp]

theorem peerForget_live {p : Peer} (h : ¬(station.toNat < 1 ∨ 31 < station.toNat))
    (hp : peerOf station.toNat s.ptb.records = some p) (hlive : p.state = .live) :
    peerForget station s = linkAnswer .badParameter [] s := by
  simp only [peerForget, if_neg h, hp, hlive]

theorem peerForget_lapsed {p : Peer} (h : ¬(station.toNat < 1 ∨ 31 < station.toNat))
    (hp : peerOf station.toNat s.ptb.records = some p) (hlapsed : p.state = .lapsed) :
    peerForget station s = linkAnswer .ok [] (ptbRemove 1 station.toNat s) := by
  simp only [peerForget, if_neg h, hp, hlapsed]

end

/-- A command that its tests refuse answers with the code and moves nothing but the port's transaction. -/
theorem linkCommand_refused {params n : Nat} {f : State → State} {s : State} {c : ResultCode}
    (hready : s.alk.resetPending = none) (hf : f (linkOpen params s) = linkAnswer c [] (linkOpen params s)) :
    (takeEvent (linkCommand params n f) s).alk.link.answer = [byteOf c.code] ∧
      s.sameButLink (takeEvent (linkCommand params n f) s) := by
  obtain ⟨hend, hsame⟩ := takeEvent_answer ((linkCommand_ready params n f s hready).trans hf)
  rw [hend]
  exact ⟨linkAnswer_answer _ _ _, hsame⟩

/-- A LAPSED record forgotten is nothing that CYC examines (R13, R132). -/
theorem peerForget_removes {station : Byte} {s : State} {p : Peer} (hready : s.alk.resetPending = none)
    (hstation : ¬(station.toNat < 1 ∨ 31 < station.toNat)) (hp : peerOf station.toNat s.ptb.records = some p)
    (hlapsed : p.state = .lapsed) :
    takeEvent (linkCommand 1 0 (peerForget station)) s =
      linkAnswer .ok [] (ptbRemove 1 station.toNat (linkOpen 1 s)) := by
  have htable : (linkOpen 1 s).ptb.records = s.ptb.records := by simp
  have hrun : linkCommand 1 0 (peerForget station) s = linkAnswer .ok [] (ptbRemove 1 station.toNat (linkOpen 1 s)) := by
    rw [linkCommand_ready 1 0 _ s hready, peerForget_lapsed hstation (htable ▸ hp) hlapsed]
  rw [takeEvent_of_unexamined, hrun]
  rw [hrun]
  exact examines_eq_false (by simp) (by simp)

/-- Settles O32: the three refusals answer alone, and a LAPSED record goes by PTB's removal. -/
theorem peerForgetRemoves : Obligations.PeerForgetRemoves := by
  intro s n hready
  have htable : (linkOpen 1 s).ptb.records = s.ptb.records := by simp
  refine ⟨takeEvent (linkCommand 1 0 (peerForget n)) s, rfl, ?_⟩
  split_ifs with hstation
  · exact linkCommand_refused hready (peerForget_badStation hstation)
  · split
    case h_1 hp => exact linkCommand_refused hready (peerForget_unknown hstation (htable ▸ hp))
    case h_2 p hp =>
      split_ifs with hlive
      · exact linkCommand_refused hready (peerForget_live hstation (htable ▸ hp) hlive)
      · have hlapsed : p.state = .lapsed := by
          cases h : p.state with
          | live => exact absurd h hlive
          | lapsed => rfl
        obtain ⟨hrecords, hoverflow, hsums⟩ := ptbRemove_table 1 n.toNat (linkOpen 1 s)
        have hsolo : (linkOpen 1 s).soloAllowance = s.soloAllowance := State.soloAllowance_congr (by simp) (by simp)
        rw [hsolo] at hsums
        rw [htable] at hrecords
        rw [peerForget_removes hready hstation hp hlapsed]
        exact ⟨linkAnswer_answer _ _ _, hoverflow, hrecords, hsums, by simp⟩

end Sys2Proof.Machine
end

section
/-! CERTIFICATE. The timers of sharing: a lapse (R131), the end of the listening (R139), a claim's settling (R146), a slot
claim's settling (R151) and the end of a slot back-off (R152). -/

namespace Sys2Proof.Machine

/-! ## A lapse (R131, R134) -/

theorem ptbLapse_table {station : Nat} {p : Peer} {s : State} (hp : peerOf station s.ptb.records = some p)
    (hlive : p.state = .live) :
    (ptbLapse station s).ptb.records = replacePeer { p with state := .lapsed, age := 3500 } s.ptb.records ∧
      (ptbLapse station s).shr.sums = tableSums s.soloAllowance (ptbLapse station s).ptb.records := by
  simp [ptbLapse_live hp hlive, ptbSignal_sums, State.soloAllowance_congr (s := s)]

/-- A lapse is nothing that CYC examines (R13). -/
theorem takeEvent_ptbLapse {station : Nat} {p : Peer} {s : State} (hp : peerOf station s.ptb.records = some p)
    (hlive : p.state = .live) : takeEvent (ptbLapse station) s = ptbLapse station s := by
  refine takeEvent_of_unexamined (examines_eq_false ?_ ?_)
  · simp [ptbLapse_live hp hlive]
  · simp [ptbLapse_live hp hlive]

/-! ## The evaluation (R142) -/

theorem State.targetOf_congr {s t : State} (hwant : t.shr.wo = s.shr.wo) (hsums : t.shr.sums = s.shr.sums)
    (hi : t.alk.items = s.alk.items) (hc : t.alk.committed = s.alk.committed) : t.targetOf = s.targetOf := by
  simp only [State.targetOf, hwant, hsums, State.cfg_congr hi hc]

/-- Ho falls to Go at once, and rises by a claim alone (R142 to R144). -/
theorem shrCompare_held (s : State) :
    (shrCompare s).shr.go = s.shr.go ∧ (shrCompare s).shr.ho = min s.shr.ho s.shr.go := by
  unfold shrCompare shrDropClaim shrShed shrClaim
  split_ifs with hfall hrise
  · simp [Nat.min_eq_right (Nat.le_of_lt hfall)]
  · simp [Nat.min_eq_left (Nat.le_of_not_lt hfall)]
  · simp [Nat.min_eq_left (Nat.le_of_not_lt hfall)]
  · simp [Nat.min_eq_left (Nat.le_of_not_lt hfall)]

theorem shrEvaluate_held (s : State) :
    (shrEvaluate s).shr.go = s.targetOf ∧ (shrEvaluate s).shr.ho = min s.shr.ho s.targetOf :=
  shrCompare_held (s.modShr fun u => { u with go := s.targetOf })

/-- With no claim standing an evaluation leaves none, or one still to be announced (R143, R144). -/
theorem shrEvaluate_claim {s : State} (h : s.shr.claim = .none) (htimer : s.shr.claimTimer = none) :
    (shrEvaluate s).shr.claim ≠ .settling ∧ (shrEvaluate s).shr.claimTimer = none := by
  unfold shrEvaluate shrCompare shrDropClaim shrClaim
  split_ifs <;> simp [h, htimer]

/-! ## The listening's end and a claim's settling (R139, R146) -/

/-- The shared current alone moves: nothing that CYC examines (R13). -/
theorem takeEvent_of_sharing {f : State → State} {s m : State} (h : f s = shrEvaluate m) (hl : m.lck = s.lck)
    (hp : m.prt = s.prt) : takeEvent f s = shrEvaluate m := by
  rw [takeEvent_of_unexamined, h]
  rw [h]
  exact examines_eq_false (by simp [hl]) (by simp [hp])

/-- SHARING entered, before its evaluation (R139, R156). -/
def sharingEntered (s : State) : State :=
  shrRecord (s.modShr fun u => { u with state := .sharing, listenTimer := none })

theorem shrListenExpiry_enters {s : State} (hlistens : s.shr.state.listens = true) (htimer : s.shr.listenTimer.isSome = true)
    (hcauses : s.shr.causes = 0) (hrequest : s.shr.request ≠ .waiting) :
    shrListenExpiry s = shrEvaluate (sharingEntered s) := by
  have hresume : shrResume (shrEvaluate (sharingEntered s)) = shrEvaluate (sharingEntered s) :=
    if_neg (by simpa [sharingEntered] using hrequest)
  have hexpires : shrListenExpiry s = shrEnterSharing s := if_pos (by simp [hlistens, htimer, hcauses])
  exact hexpires.trans hresume

theorem sharingEntered_targetOf (s : State) : (sharingEntered s).targetOf = s.targetOf :=
  State.targetOf_congr (by simp [sharingEntered]) (by simp [sharingEntered]) (by simp [sharingEntered])
    (by simp [sharingEntered])

/-- A claim become held current by the fresh room, before the evaluation (R146). -/
def claimSettled (s : State) : State :=
  bliSetReason .settled (shrDropClaim (s.modShr fun u => { u with ho := u.ho + min u.co s.room }))

theorem shrClaimExpiry_settles {s : State} (htimer : s.shr.claimTimer.isSome = true) (hclaim : s.shr.claim = .settling) :
    shrClaimExpiry s = shrEvaluate (claimSettled s) := if_pos ⟨htimer, hclaim⟩

theorem claimSettled_targetOf (s : State) : (claimSettled s).targetOf = s.targetOf :=
  State.targetOf_congr (by simp [claimSettled]) (by simp [claimSettled]) (by simp [claimSettled]) (by simp [claimSettled])

/-! ## The slot (R149 to R152) -/

/-- A slot back-off lies between 5.0 and 20.0 s (R152). -/
theorem shrBackOff_bounds (s : State) :
    ∃ n, 50 ≤ n ∧ n ≤ 200 ∧ (shrBackOff s).shr.backoffTimer = some (n * 100) := by
  obtain ⟨hlow, hhigh⟩ := s.drawIn_bounds 50 (span := 151) (by decide)
  exact ⟨_, hlow, by omega, rfl⟩

theorem shrBackOff_request (s : State) : (shrBackOff s).shr.request = .backingOff := rfl

@[simp] theorem shrSetSlot_backoffTimer (st : SlotState) (s : State) :
    (shrSetSlot st s).shr.backoffTimer = s.shr.backoffTimer := by
  unfold shrSetSlot
  split_ifs <;> simp

/-- With a place free in SHARING the slot is claimed (R150). -/
theorem shrTakeRequest_claims {s : State} (hstate : s.shr.state = .sharing) (hfree : s.shr.sums.holders < s.cfg .k) :
    shrTakeRequest s = shrSetSlot .claim
      (s.modShr fun u => { u with request := .claiming, settleTimer := none, backoffTimer := none }) := by
  simp only [shrTakeRequest, hstate, if_pos hfree]

/-- A RAMP begins without a word to CYC or SHR (R32). -/
theorem rampEnter_ramp {s : State} (hk : s.segment.kind = .ramp) :
    (rampEnter s).ramp.state = .ramping ∧ (rampEnter s).ramp.slotFlag = s.ramp.slotFlag ∧
      (rampEnter s).cyc = s.cyc ∧ (rampEnter s).shr = s.shr := by
  simp [rampEnter, hk]

/-- The grant begins the RAMP that waited for it (R39). -/
theorem prfGrant_ramp {s : State} (hw : s.ramp.state = .waitingSlot) (hk : s.segment.kind = .ramp) :
    (prfGrant s).ramp.state = .ramping ∧ (prfGrant s).ramp.slotFlag = .granted ∧
      (prfGrant s).cyc = s.cyc ∧ (prfGrant s).shr = s.shr := by
  obtain ⟨hstate, hflag, hcyc, hshr⟩ := rampEnter_ramp
    (s := alkRecord .slotGranted (BitVec.ofNat 16 (min s.ramp.slotWait b16Limit))
      (prtGone .slotTimeout (s.modRamp fun r => { r with slotFlag := .granted })))
    (by simpa [State.segment, State.segmentAt] using hk)
  have hgrant : prfGrant s = rampEnter (alkRecord .slotGranted (BitVec.ofNat 16 (min s.ramp.slotWait b16Limit))
      (prtGone .slotTimeout (s.modRamp fun r => { r with slotFlag := .granted }))) := if_pos hw
  rw [hgrant]
  exact ⟨hstate, by simpa using hflag, by simpa using hcyc, by simpa using hshr⟩

/-- The slot claimed becomes HOLD, the valve opens, and the waiting RAMP begins (R149, R151). -/
theorem shrHold_ramp {s : State} (hslot : s.shr.slot = .claim) (hw : s.ramp.state = .waitingSlot)
    (hk : s.segment.kind = .ramp) :
    (shrHold s).ramp.state = .ramping ∧ (shrHold s).ramp.slotFlag = .granted ∧ (shrHold s).cyc = s.cyc ∧
      (shrHold s).shr.slot = .hold ∧ (shrHold s).shr.request = .granted ∧ (shrHold s).shr.valve = true ∧
      (shrHold s).shr.ho = s.shr.ho := by
  obtain ⟨hstate, hflag, hcyc, hshr⟩ := prfGrant_ramp
    (s := shrSetSlot .hold (s.modShr fun u => { u with request := .granted, settleTimer := none, backoffTimer := none }))
    (by simpa using hw) (by simpa [State.segment, State.segmentAt] using hk)
  unfold shrHold
  rw [hstate, hflag, hcyc, hshr]
  simp [hslot]

/-- Settles O60: each row is the one operation of its timer, and no block but those it names hears of it. -/
theorem sharingTimersExpire : Obligations.SharingTimersExpire := by
  intro s
  refine ⟨?lapse, ?listen, ?claim, ?noSlot, ?slot, ?backOff⟩
  case lapse =>
    intro p hp hlive
    obtain ⟨hrecords, hsums⟩ := ptbLapse_table hp hlive
    refine ⟨_, next_congr (takeEvent_ptbLapse hp hlive), hrecords, hsums, ?_⟩
    simp [ptbLapse_live hp hlive]
  case listen =>
    intro hlistens htimer hcauses hrequest
    have hrow := shrListenExpiry_enters hlistens htimer hcauses hrequest
    obtain ⟨hgo, hho⟩ := shrEvaluate_held (sharingEntered s)
    rw [sharingEntered_targetOf] at hgo hho
    refine ⟨_, next_congr (takeEvent_of_sharing hrow (by simp [sharingEntered]) (by simp [sharingEntered])), ?_⟩
    rw [hgo, hho]
    simp [sharingEntered]
  case claim =>
    intro htimer hclaim
    have hrow := shrClaimExpiry_settles htimer hclaim
    obtain ⟨hgo, hho⟩ := shrEvaluate_held (claimSettled s)
    obtain ⟨hnot, hnone⟩ := shrEvaluate_claim (s := claimSettled s) (by simp [claimSettled, shrDropClaim])
      (by simp [claimSettled, shrDropClaim])
    rw [claimSettled_targetOf] at hgo hho
    refine ⟨_, next_congr (takeEvent_of_sharing hrow (by simp [claimSettled]) (by simp [claimSettled])), hgo, ?_, hnot,
      hnone, ?_⟩
    · rw [hho]
      simp [claimSettled]
    · simp [claimSettled]
  case noSlot =>
    intro htimer hrequest hslot hfull
    have hrow : shrSlotExpiry s = shrBackOff (shrSetSlot .none s) := by
      simp [shrSlotExpiry, htimer, hrequest, Nat.not_lt.mpr hfull]
    obtain ⟨n, hlow, hhigh, hbackoff⟩ := shrBackOff_bounds (shrSetSlot .none s)
    refine ⟨takeEvent shrSlotExpiry s, rfl, ?_, ?_, ⟨n, hlow, hhigh, ?_⟩, ?_⟩
    · simp [hrow]
    · simp [hrow, shrBackOff_request]
    · simp [hrow, hbackoff]
    · simp [hrow]
  case slot =>
    intro htimer hrequest hslot hfree hw hk
    have hrow : shrSlotExpiry s = shrHold s := by simp [shrSlotExpiry, htimer, hrequest, hfree]
    obtain ⟨hstate, hflag, hcyc, hhold, hgranted, hvalve, hho⟩ := shrHold_ramp hslot hw hk
    exact ⟨takeEvent shrSlotExpiry s, rfl, by simp [hrow, hstate, hflag, hcyc, hhold, hgranted, hvalve, hho]⟩
  case backOff =>
    intro htimer hrequest hslot hstate hfree
    have hrow : shrBackOffExpiry s = shrSetSlot .claim
        (s.modShr fun u => { u with request := .claiming, settleTimer := none, backoffTimer := none }) :=
      (if_pos ⟨htimer, hrequest⟩).trans (shrTakeRequest_claims hstate hfree)
    exact ⟨takeEvent shrBackOffExpiry s, rfl, by simp [hrow]⟩

end Sys2Proof.Machine
end

section
/-! SUPPORT. The law of the slot (R149) and the law of the held current (R147) under SHR's own operations: what each of them
reads, the slot set and released, Ho lowered, claimed for, settled, and bound by the solo allowance. -/

namespace Sys2Proof.Machine

/-! ## The law of the slot (R149) -/

/-- The valve is open exactly while the slot is HOLD: what stands of the law while a request changes its standing. -/
def State.valveFollows (s : State) : Prop := s.shr.valve = (s.shr.slot == .hold)

theorem slotSafe_iff (s : State) : s.slotSafe ↔ s.valveFollows ∧ s.shr.slot = s.shr.request.slot := Iff.rfl

theorem slotSafe_of_kept {s t : State} (h : s.slotSafe) (hkept : t.shr.slot = s.shr.slot ∧
    t.shr.request = s.shr.request ∧ t.shr.valve = s.shr.valve) : t.slotSafe := by
  obtain ⟨hslot, hrequest, hvalve⟩ := hkept
  unfold State.slotSafe
  rwa [hslot, hrequest, hvalve]

/-- A request that goes with no slot finds none. -/
theorem slot_none_of_slotSafe {s : State} (h : s.slotSafe) (hr : s.shr.request.slot = .none) : s.shr.slot = .none := by
  obtain ⟨-, hslot⟩ := h
  rw [hslot, hr]

/-- The valve moves with each change of the slot. -/
theorem valveFollows_shrSetSlot {st : SlotState} {s : State} (h : s.valveFollows) : (shrSetSlot st s).valveFollows := by
  unfold State.valveFollows at h ⊢
  by_cases hst : s.shr.slot = st
  · simpa [shrSetSlot, hst] using h
  · simp [hst]

/-- The slot set to what the request standing goes with restores the law. -/
theorem slotSafe_shrSetSlot {st : SlotState} {s : State} (h : s.valveFollows) (hr : s.shr.request.slot = st) :
    (shrSetSlot st s).slotSafe :=
  (slotSafe_iff _).mpr ⟨valveFollows_shrSetSlot h, by simp [hr]⟩

theorem slotSafe_shrRelease {s : State} (h : s.valveFollows) : (shrRelease s).slotSafe := slotSafe_shrSetSlot h rfl

/-- A request without a slot may take any standing that goes with none. -/
theorem slotSafe_of_none {s : State} (h : s.valveFollows) (hslot : s.shr.slot = .none) (hr : s.shr.request.slot = .none) :
    s.slotSafe := (slotSafe_iff s).mpr ⟨h, hslot.trans hr.symm⟩

theorem slotSafe_shrBackOff {s : State} (h : s.valveFollows) (hslot : s.shr.slot = .none) : (shrBackOff s).slotSafe :=
  slotSafe_of_none (s := shrBackOff s) h hslot rfl

/-! ## The law of the held current (R147) -/

/-- What the law says beside Ho and the claim: SHR leaves OFF at commit, S is formed there, If and Wo fit a frame (R137,
R139, R174). -/
def State.shareFormed (s : State) : Prop :=
  s.alk.committed = (s.shr.state != .off) ∧
    (s.alk.committed = true → s.shr.solo = s.soloAllowance ∧ fullCurrent s.ratings s.weights ≤ 1023) ∧ s.shr.wo ≤ 1023

/-- What the law says of a claim: it stands in SHARING alone, and the sum of Ho and Co fits a frame. -/
def State.claimSafe (s : State) : Prop :=
  s.shr.ho + s.shr.co ≤ 1023 ∧ (s.shr.claim = .none → s.shr.co = 0) ∧ (s.shr.claim ≠ .none → s.shr.state = .sharing)

theorem shareSafe_iff (s : State) : s.shareSafe ↔ s.hoBounded ∧ s.shareFormed ∧ s.claimSafe := by
  unfold State.shareFormed State.claimSafe
  tauto

/-- Equal currents, states and items in force meet the law alike. -/
theorem shareSafe_of_cfg {s t : State} (h : s.shareSafe) (hcommitted : t.alk.committed = s.alk.committed)
    (hcfg : ∀ i, t.cfg i = s.cfg i) (hkept : t.shr.state = s.shr.state ∧ t.shr.solo = s.shr.solo ∧
      t.shr.ho = s.shr.ho ∧ t.shr.wo = s.shr.wo ∧ t.shr.co = s.shr.co ∧ t.shr.claim = s.shr.claim) : t.shareSafe := by
  obtain ⟨hstate, hsolo, hho, hwo, hco, hclaim⟩ := hkept
  unfold State.shareSafe State.hoBounded State.soloAllowance State.ratings State.weights at h ⊢
  simpa only [hcommitted, hcfg, hstate, hsolo, hho, hwo, hco, hclaim] using h

theorem shareSafe_of_kept {s t : State} (h : s.shareSafe) (hkept : t.shr.state = s.shr.state ∧ t.shr.solo = s.shr.solo ∧
    t.shr.ho = s.shr.ho ∧ t.shr.wo = s.shr.wo ∧ t.shr.co = s.shr.co ∧ t.shr.claim = s.shr.claim)
    (halk : t.alk.committed = s.alk.committed ∧ t.alk.items = s.alk.items) : t.shareSafe := by
  obtain ⟨hcommitted, hitems⟩ := halk
  exact shareSafe_of_cfg h hcommitted (State.cfg_congr hitems hcommitted) hkept

theorem soloAllowance_le (s : State) : s.soloAllowance ≤ s.cfg .b := Nat.div_le_self _ _

/-- A claim stands in SHARING alone, so elsewhere Co is 0. -/
theorem unclaimed_of_state {s : State} (h : s.shareSafe) (hst : s.shr.state ≠ .sharing) :
    s.shr.claim = .none ∧ s.shr.co = 0 := by
  obtain ⟨-, -, -, -, -, hnone, hstands⟩ := h
  have hclaim : s.shr.claim = .none := by
    by_contra hc
    exact hst (hstands hc)
  exact ⟨hclaim, hnone hclaim⟩

theorem claimSafe_of_unclaimed {s : State} (hb : s.hoBounded) (hclaim : s.shr.claim = .none) (hco : s.shr.co = 0) :
    s.claimSafe := by
  obtain ⟨-, hframe, -⟩ := hb
  exact ⟨by omega, fun _ => hco, fun h => absurd hclaim h⟩

/-- Every bound of Ho is an upper one, so Ho may fall. -/
theorem shareSafe_lowered {h : Nat} {s : State} (hs : s.shareSafe) (hle : h ≤ s.shr.ho) :
    (s.modShr fun u => { u with ho := h }).shareSafe := by
  obtain ⟨⟨hb, hframe, hzero, hsolo⟩, hformed, hcommit, hwo, hsum, hnone, hstands⟩ := hs
  refine ⟨⟨hle.trans hb, hle.trans hframe, fun hst => ?_, fun hst => hle.trans (hsolo hst)⟩, hformed, hcommit, hwo, ?_,
    hnone, hstands⟩
  · exact Nat.le_zero.mp (hle.trans (hzero hst).le)
  · exact (Nat.add_le_add_right hle _).trans hsum

theorem shareSafe_shrShed {h : Nat} {s : State} (hs : s.shareSafe) (hle : h ≤ s.shr.ho) : (shrShed h s).shareSafe :=
  shareSafe_of_kept (shareSafe_lowered hs hle) (by simp [shrShed]) (by simp)

theorem shareSafe_shrDropClaim {s : State} (h : s.shareSafe) : (shrDropClaim s).shareSafe := by
  rw [shareSafe_iff] at h ⊢
  obtain ⟨hbounded, hformed, -⟩ := h
  exact ⟨hbounded, hformed, claimSafe_of_unclaimed (s := shrDropClaim s) hbounded rfl rfl⟩

/-- A new want that fits a frame, before SHR acts on it. -/
theorem shareSafe_wanted {w : Nat} {s : State} (h : s.shareSafe) (hw : w ≤ 1023) :
    (s.modShr fun u => { u with wo := w }).shareSafe := by
  obtain ⟨hbounded, hformed, hcommit, -, hclaim⟩ := h
  exact ⟨hbounded, hformed, hcommit, hw, hclaim⟩

/-! ## The evaluation in SHARING (R142 to R144) -/

/-- Go is never above Wo: the proportion of B is below the whole want (R142). -/
theorem State.targetOf_le_wo (s : State) : s.targetOf ≤ s.shr.wo := by
  unfold State.targetOf
  dsimp only
  split_ifs with hfits
  · exact le_rfl
  · refine Nat.div_le_of_le_mul ?_
    exact Nat.mul_le_mul_right _ (Nat.le_of_not_le hfits)

/-- A claim asks for no more than what is missing of Go (R144). -/
theorem shareSafe_shrClaim {s : State} (h : s.shareSafe) (hst : s.shr.state = .sharing) (hgo : s.shr.go ≤ 1023)
    (hrise : s.shr.ho < s.shr.go) : (shrClaim s).shareSafe := by
  unfold shrClaim
  split_ifs
  · have hclaimed : (s.modShr fun u => { u with co := s.claimStep, claim := .announcing }).shareSafe := by
      obtain ⟨hbounded, hformed, hcommit, hwo, -⟩ := h
      have hstep : s.claimStep ≤ s.shr.go - s.shr.ho := min_le_left _ _
      have hsum : s.shr.ho + s.claimStep ≤ 1023 := by omega
      exact ⟨hbounded, hformed, hcommit, hwo, hsum, by simp, fun _ => hst⟩
    exact shareSafe_of_kept hclaimed (by simp) (by simp)
  · exact h

theorem shareSafe_shrEvaluate {s : State} (h : s.shareSafe) (hst : s.shr.state = .sharing) : (shrEvaluate s).shareSafe := by
  have htarget : s.targetOf ≤ 1023 := by
    obtain ⟨-, -, -, hwo, -⟩ := h
    exact s.targetOf_le_wo.trans hwo
  have haimed : (s.modShr fun u => { u with go := s.targetOf }).shareSafe := h
  unfold shrEvaluate shrCompare
  split_ifs with hfall hclaims
  · exact shareSafe_shrDropClaim (shareSafe_shrShed haimed hfall.le)
  · obtain ⟨hrise, -⟩ := hclaims
    exact shareSafe_shrClaim haimed hst htarget hrise
  · exact haimed

/-- A claim that settles gains no more than the room, which B bounds, nor than Co (R146). -/
theorem shareSafe_shrSettle {s : State} (h : s.shareSafe) (hclaim : s.shr.claim = .settling) : (shrSettle s).shareSafe := by
  obtain ⟨⟨hb, -⟩, hformed, hcommit, hwo, hsum, -, hstands⟩ := h
  have hst : s.shr.state = .sharing := hstands (by simp [hclaim])
  have hroom : s.shr.ho + s.room ≤ s.cfg .b := by
    unfold State.room
    omega
  have hgained : (shrDropClaim (s.modShr fun u => { u with ho := u.ho + min u.co s.room })).shareSafe := by
    have hbounded : s.shr.ho + min s.shr.co s.room ≤ s.cfg .b :=
      (Nat.add_le_add_left (min_le_right _ _) _).trans hroom
    have hframe : s.shr.ho + min s.shr.co s.room ≤ 1023 := (Nat.add_le_add_left (min_le_left _ _) _).trans hsum
    exact ⟨⟨hbounded, hframe, by simp [hst], by simp [hst]⟩, hformed, hcommit, hwo, hframe, fun _ => rfl,
      fun h => absurd rfl h⟩
  exact shareSafe_shrEvaluate (shareSafe_of_kept hgained (by simp) (by simp)) (by simpa using hst)

/-! ## The solo allowance (R140, R141) -/

/-- In FALLBACK with no claim, Ho at min(Wo, S) meets the law whatever it was. -/
theorem shareSafe_solo {s : State} (hformed : s.shareFormed) (hst : s.shr.state = .fallback) (hclaim : s.shr.claim = .none)
    (hco : s.shr.co = 0) : (s.modShr fun u => { u with ho := min s.shr.wo s.shr.solo }).shareSafe := by
  obtain ⟨hcommitted, hcommit, hwo⟩ := id hformed
  obtain ⟨hsolo, -⟩ := hcommit (by simp [hcommitted, hst])
  have hallowance : min s.shr.wo s.shr.solo ≤ s.soloAllowance := hsolo ▸ min_le_right _ _
  have hbounded : (s.modShr fun u => { u with ho := min s.shr.wo s.shr.solo }).hoBounded :=
    ⟨hallowance.trans (soloAllowance_le s), (min_le_left _ _).trans hwo, by simp [hst], fun _ => hallowance⟩
  exact (shareSafe_iff _).mpr ⟨hbounded, hformed, claimSafe_of_unclaimed hbounded hclaim hco⟩

theorem shareSafe_shrSolo {s : State} (hformed : s.shareFormed) (hst : s.shr.state = .fallback)
    (hclaim : s.shr.claim = .none) (hco : s.shr.co = 0) : (shrSolo s).shareSafe := by
  have hsolo := shareSafe_solo hformed hst hclaim hco
  unfold shrSolo
  dsimp only
  split_ifs
  · exact shareSafe_of_kept hsolo (by simp [shrShed]) (by simp)
  · exact hsolo

theorem shareSafe_shrFollow {s : State} (h : s.shareSafe) (hst : s.shr.state = .fallback) : (shrFollow s).shareSafe := by
  obtain ⟨hclaim, hco⟩ := unclaimed_of_state h (by simp [hst])
  obtain ⟨-, hformed, -⟩ := (shareSafe_iff s).mp h
  have hsolo := shareSafe_solo hformed hst hclaim hco
  unfold shrFollow
  dsimp only
  split_ifs
  · exact shareSafe_of_kept hsolo (by simp [shrShed]) (by simp)
  · exact shareSafe_of_kept hsolo (by simp) (by simp)
  · exact h

theorem shareSafe_shrLower {s : State} (h : s.shareSafe) : (shrLower s).shareSafe := by
  unfold shrLower
  split_ifs with hfall
  · exact shareSafe_shrShed h hfall.le
  · exact h

/-- REG's want by the share state (R139, R141, R142). -/
theorem shareSafe_shrWant {w : Nat} {s : State} (h : s.shareSafe) (hw : w ≤ 1023) : (shrWant w s).shareSafe := by
  have hwanted := shareSafe_wanted h hw
  unfold shrWant
  dsimp only
  split
  case h_1 | h_2 => exact hwanted
  case h_3 => exact shareSafe_shrLower hwanted
  case h_4 hst => exact shareSafe_shrEvaluate hwanted hst
  case h_5 hst => exact shareSafe_shrFollow hwanted hst

/-- The want of a demand is at most If (R80). -/
theorem wantOf_le_fullCurrent {demand : Nat} (s : State) (hd : demand ≤ 1000) :
    s.wantOf demand ≤ fullCurrent s.ratings s.weights := by
  have := Nat.mul_le_mul_right (fullCurrent s.ratings s.weights) hd
  unfold State.wantOf ceilDiv
  omega

/-- Before commit every element is absent (R89). -/
theorem fullCurrent_of_uncommitted {s : State} (h : s.alk.committed = false) : fullCurrent s.ratings s.weights = 0 := by
  simp [fullCurrent, State.ratings, State.cfg, h, Item.default, PerElement.zip, PerElement.sum]

theorem fullCurrent_le {s : State} (h : s.shareSafe) : fullCurrent s.ratings s.weights ≤ 1023 := by
  obtain ⟨-, -, hcommit, -⟩ := h
  cases hc : s.alk.committed
  case true => exact (hcommit hc).2
  case false => simp [fullCurrent_of_uncommitted hc]

/-! ## Both laws together -/

/-- `t` meets the law of the slot and the law of the held current, each where `s` does. -/
def SharingKept (s t : State) : Prop := (s.slotSafe → t.slotSafe) ∧ (s.shareSafe → t.shareSafe)

theorem SharingKept.refl (s : State) : SharingKept s s := ⟨id, id⟩

/-- One more operation that keeps each law. -/
theorem SharingKept.step {b s t : State} (h : SharingKept b s) (hslot : s.slotSafe → t.slotSafe)
    (hshare : s.shareSafe → t.shareSafe) : SharingKept b t := by
  obtain ⟨hslot', hshare'⟩ := h
  exact ⟨hslot ∘ hslot', hshare ∘ hshare'⟩

/-- An operation that SHR does not hear of. -/
theorem sharingKept_of_shr {b s t : State} (h : SharingKept b s) (hkept : t.shr = s.shr ∧
    t.alk.committed = s.alk.committed ∧ t.alk.items = s.alk.items) : SharingKept b t := by
  obtain ⟨hshr, halk⟩ := hkept
  exact h.step (fun hs => slotSafe_of_kept hs (by simp [hshr])) fun hs => shareSafe_of_kept hs (by simp [hshr]) halk

theorem sharingKept_ite {c : Prop} [Decidable c] {b t u : State} (ht : c → SharingKept b t) (hu : ¬c → SharingKept b u) :
    SharingKept b (if c then t else u) := by
  split_ifs with hc
  · exact ht hc
  · exact hu hc

/-- An operation taken under a condition, or nothing. -/
theorem sharingKept_iteSelf {c : Prop} [Decidable c] {b s t : State} (h : SharingKept b s) (ht : c → SharingKept b t) :
    SharingKept b (if c then t else s) := sharingKept_ite ht fun _ => h

/-- An operation that moves the currents keeps the slot as it was. -/
theorem sharingKept_of_current {b s t : State} (h : SharingKept b s) (hslot : t.shr.slot = s.shr.slot ∧
    t.shr.request = s.shr.request ∧ t.shr.valve = s.shr.valve) (hshare : s.shareSafe → t.shareSafe) : SharingKept b t :=
  h.step (fun hs => slotSafe_of_kept hs hslot) hshare

theorem sharingKept_shrWant {w : Nat} {b s : State} (h : SharingKept b s) (hw : s.shareSafe → w ≤ 1023) :
    SharingKept b (shrWant w s) :=
  sharingKept_of_current h (by simp) fun hs => shareSafe_shrWant hs (hw hs)

theorem sharingKept_shrRelease {b s : State} (h : SharingKept b s) : SharingKept b (shrRelease s) :=
  h.step (fun hs => slotSafe_shrRelease hs.1) fun hs => shareSafe_of_kept hs (by simp) (by simp)

/-- PTB's sums move the currents in SHARING alone (R134, R142). -/
theorem sharingKept_shrSums {x : Sums} {b s : State} (h : SharingKept b s) : SharingKept b (shrSums x s) :=
  sharingKept_of_current h (by simp) fun hs => by
    have hsums : (s.modShr fun u => { u with sums := x }).shareSafe := hs
    unfold shrSums
    dsimp only
    split_ifs with hst
    · exact shareSafe_shrEvaluate hsums hst
    · exact hsums

/-- A claim announced settles; it stood before (R145). -/
theorem sharingKept_shrCompletion {f : Frame} {b s : State} (h : SharingKept b s) : SharingKept b (shrCompletion f s) :=
  sharingKept_of_current h (by simp) fun hs => by
    have hsettling : (if s.shr.claim = .announcing ∧ 0 < f.claim ∧ f.claim = s.shr.co then
        s.modShr fun u => { u with claim := .settling, claimTimer := some 300 } else s).shareSafe := by
      split_ifs with hannounced
      · obtain ⟨hclaim, -⟩ := hannounced
        obtain ⟨hbounded, hformed, hcommit, hwo, hsum, -, hstands⟩ := hs
        exact ⟨hbounded, hformed, hcommit, hwo, hsum, by simp, fun _ => hstands (by simp [hclaim])⟩
      · exact hs
    unfold shrCompletion
    dsimp only
    generalize (if s.shr.claim = .announcing ∧ 0 < f.claim ∧ f.claim = s.shr.co then _ else s) = m at hsettling ⊢
    split_ifs
    · exact hsettling
    · exact hsettling

end Sys2Proof.Machine
end

section
/-! SUPPORT. The laws of the slot and of the held current (R147, R149) under the shared operations: HEATING left, the notices
of PRT, the ramp engine, the burn slot, and SHR's causes and fallback. -/

namespace Sys2Proof.Machine

/-! ## PRT's notices (R10 to R12, R158 to R161) -/

/-- HEATING is left with the slot released and a want of 0 (R10). -/
theorem sharingKept_cycLeaveHeating {p : Phase} {b s : State} (h : SharingKept b s) :
    SharingKept b (cycLeaveHeating p s) := by
  have hopened : SharingKept b (drvMain ((prfIdle (cycSetPhase p s)).modDrv fun d => { d with permitted := false })) :=
    sharingKept_of_shr h (by simp)
  exact sharingKept_shrWant (s := State.modReg _ _) (sharingKept_shrRelease hopened) fun _ => Nat.zero_le _

theorem sharingKept_cycTrip {c : FaultCode} {b s : State} (h : SharingKept b s) : SharingKept b (cycTrip c s) := by
  have hnote : SharingKept b (cycFirstFault c (cycOutcome .tripped s)) := h
  cases hp : s.cyc.phase <;> simp only [cycTrip, hp]
  case idle | tripped => exact h
  case heating => exact sharingKept_cycLeaveHeating hnote
  case locking | cooling | unlocking | held => exact sharingKept_of_shr hnote (by simp)

theorem sharingKept_cycAbort {c : FaultCode} {b s : State} (h : SharingKept b s) : SharingKept b (cycAbort c s) := by
  have hnote : SharingKept b (cycOutcome .faultAborted (cycFirstFault c s)) := h
  cases hp : s.cyc.phase <;> simp only [cycAbort, hp]
  case heating => exact sharingKept_cycLeaveHeating hnote
  case idle | held | locking | cooling | unlocking | tripped => exact h

theorem sharingKept_cycComplete {b s : State} (h : SharingKept b s) : SharingKept b (cycComplete s) :=
  sharingKept_iteSelf h fun _ => sharingKept_cycLeaveHeating (s := cycOutcome .completed s) h

theorem sharingKept_prtAction {c : FaultCode} {b s : State} (h : SharingKept b s) : SharingKept b (prtAction c s) := by
  cases hcls : c.cls <;> simp only [prtAction, hcls]
  case trip => exact sharingKept_cycTrip (sharingKept_of_shr h (by simp))
  case abort => exact sharingKept_cycAbort h
  case degrade => exact h

theorem sharingKept_prtRaise {c : FaultCode} {b s : State} (h : SharingKept b s) : SharingKept b (prtRaise c s) :=
  sharingKept_ite (fun _ => h) fun _ => sharingKept_prtAction (sharingKept_of_shr h (by simp))

theorem sharingKept_prtGone {c : FaultCode} {b s : State} (h : SharingKept b s) : SharingKept b (prtGone c s) :=
  sharingKept_of_shr h (by simp)

theorem sharingKept_alkRecord {k : EventKind} {d : Half} {b s : State} (h : SharingKept b s) :
    SharingKept b (alkRecord k d s) := sharingKept_of_shr h (by simp)

/-! ## The ramp engine and the burn slot (R32, R39, R41, R149 to R155) -/

theorem sharingKept_rampEnter {b s : State} (h : SharingKept b s) : SharingKept b (rampEnter s) := by
  cases hk : s.segment.kind <;> simp only [rampEnter, hk]
  case ramp | hold => exact sharingKept_alkRecord h
  case endRec | code3 => exact sharingKept_cycComplete h

theorem sharingKept_prfGrant {b s : State} (h : SharingKept b s) : SharingKept b (prfGrant s) :=
  sharingKept_ite (fun _ => sharingKept_rampEnter (sharingKept_of_shr h (by simp))) fun _ => sharingKept_shrRelease h

/-- The slot becomes HOLD with the request GRANTED, whatever stood before (R149). -/
theorem slotSafe_shrHold {s : State} (h : s.valveFollows) : (shrHold s).slotSafe := by
  obtain ⟨hslot, -⟩ := sharingKept_prfGrant (SharingKept.refl (shrSetSlot .hold
    (s.modShr fun u => { u with request := .granted, settleTimer := none, backoffTimer := none })))
  exact hslot (slotSafe_shrSetSlot h rfl)

theorem shareSafe_shrHold {s : State} (h : s.shareSafe) : (shrHold s).shareSafe := by
  obtain ⟨-, hshare⟩ := sharingKept_prfGrant (SharingKept.refl (shrSetSlot .hold
    (s.modShr fun u => { u with request := .granted, settleTimer := none, backoffTimer := none })))
  exact hshare (shareSafe_of_kept h (by simp) (by simp))

/-- The static rule decides a request that holds no slot: HOLD, or WAITING without one (R153). -/
theorem slotSafe_shrStatic {s : State} (h : s.valveFollows) (hslot : s.shr.slot = .none) : (shrStatic s).slotSafe := by
  unfold shrStatic
  split_ifs
  · exact slotSafe_shrHold h
  · exact slotSafe_of_none h hslot rfl

theorem shareSafe_shrStatic {s : State} (h : s.shareSafe) : (shrStatic s).shareSafe := by
  unfold shrStatic
  split_ifs
  · exact shareSafe_shrHold h
  · exact h

theorem slotSafe_shrTakeRequest {s : State} (h : s.slotSafe) (hslot : s.shr.slot = .none) : (shrTakeRequest s).slotSafe := by
  obtain ⟨hvalve, -⟩ := (slotSafe_iff s).mp h
  cases hst : s.shr.state <;> simp only [shrTakeRequest, hst]
  case off => exact h
  case listening | fallback => exact slotSafe_shrStatic hvalve hslot
  case sharing =>
    split_ifs
    · exact slotSafe_shrSetSlot hvalve rfl
    · exact slotSafe_shrBackOff hvalve hslot

theorem shareSafe_shrTakeRequest {s : State} (h : s.shareSafe) : (shrTakeRequest s).shareSafe := by
  cases hst : s.shr.state <;> simp only [shrTakeRequest, hst]
  case off => exact h
  case listening | fallback => exact shareSafe_shrStatic h
  case sharing =>
    split_ifs
    · exact shareSafe_of_kept h (by simp) (by simp)
    · exact shareSafe_of_kept h (by simp) (by simp)

/-- A request is taken while it holds no slot (R150, R152, R153). -/
theorem sharingKept_shrTakeRequest {b s : State} (h : SharingKept b s) (hr : s.shr.request.slot = .none) :
    SharingKept b (shrTakeRequest s) :=
  h.step (fun hs => slotSafe_shrTakeRequest hs (slot_none_of_slotSafe hs hr)) shareSafe_shrTakeRequest

theorem sharingKept_shrRequest {b s : State} (h : SharingKept b s) : SharingKept b (shrRequest s) :=
  sharingKept_iteSelf h fun hr => sharingKept_shrTakeRequest h (by rw [hr]; rfl)

theorem sharingKept_rampBegin {i : Nat} {b s : State} (h : SharingKept b s) : SharingKept b (rampBegin i s) :=
  sharingKept_ite (fun _ => sharingKept_shrRequest (sharingKept_of_shr h (by simp))) fun _ =>
    sharingKept_ite (fun _ => sharingKept_rampEnter (sharingKept_shrRelease (sharingKept_of_shr h (by simp)))) fun _ =>
      sharingKept_rampEnter h

/-! ## SHR's causes and fallback (R138, R140, R154) -/

/-- A slot claimed is given back before the static rule decides (R154). -/
theorem slotSafe_shrSlotFallback {s : State} (h : s.slotSafe) : (shrSlotFallback s).slotSafe := by
  obtain ⟨hvalve, hslot⟩ := (slotSafe_iff s).mp h
  cases hr : s.shr.request <;> simp only [shrSlotFallback, hr]
  case claiming => exact slotSafe_shrStatic (valveFollows_shrSetSlot hvalve) (by simp)
  case backingOff => exact slotSafe_shrStatic hvalve (by rw [hslot, hr]; rfl)
  case none | waiting | granted => exact h

theorem shareSafe_shrSlotFallback {s : State} (h : s.shareSafe) : (shrSlotFallback s).shareSafe := by
  cases hr : s.shr.request <;> simp only [shrSlotFallback, hr]
  case claiming => exact shareSafe_shrStatic (shareSafe_of_kept h (by simp) (by simp))
  case backingOff => exact shareSafe_shrStatic h
  case none | waiting | granted => exact h

/-- A claim that stands is withdrawn with its current (R140). -/
theorem shrWithdraw_unclaimed {s : State} (h : s.shr.claim = .none → s.shr.co = 0) :
    (shrWithdraw s).shr.claim = .none ∧ (shrWithdraw s).shr.co = 0 := by
  unfold shrWithdraw
  split_ifs with hclaim
  · exact ⟨hclaim, h hclaim⟩
  · simp [shrDropClaim]

theorem shareFormed_congr {s t : State} (h : s.shareFormed) (hstate : t.shr.state = .off ↔ s.shr.state = .off)
    (hshr : t.shr.solo = s.shr.solo ∧ t.shr.wo = s.shr.wo)
    (halk : t.alk.committed = s.alk.committed ∧ t.alk.items = s.alk.items) : t.shareFormed := by
  obtain ⟨hsolo, hwo⟩ := hshr
  obtain ⟨hcommitted, hitems⟩ := halk
  have hcfg := State.cfg_congr hitems hcommitted
  have hoff : (t.shr.state != .off) = (s.shr.state != .off) := by
    rw [Bool.eq_iff_iff]
    simp [hstate]
  unfold State.shareFormed State.soloAllowance State.ratings State.weights at h ⊢
  simpa only [hoff, hsolo, hwo, hcommitted, hcfg] using h

/-- On entry to FALLBACK the claim goes and Ho becomes min(Wo, S), before the slot is dealt with (R140). -/
theorem shareSafe_fellBack {s : State} (h : s.shareSafe) (hst : s.shr.state ≠ .off) :
    (shrSolo (shrWithdraw (s.modShr fun u => { u with state := .fallback, listenTimer := none }))).shareSafe := by
  obtain ⟨-, hformed, -, hnone, -⟩ := (shareSafe_iff s).mp h
  obtain ⟨hclaim, hco⟩ := shrWithdraw_unclaimed
    (s := s.modShr fun u => { u with state := .fallback, listenTimer := none }) hnone
  exact shareSafe_shrSolo (shareFormed_congr hformed (by simp [hst]) (by simp) (by simp)) (by simp) hclaim hco

theorem sharingKept_shrEnterFallback {b s : State} (h : SharingKept b s) (hst : s.shr.state ≠ .off) :
    SharingKept b (shrEnterFallback s) := by
  have hfell : SharingKept b
      (shrSolo (shrWithdraw (s.modShr fun u => { u with state := .fallback, listenTimer := none }))) :=
    sharingKept_of_current h (by simp) fun hs => shareSafe_fellBack hs hst
  exact sharingKept_alkRecord ((sharingKept_of_shr hfell (by simp)).step slotSafe_shrSlotFallback shareSafe_shrSlotFallback)

theorem sharingKept_shrAddCause {c : Cause} {b s : State} (h : SharingKept b s) : SharingKept b (shrAddCause c s) := by
  have hjoined : SharingKept b (s.modShr fun u => { u with causes := u.causes ||| c.bit }) := h
  cases hst : s.shr.state <;> simp only [shrAddCause, hst]
  case off | fallback => exact hjoined
  case listening | sharing =>
    exact sharingKept_ite (fun _ => sharingKept_shrEnterFallback hjoined (by simp [hst])) fun _ => hjoined

/-- The re-listen keeps Ho, which S bounds in FALLBACK already (R140, R141). -/
theorem shareSafe_relistens {s : State} (h : s.shareSafe) (hst : s.shr.state = .fallback) :
    (s.modShr fun u => { u with state := .listening false, listenTimer := some 3500 }).shareSafe := by
  obtain ⟨hclaim, hco⟩ := unclaimed_of_state h (by simp [hst])
  obtain ⟨⟨hb, hframe, -, hsolo⟩, hformed, -⟩ := (shareSafe_iff s).mp h
  have hbounded : (s.modShr fun u => { u with state := .listening false, listenTimer := some 3500 }).hoBounded :=
    ⟨hb, hframe, by simp, fun _ => hsolo (.inl hst)⟩
  exact (shareSafe_iff _).mpr ⟨hbounded, shareFormed_congr hformed (by simp [hst]) (by simp) (by simp),
    claimSafe_of_unclaimed hbounded hclaim hco⟩

theorem sharingKept_shrRemoveCause {c : Cause} {b s : State} (h : SharingKept b s) : SharingKept b (shrRemoveCause c s) :=
  sharingKept_of_current h (by simp) fun hs => by
    have hleft : (s.modShr fun u => { u with causes := u.causes &&& ~~~c.bit }).shareSafe := hs
    unfold shrRemoveCause
    dsimp only
    split_ifs with hlast
    · obtain ⟨-, -, hst⟩ := hlast
      exact shareSafe_of_kept (shareSafe_relistens hleft hst) (by simp [shrRelisten]) (by simp)
    · exact hleft

end Sys2Proof.Machine
end

section
/-! SUPPORT. The laws of the slot and of the held current (R147, R149) under the operations of LCK and TMS: SHR hears of them
where HEATING is entered and where a fault ends it. -/

namespace Sys2Proof.Machine

/-- The unlock that CYC may ask for in TRIPPED does not concern SHR (R13). -/
theorem sharingKept_takeEvent {f : State → State} {b s : State} (h : SharingKept b (f s)) : SharingKept b (takeEvent f s) :=
  sharingKept_of_shr h (by simp)

/-! ## LCK (R43, R48 to R58) -/

/-- HEATING is entered with the ramp engine's first segment, which may ask for the slot (R7, R31). -/
theorem sharingKept_cycLocked {b s : State} (h : SharingKept b s) : SharingKept b (cycLocked s) :=
  sharingKept_iteSelf h fun _ => sharingKept_ite (fun _ => sharingKept_of_shr h (by simp)) fun _ =>
    sharingKept_rampBegin (sharingKept_of_shr h (by simp))

theorem sharingKept_lckFail {b s : State} (h : SharingKept b s) : SharingKept b (lckFail s) := by
  have hraised : SharingKept b (prtRaise .lockFail (s.modLck fun l => { l with attempts := 0 })) := sharingKept_prtRaise h
  exact sharingKept_of_shr hraised (by simp [lckFail])

theorem sharingKept_lckLock {b s : State} (h : SharingKept b s) : SharingKept b (lckLock s) :=
  sharingKept_ite (fun _ => sharingKept_of_shr h (by simp)) fun _ => sharingKept_lckFail h

theorem sharingKept_lckAttemptFailed {b s : State} (h : SharingKept b s) : SharingKept b (lckAttemptFailed s) :=
  sharingKept_ite (fun _ => h) fun _ => sharingKept_lckFail (sharingKept_of_shr h (by simp))

theorem sharingKept_lckReturnEnd {b s : State} (h : SharingKept b s) : SharingKept b (lckReturnEnd s) :=
  sharingKept_ite (fun _ => sharingKept_lckFail (sharingKept_of_shr h (by simp))) fun _ =>
    sharingKept_lckFail (sharingKept_of_shr h (by simp))

theorem sharingKept_lckDoorOpened {b s : State} (h : SharingKept b s) : SharingKept b (lckDoorOpened s) :=
  sharingKept_ite (fun _ => h) fun _ => sharingKept_ite (fun _ => sharingKept_lckFail (sharingKept_of_shr h (by simp)))
    fun _ => sharingKept_lckFail (sharingKept_of_shr h (by simp))

theorem sharingKept_lckUnlockJam {b s : State} (h : SharingKept b s) : SharingKept b (lckUnlockJam s) := by
  have hraised : SharingKept b (prtRaise .unlockFail
      ((lckSetJammed s.latchEngaged (lckStop s)).modLck fun l => { l with attempts := 0 })) :=
    sharingKept_prtRaise (sharingKept_of_shr h (by simp))
  exact sharingKept_of_shr hraised (by simp [lckUnlockJam])

theorem sharingKept_lckUnlockFailed {b s : State} (h : SharingKept b s) : SharingKept b (lckUnlockFailed s) :=
  sharingKept_ite (fun _ => h) fun _ => sharingKept_lckUnlockJam h

theorem sharingKept_lckLost {b s : State} (h : SharingKept b s) : SharingKept b (lckLost s) := by
  have hraised : SharingKept b (prtRaise .lockLost (s.modLck fun l => { l with lockLostPresent := true })) :=
    sharingKept_prtRaise h
  have hjam : SharingKept b (lckJamEnds (lckSetJammed false
      (prtRaise .lockLost (s.modLck fun l => { l with lockLostPresent := true })))) :=
    sharingKept_of_shr hraised (by simp)
  exact sharingKept_iteSelf hjam fun _ => sharingKept_of_shr hjam (by simp)

theorem sharingKept_lckForced {b s : State} (h : SharingKept b s) : SharingKept b (lckForced s) := by
  have hraised : SharingKept b (prtRaise .doorForced (s.modLck fun l => { l with doorForcedPresent := true })) :=
    sharingKept_prtRaise h
  exact sharingKept_iteSelf hraised fun _ => sharingKept_of_shr hraised (by simp)

theorem sharingKept_lckLatchFree {b s : State} (h : SharingKept b s) : SharingKept b (lckLatchFree s) := by
  have hgone : SharingKept b (lckForcedGone s) := sharingKept_of_shr h (by simp)
  unfold lckLatchFree
  simp only
  generalize lckForcedGone s = m at hgone ⊢
  split
  case h_1 => exact sharingKept_lckAttemptFailed (s := lckStop m) hgone
  case h_2 | h_3 => exact hgone
  all_goals exact sharingKept_iteSelf hgone fun _ => sharingKept_lckLost hgone

theorem sharingKept_lckDoorOpens {b s : State} (h : SharingKept b s) : SharingKept b (lckDoorOpens s) :=
  sharingKept_ite (fun _ => sharingKept_ite (fun _ => h) fun _ => sharingKept_lckDoorOpened h) fun _ =>
    sharingKept_ite (fun _ => sharingKept_lckForced h) fun _ => sharingKept_of_shr h (by simp)

theorem sharingKept_lckActs {sw : SwitchId} {level : Bool} {b s : State} (h : SharingKept b s) :
    SharingKept b (lckActs sw level s) := by
  cases sw
  case latch =>
    exact sharingKept_ite (fun _ => sharingKept_of_shr h (by simp)) fun _ =>
      sharingKept_ite (fun _ => sharingKept_of_shr h (by simp)) fun _ => sharingKept_lckLatchFree h
  case door =>
    cases level
    case false => exact sharingKept_ite (fun _ => h) fun _ => sharingKept_lckDoorOpens h
    case true => exact sharingKept_ite (fun _ => h) fun _ => sharingKept_of_shr h (by simp)

theorem sharingKept_lckDebounced {sw : SwitchId} {level : Bool} {b s : State} (h : SharingKept b s) :
    SharingKept b (lckDebounced sw level s) :=
  sharingKept_ite (fun _ => h) fun _ => sharingKept_lckActs h

theorem sharingKept_lckDriveExpiry {b s : State} (h : SharingKept b s) : SharingKept b (lckDriveExpiry s) :=
  sharingKept_iteSelf h fun _ => sharingKept_lckAttemptFailed (sharingKept_of_shr h (by simp))

theorem sharingKept_lckSeatEnd {b s : State} (h : SharingKept b s) : SharingKept b (lckSeatEnd s) :=
  sharingKept_iteSelf h fun _ => sharingKept_ite (fun _ => sharingKept_cycLocked (sharingKept_of_shr h (by simp))) fun _ =>
    sharingKept_lckAttemptFailed (s := lckStop s) h

theorem sharingKept_lckUnlockExpiry {b s : State} (h : SharingKept b s) : SharingKept b (lckUnlockExpiry s) := by
  have hmeet : SharingKept b (lckMeet s) := sharingKept_of_shr h (by simp)
  unfold lckUnlockExpiry
  split
  case h_1 => exact sharingKept_lckUnlockFailed (s := lckStop (lckMeet s)) hmeet
  case h_2 | h_3 => exact sharingKept_lckReturnEnd hmeet
  all_goals exact h

theorem sharingKept_lckClearanceEnd {b s : State} (h : SharingKept b s) : SharingKept b (lckClearanceEnd s) := by
  unfold lckClearanceEnd
  split
  case h_1 => exact sharingKept_of_shr h (by simp)
  case h_2 => exact sharingKept_lckReturnEnd h
  all_goals exact h

theorem sharingKept_lckUnlockPause {b s : State} (h : SharingKept b s) : SharingKept b (lckUnlockPause s) :=
  sharingKept_iteSelf h fun _ => sharingKept_ite (fun _ => sharingKept_of_shr h (by simp [lckRetry])) fun _ =>
    sharingKept_lckUnlockJam h

/-! ## TMS and the checks of a period (R60 to R70, R164) -/

theorem sharingKept_tmsCeiling {b s : State} (h : SharingKept b s) : SharingKept b (tmsCeiling s) := by
  refine sharingKept_iteSelf h fun _ => ?_
  split
  · exact h
  · exact sharingKept_ite (fun _ => sharingKept_ite (fun _ => h) fun _ => sharingKept_prtRaise h) fun _ =>
      sharingKept_iteSelf h fun _ => sharingKept_prtGone h

theorem sharingKept_tmsNew {ch : Channel} {b s : State} (h : SharingKept b s) : SharingKept b (tmsNew ch s) := by
  cases ch
  case a | b => exact sharingKept_tmsCeiling (sharingKept_of_shr h (by simp))
  case l => exact sharingKept_of_shr h (by simp [tmsNew])

theorem sharingKept_tmsStanding {ch : Channel} {b s : State} (h : SharingKept b s) : SharingKept b (tmsStanding ch s) := by
  cases ch
  case a | b => exact sharingKept_tmsCeiling (sharingKept_of_shr h (by simp))
  case l => exact sharingKept_of_shr h (by simp [tmsStanding])

theorem sharingKept_tmsFail {ch : Channel} {b s : State} (h : SharingKept b s) : SharingKept b (tmsFail ch s) :=
  sharingKept_tmsStanding (sharingKept_prtRaise (sharingKept_of_shr h (by simp)))

theorem sharingKept_tmsRecover {ch : Channel} {b s : State} (h : SharingKept b s) : SharingKept b (tmsRecover ch s) :=
  sharingKept_tmsNew (sharingKept_tmsStanding (sharingKept_of_shr h (by simp)))

theorem sharingKept_tmsReading {ch : Channel} {raw : Int} {b s : State} (h : SharingKept b s) :
    SharingKept b (tmsReading ch raw s) := by
  have hlatest : SharingKept b (tmsLatest ch raw s) := sharingKept_of_shr h (by simp)
  unfold tmsReading
  simp only
  generalize tmsLatest ch raw s = m at hlatest ⊢
  split
  case h_1 =>
    exact sharingKept_tmsNew (sharingKept_ite (fun _ => hlatest) fun _ => sharingKept_tmsStanding hlatest)
  case h_2 | h_3 => exact sharingKept_ite (fun _ => hlatest) fun _ => sharingKept_tmsFail hlatest
  case h_4 => exact sharingKept_ite (fun _ => hlatest) fun _ => sharingKept_tmsRecover hlatest
  case h_5 | h_6 => exact hlatest

theorem sharingKept_tmsPair {b s : State} (h : SharingKept b s) : SharingKept b (tmsPair s) := by
  have hcounts : SharingKept b (tmsCounts s) := sharingKept_of_shr h (by simp)
  exact sharingKept_iteSelf h fun _ => sharingKept_ite (fun _ => sharingKept_prtRaise hcounts) fun _ =>
    sharingKept_iteSelf hcounts fun _ => sharingKept_prtGone hcounts

theorem sharingKept_tmsHot {b s : State} (h : SharingKept b s) : SharingKept b (tmsHot s) :=
  sharingKept_iteSelf h fun _ => sharingKept_ite (fun _ => sharingKept_prtRaise h) fun _ => h

theorem sharingKept_tmsComplete {ch : Channel} {raw : Int} {b s : State} (h : SharingKept b s) :
    SharingKept b (tmsComplete ch raw s) := by
  refine sharingKept_iteSelf h fun _ => ?_
  have hreading : SharingKept b (tmsReading ch raw (s.modTms fun t => { t with due := nextDue ch })) :=
    sharingKept_tmsReading h
  cases ch
  case a => exact hreading
  case b => exact sharingKept_tmsPair hreading
  case l => exact sharingKept_tmsHot hreading

theorem sharingKept_prtSecond {b s : State} (h : SharingKept b s) : SharingKept b (prtSecond s) :=
  sharingKept_iteSelf h fun _ => sharingKept_ite (fun _ => h) fun _ => sharingKept_of_shr h (by simp)

end Sys2Proof.Machine
end

section
/-! SUPPORT. The laws of the slot and of the held current (R147, R149) under the operations of DRV, BLI, PTB and SHR's
timers. -/

namespace Sys2Proof.Machine

/-! ## DRV (R91 to R103) -/

theorem sharingKept_drvOverCheck {measured expected : Nat} {b s : State} (h : SharingKept b s) :
    SharingKept b (drvOverCheck measured expected s) :=
  sharingKept_ite (fun _ => sharingKept_ite (fun _ => sharingKept_prtGone h) fun _ => h) fun _ =>
    sharingKept_ite (fun _ => sharingKept_ite (fun _ => sharingKept_prtRaise h) fun _ => h) fun _ =>
      sharingKept_ite (fun _ => sharingKept_prtGone h) fun _ => h

theorem sharingKept_drvStuckCheck {measured : Nat} {b s : State} (h : SharingKept b s) :
    SharingKept b (drvStuckCheck measured s) := by
  have hgone : SharingKept b (if s.drv.stuckPresent ∧ measured ≤ 10 then
      prtGone .driveStuck (s.modDrv fun d => { d with stuckPresent := false }) else s) :=
    sharingKept_iteSelf h fun _ => sharingKept_prtGone h
  unfold drvStuckCheck
  dsimp only
  generalize (if s.drv.stuckPresent ∧ measured ≤ 10 then _ else s) = m at hgone ⊢
  exact sharingKept_iteSelf hgone fun _ =>
    sharingKept_ite (fun _ => sharingKept_ite (fun _ => sharingKept_prtRaise hgone) fun _ => hgone) fun _ => hgone

theorem sharingKept_drvLowCheck {measured expected : Nat} {b s : State} (h : SharingKept b s) :
    SharingKept b (drvLowCheck measured expected s) :=
  sharingKept_iteSelf h fun _ => sharingKept_ite
    (fun _ => sharingKept_ite (fun _ => sharingKept_prtRaise h) fun _ => h) fun _ => sharingKept_of_shr h (by simp)

theorem sharingKept_drvComplete {b s : State} (h : SharingKept b s) : SharingKept b (drvComplete s) :=
  sharingKept_drvLowCheck (sharingKept_drvStuckCheck (sharingKept_drvOverCheck h))

theorem sharingKept_drvBegin {b s : State} (h : SharingKept b s) : SharingKept b (drvBegin s) :=
  sharingKept_of_shr h (by simp)

theorem sharingKept_drvBoundary {sample : Nat} {b s : State} (h : SharingKept b s) :
    SharingKept b (drvBoundary sample s) :=
  sharingKept_ite (fun _ => sharingKept_drvBegin (sharingKept_drvComplete h)) fun _ =>
    sharingKept_ite (fun _ => sharingKept_drvBegin h) fun _ => h

theorem sharingKept_drvZeroCross {sample : Nat} {b s : State} (h : SharingKept b s) :
    SharingKept b (drvZeroCross sample s) := by
  have hback : SharingKept b
      (drvMainsBack (s.modDrv fun d => { d with absence := 0, mainsTimer := none, state := .running })) :=
    sharingKept_of_shr h (by simp)
  exact sharingKept_ite (fun _ => sharingKept_drvBoundary hback) fun _ => sharingKept_drvBegin hback

theorem sharingKept_drvMainsAbsent {b s : State} (h : SharingKept b s) : SharingKept b (drvMainsAbsent s) :=
  sharingKept_ite (fun _ => sharingKept_prtAction h) fun _ => sharingKept_prtRaise h

/-! ## BLI (R105 to R121) -/

theorem sharingKept_bliReliability {b s : State} (h : SharingKept b s) : SharingKept b (bliReliability s) :=
  sharingKept_ite (fun _ => sharingKept_shrAddCause (sharingKept_of_shr h (by simp))) fun _ =>
    sharingKept_iteSelf h fun _ => sharingKept_shrRemoveCause (sharingKept_of_shr h (by simp))

theorem sharingKept_bliHeard {b s : State} (h : SharingKept b s) : SharingKept b (bliHeard s) :=
  sharingKept_ite (fun _ => sharingKept_shrRemoveCause (sharingKept_of_shr h (by simp))) fun _ => h

theorem sharingKept_bliGood {b s : State} (h : SharingKept b s) : SharingKept b (bliGood s) :=
  sharingKept_bliHeard (sharingKept_bliReliability (s := s.modBli _) h)

theorem sharingKept_bliConflict {b s : State} (h : SharingKept b s) : SharingKept b (bliConflict s) :=
  sharingKept_ite (fun _ => h) fun _ => sharingKept_shrAddCause (sharingKept_prtRaise h)

theorem sharingKept_bliHeldExpiry {own : Bool} {b s : State} (h : SharingKept b s) :
    SharingKept b (bliHeldExpiry own s) := by
  have hstuck : SharingKept b (bliStuck s) :=
    sharingKept_shrAddCause (sharingKept_prtRaise (sharingKept_of_shr h (by simp)))
  have hheld : SharingKept b (bliHeld s) :=
    sharingKept_ite (fun _ => h) fun _ => sharingKept_shrAddCause (sharingKept_of_shr h (by simp))
  exact sharingKept_ite (fun _ => sharingKept_ite (fun _ => h) fun _ => hstuck) fun _ => hheld

theorem sharingKept_bliIdle {b s : State} (h : SharingKept b s) : SharingKept b (bliIdle s) :=
  sharingKept_ite (fun _ => sharingKept_shrRemoveCause (sharingKept_of_shr h (by simp))) fun _ => h

theorem sharingKept_bliSilent {b s : State} (h : SharingKept b s) : SharingKept b (bliSilent s) :=
  sharingKept_iteSelf h fun _ => sharingKept_shrAddCause (sharingKept_of_shr h (by simp))

theorem sharingKept_bliAttempt {b s : State} (h : SharingKept b s) : SharingKept b (bliAttempt s) := by
  unfold bliAttempt
  split
  · exact sharingKept_iteSelf h fun _ => h
  · exact h

theorem sharingKept_bliDepartExpiry {b s : State} (h : SharingKept b s) : SharingKept b (bliDepartExpiry s) := by
  have hcut : SharingKept b (bliCutOff s) := sharingKept_iteSelf h fun _ => h
  exact sharingKept_iteSelf h fun _ => sharingKept_of_shr hcut (by simp)

/-- A completed frame tells SHR what it announced (R113, R145, R150). -/
theorem sharingKept_bliComplete {b s : State} (h : SharingKept b s) : SharingKept b (bliComplete s) := by
  unfold bliComplete
  split
  case h_1 a _ _ =>
    have hreported : SharingKept b (shrCompletion a.frame (bliPeriod (s.modBli fun u => { u with
        attempt := none, reasons := u.reasons &&& ~~~a.sent, backoff := 0, lastKind := some a.frame.kind,
        output := .released, releasedRun := 0 }))) := sharingKept_shrCompletion h
    unfold bliSucceed
    dsimp only
    split_ifs
    · exact sharingKept_of_shr hreported (by simp)
    · exact hreported
  case h_2 => exact h

/-! ## PTB (R124 to R134) -/

theorem sharingKept_ptbSignal {b s : State} (h : SharingKept b s) : SharingKept b (ptbSignal s) := sharingKept_shrSums h

theorem sharingKept_ptbRemove {cause station : Nat} {b s : State} (h : SharingKept b s) :
    SharingKept b (ptbRemove cause station s) := by
  have hsignalled : SharingKept b (ptbSignal
      (alkRecord .peerRemoved (detail cause station) (ptbSet (removePeer station s.ptb.records) s))) :=
    sharingKept_ptbSignal (sharingKept_of_shr h (by simp))
  exact sharingKept_iteSelf hsignalled fun _ => sharingKept_shrRemoveCause (sharingKept_of_shr hsignalled (by simp))

theorem sharingKept_ptbUpdate {old : Peer} {f : Frame} {b s : State} (h : SharingKept b s) :
    SharingKept b (ptbUpdate old f s) :=
  sharingKept_ptbSignal (sharingKept_ite (fun _ => sharingKept_of_shr h (by simp)) fun _ => h)

theorem sharingKept_ptbInsert {f : Frame} {b s : State} (h : SharingKept b s) : SharingKept b (ptbInsert f s) :=
  sharingKept_ite (fun _ => sharingKept_ptbSignal (sharingKept_of_shr h (by simp))) fun _ =>
    sharingKept_ite (fun _ => h) fun _ => sharingKept_shrAddCause (sharingKept_of_shr h (by simp))

theorem sharingKept_ptbTake {f : Frame} {b s : State} (h : SharingKept b s) : SharingKept b (ptbTake f s) := by
  refine sharingKept_iteSelf h fun _ => ?_
  split
  · exact sharingKept_ptbRemove h
  · exact h
  · exact sharingKept_ptbUpdate h
  · exact sharingKept_ptbInsert h

theorem sharingKept_ptbLapse {station : Nat} {b s : State} (h : SharingKept b s) : SharingKept b (ptbLapse station s) := by
  unfold ptbLapse
  split
  · exact h
  · split
    · exact h
    · exact sharingKept_ptbSignal (sharingKept_of_shr h (by simp))

theorem sharingKept_bliReceive {nbits : Nat} {bits : BitVec 64} {b s : State} (h : SharingKept b s) :
    SharingKept b (bliReceive nbits bits s) := by
  have hclassed : SharingKept b (bliClassed (classify nbits bits) s) := by
    cases classify nbits bits
    case good =>
      exact sharingKept_ite (fun _ => h) fun _ => sharingKept_ite (fun _ => sharingKept_bliConflict (sharingKept_bliGood h))
        fun _ => sharingKept_ptbTake (sharingKept_bliGood h)
    case cutShort | checkFailed | invalidCode => exact sharingKept_bliReliability h
  exact hclassed

/-! ## SHR's timers (R139, R146, R151, R152) -/

/-- SHARING is entered from a listening, with no claim and Ho within its bounds (R139). -/
theorem shareSafe_shares {s : State} (h : s.shareSafe) (hst : s.shr.state ≠ .off) :
    (s.modShr fun u => { u with state := .sharing, listenTimer := none }).shareSafe := by
  obtain ⟨⟨hb, hframe, -, -⟩, hformed, hsum, hnone, -⟩ := (shareSafe_iff s).mp h
  exact (shareSafe_iff _).mpr ⟨⟨hb, hframe, by simp, by simp⟩,
    shareFormed_congr hformed (by simp [hst]) (by simp) (by simp), hsum, hnone, fun _ => rfl⟩

theorem sharingKept_shrListenExpiry {b s : State} (h : SharingKept b s) : SharingKept b (shrListenExpiry s) := by
  refine sharingKept_iteSelf h fun hc => ?_
  have hst : s.shr.state ≠ .off := by
    intro hoff
    simp [hoff, ShareState.listens] at hc
  have hentered : SharingKept b (shrEvaluate (sharingEntered s)) :=
    sharingKept_of_current h (by simp [sharingEntered]) fun hs =>
      shareSafe_shrEvaluate (shareSafe_of_kept (shareSafe_shares hs hst) (by simp [sharingEntered])
        (by simp [sharingEntered])) (by simp [sharingEntered])
  exact sharingKept_iteSelf hentered fun hr => sharingKept_shrTakeRequest hentered (by rw [hr]; rfl)

theorem sharingKept_shrClaimExpiry {b s : State} (h : SharingKept b s) : SharingKept b (shrClaimExpiry s) :=
  sharingKept_iteSelf h fun hc => sharingKept_of_current h (by simp [shrSettle]) fun hs => shareSafe_shrSettle hs hc.2

theorem sharingKept_shrSlotExpiry {b s : State} (h : SharingKept b s) : SharingKept b (shrSlotExpiry s) :=
  sharingKept_iteSelf h fun _ => sharingKept_ite
    (fun _ => h.step (fun hs => slotSafe_shrHold hs.1) shareSafe_shrHold)
    fun _ => h.step (fun hs => slotSafe_shrBackOff (valveFollows_shrSetSlot hs.1) (by simp)) fun hs =>
      shareSafe_of_kept hs (by simp) (by simp)

/-- A request in its back-off holds no slot, and is taken again as a new one (R152). -/
theorem sharingKept_shrBackOffExpiry {b s : State} (h : SharingKept b s) : SharingKept b (shrBackOffExpiry s) := by
  refine sharingKept_iteSelf h fun hc => sharingKept_shrTakeRequest (h.step (fun hs => ?_) id) rfl
  have hnone : s.shr.slot = .none := slot_none_of_slotSafe hs (by rw [hc.2]; rfl)
  exact slotSafe_of_none hs.1 hnone rfl

end Sys2Proof.Machine
end

section
/-! CERTIFICATE. The laws of the slot and of the held current (R147, R149) under the rows of the table, a millisecond and
a step. -/

namespace Sys2Proof.Machine

/-! ## The link commands (R4 to R8, R16, R17, R172 to R178) -/

theorem sharingKept_linkOpen {params : Nat} {b s : State} (h : SharingKept b s) : SharingKept b (linkOpen params s) :=
  sharingKept_of_shr h (by simp)

theorem sharingKept_linkAnswer {c : ResultCode} {bytes : List Byte} {b s : State} (h : SharingKept b s) :
    SharingKept b (linkAnswer c bytes s) := h

/-- A command keeps the laws where its effect does; a refused one has none (R172). -/
theorem sharingKept_linkCommand {params n : Nat} {f : State → State} {b s : State} (h : SharingKept b s)
    (hf : ∀ t : State, SharingKept b t → SharingKept b (f t)) : SharingKept b (linkCommand params n f s) :=
  sharingKept_ite (fun _ => sharingKept_linkAnswer (sharingKept_linkOpen h)) fun _ => hf _ (sharingKept_linkOpen h)

/-- Before commit the items in force are the defaults, whatever is stored (R173). -/
theorem sharingKept_storeItem {i : Item} {v : Nat} {b s : State} (h : SharingKept b s) (hc : ¬ s.alk.committed = true) :
    SharingKept b (storeItem i v s) := by
  have hcfg : ∀ j, (storeItem i v s).cfg j = s.cfg j := fun j => by simp [State.cfg, storeItem, hc]
  exact h.step id fun hs => shareSafe_of_cfg (t := storeItem i v s) hs rfl hcfg ⟨rfl, rfl, rfl, rfl, rfl, rfl⟩

theorem sharingKept_configPut {item : Byte} {value : Half} {b s : State} (h : SharingKept b s) :
    SharingKept b (configPut item value s) := by
  unfold configPut
  split
  · exact h
  · exact sharingKept_ite (fun _ => h) fun hc => sharingKept_storeItem h hc

/-- A commit is accepted with If within the feeder's range (R174). -/
theorem fullCurrent_of_badItem_none {s : State} (h : s.badItem = none) :
    fullCurrent s.storedRatings s.storedWeights ≤ 1023 := by
  unfold State.badItem at h
  split_ifs at h with _ _ hfull
  simp only [inFeeder, Bool.not_eq_true', decide_eq_false_iff_not, not_not] at hfull
  exact hfull.2

/-- The listening that a commit begins: S formed, Ho at 0 and no claim (R139). -/
def listeningBegun (s : State) : State :=
  s.modShr fun u => { u with solo := s.soloAllowance, state := .listening true, ho := 0, listenTimer := some 3500 }

/-- The commit forms S and brings the checked items into force: the law holds from its first listening (R139, R174). -/
theorem shareSafe_listeningBegun {s m : State} (h : s.shareSafe) (hc : ¬ s.alk.committed = true) (hgood : s.badItem = none)
    (hshr : m.shr = s.shr) (hcommitted : m.alk.committed = true) (hitems : m.alk.items = s.alk.items) :
    (listeningBegun m).shareSafe := by
  obtain ⟨-, hformed, -⟩ := (shareSafe_iff s).mp h
  obtain ⟨hoff, -, hwo⟩ := hformed
  have hstate : s.shr.state ≠ .sharing := fun hst => hc (by rw [hoff, hst]; rfl)
  obtain ⟨hclaim, hco⟩ := unclaimed_of_state h hstate
  have hfull : fullCurrent m.ratings m.weights ≤ 1023 := by
    have hstored : ∀ i, m.cfg i = s.stored i := fun i => by simp [State.cfg, State.stored, hcommitted, hitems]
    simpa only [State.ratings, State.weights, State.storedRatings, State.storedWeights, hstored] using
      fullCurrent_of_badItem_none hgood
  have hbounded : (listeningBegun m).hoBounded := ⟨Nat.zero_le _, Nat.zero_le _, fun _ => rfl, fun _ => Nat.zero_le _⟩
  refine (shareSafe_iff _).mpr ⟨hbounded, ⟨hcommitted, fun _ => ⟨rfl, hfull⟩, ?_⟩, claimSafe_of_unclaimed hbounded ?_ ?_⟩
  · simpa [listeningBegun, hshr] using hwo
  · simpa [listeningBegun, hshr] using hclaim
  · simpa [listeningBegun, hshr] using hco

/-- The configuration frozen and BLI started on it, as SHR comes to the commit (R123, R175). -/
def configFrozen (s : State) : State := bliCommit (alkLines (s.modAlk fun a => { a with committed := true }))

theorem sharingKept_shrCommit {b s : State} (h : SharingKept b s) (hc : ¬ s.alk.committed = true)
    (hgood : s.badItem = none) : SharingKept b (shrCommit (configFrozen s)) := by
  have hbegun : SharingKept b (listeningBegun (configFrozen s)) :=
    h.step (fun hs => slotSafe_of_kept hs (by simp [listeningBegun, configFrozen])) fun hs =>
      shareSafe_listeningBegun hs hc hgood (by simp [configFrozen]) (by simp [configFrozen]) (by simp [configFrozen])
  have hrecorded : SharingKept b (shrRecord (listeningBegun (configFrozen s))) := sharingKept_alkRecord hbegun
  exact sharingKept_ite (fun _ => hrecorded) fun _ => sharingKept_shrEnterFallback hrecorded (by simp)

theorem sharingKept_commitAll {b s : State} (h : SharingKept b s) (hc : ¬ s.alk.committed = true)
    (hgood : s.badItem = none) : SharingKept b (commitAll s) := by
  have hcycle : SharingKept b (cycCommit (shrCommit (configFrozen s))) :=
    sharingKept_of_shr (sharingKept_shrCommit h hc hgood) (by simp)
  have hexam : SharingKept b (unlockExam (tmsCeiling (cycCommit (shrCommit (configFrozen s))))) :=
    sharingKept_of_shr (sharingKept_tmsCeiling hcycle) (by simp)
  exact sharingKept_alkRecord hexam

theorem sharingKept_configCommit {b s : State} (h : SharingKept b s) : SharingKept b (configCommit s) := by
  refine sharingKept_ite (fun _ => h) fun hc => ?_
  split
  · exact h
  · next hgood => exact sharingKept_linkAnswer (sharingKept_commitAll h hc hgood)

theorem sharingKept_profileSeek {index mode : Byte} {b s : State} (h : SharingKept b s) :
    SharingKept b (profileSeek index mode s) := by
  unfold profileSeek
  split
  · exact h
  · exact sharingKept_ite (fun _ => h) fun _ => h

theorem sharingKept_profilePut {word : Half} {b s : State} (h : SharingKept b s) : SharingKept b (profilePut word s) :=
  sharingKept_ite (fun _ => h) fun _ => sharingKept_ite (fun _ => h) fun _ => sharingKept_ite (fun _ => h) fun _ =>
    sharingKept_of_shr h (by simp)

theorem sharingKept_profileGet {b s : State} (h : SharingKept b s) : SharingKept b (profileGet s) :=
  sharingKept_ite (fun _ => h) fun _ => sharingKept_ite (fun _ => h) fun _ => sharingKept_of_shr h (by simp)

theorem sharingKept_startCycle {b s : State} (h : SharingKept b s) : SharingKept b (startCycle s) := by
  unfold startCycle
  split
  · exact h
  · have hstarted : SharingKept b (cycStart s) := sharingKept_lckLock (sharingKept_of_shr h (by simp))
    exact sharingKept_linkAnswer hstarted

theorem sharingKept_abortCycle {b s : State} (h : SharingKept b s) : SharingKept b (abortCycle s) := by
  cases hp : s.cyc.phase <;> simp only [abortCycle, hp]
  case heating => exact sharingKept_linkAnswer (sharingKept_cycLeaveHeating (s := cycOutcome .aborted s) h)
  case locking | idle | cooling | tripped | unlocking | held => exact h

theorem sharingKept_prtRemove {classes : List FaultClass} {b s : State} (h : SharingKept b s) :
    SharingKept b (prtRemove classes s) := by
  obtain ⟨a, heq, hitems, hcommitted, -⟩ := prtRemove_eq classes s
  rw [heq]
  exact sharingKept_of_shr h (by simp [hitems, hcommitted])

theorem sharingKept_clearFaults {b s : State} (h : SharingKept b s) : SharingKept b (clearFaults s) := by
  have hremoved := sharingKept_prtRemove (classes := [.trip, .abort, .degrade]) h
  have hmoved : SharingKept b (cycMoveOn (prtRemove [.trip, .abort, .degrade] s)) := sharingKept_of_shr hremoved (by simp)
  exact sharingKept_ite (fun _ => sharingKept_ite (fun _ => h) fun _ => sharingKept_ite (fun _ => h) fun _ =>
    sharingKept_linkAnswer hmoved) fun _ => sharingKept_linkAnswer (sharingKept_prtRemove h)

theorem sharingKept_eventRead {b s : State} (h : SharingKept b s) : SharingKept b (eventRead s) := by
  unfold eventRead
  split
  · exact h
  · exact h

theorem sharingKept_peerForget {station : Byte} {b s : State} (h : SharingKept b s) :
    SharingKept b (peerForget station s) := by
  refine sharingKept_ite (fun _ => h) fun _ => ?_
  split
  · exact h
  · split
    · exact h
    · exact sharingKept_linkAnswer (sharingKept_ptbRemove h)

theorem sharingKept_stationReset {b s : State} (h : SharingKept b s) : SharingKept b (stationReset s) :=
  sharingKept_ite (fun _ => sharingKept_of_shr h (by simp)) fun _ => h

/-- A reset leaves OFF with no current held and no claim (R137). -/
theorem shareSafe_resetAll (cause : ResetCause) (s : State) : (resetAll cause s).shareSafe := by
  have hbounded : (resetAll cause s).hoBounded := ⟨Nat.zero_le _, Nat.zero_le _, fun _ => rfl, fun _ => Nat.zero_le _⟩
  have hformed : (resetAll cause s).shareFormed := ⟨rfl, fun hc => Bool.noConfusion hc, Nat.zero_le _⟩
  exact (shareSafe_iff _).mpr ⟨hbounded, hformed, claimSafe_of_unclaimed hbounded rfl rfl⟩

theorem sharingKept_resetAll (cause : ResetCause) (b s : State) : SharingKept b (resetAll cause s) :=
  ⟨fun _ => ⟨rfl, rfl⟩, fun _ => shareSafe_resetAll cause s⟩

theorem sharingKept_stationResetDone {b s : State} (h : SharingKept b s) : SharingKept b (stationResetDone s) := by
  unfold stationResetDone
  split
  · exact sharingKept_resetAll _ b s
  · exact h

/-! ## The seconds, the ramp engine and the regulator (R14, R30 to R42, R75 to R88) -/

theorem sharingKept_cycSecond {b s : State} (h : SharingKept b s) : SharingKept b (cycSecond s) :=
  sharingKept_ite (fun _ => sharingKept_alkRecord h) fun _ => h

theorem sharingKept_rampTime {b s : State} (h : SharingKept b s) : SharingKept b (rampTime s) :=
  sharingKept_iteSelf h fun _ => h

theorem sharingKept_rampJudge {b s : State} (h : SharingKept b s) : SharingKept b (rampJudge s) :=
  sharingKept_ite (fun _ => sharingKept_rampBegin (sharingKept_prtGone h)) fun _ =>
    sharingKept_iteSelf h fun _ => sharingKept_prtRaise h

theorem sharingKept_holdJudge {b s : State} (h : SharingKept b s) : SharingKept b (holdJudge s) :=
  sharingKept_ite (fun _ => sharingKept_alkRecord h) fun _ => sharingKept_iteSelf h fun _ => sharingKept_rampBegin h

theorem sharingKept_rampStep {b s : State} (h : SharingKept b s) : SharingKept b (rampStep s) := by
  have hrearm : SharingKept b (rampRearm s) := h
  have htime := sharingKept_rampTime hrearm
  cases hr : s.ramp.state <;> simp only [rampStep, hr]
  case idle | finished => exact h
  case ramping => exact sharingKept_rampJudge (sharingKept_ite (fun _ => htime) fun _ => htime)
  case holding => exact sharingKept_holdJudge htime
  case waitingSlot => exact sharingKept_ite (fun _ => sharingKept_prtRaise hrearm) fun _ => hrearm

/-- The want of a demand is at most If, which fits a frame (R80, R174). -/
theorem sharingKept_regEvaluate {b s : State} (h : SharingKept b s) : SharingKept b (regEvaluate s) :=
  sharingKept_shrWant (s := regSet s) h fun hs => (wantOf_le_fullCurrent s s.nextDemand_le).trans (fullCurrent_le hs)

theorem sharingKept_regCoolExpiry {b s : State} (h : SharingKept b s) : SharingKept b (regCoolExpiry s) := by
  have hmeasured : SharingKept b (regMeasure s) := by
    unfold regMeasure
    split
    · exact h
    · exact h
    · exact sharingKept_ite (fun _ => h) fun _ => h
  exact hmeasured

/-! ## Every row of the table -/

theorem sharingKept_onlyWhen {p : State → State → Bool} {f : State → State} {b s : State} (h : SharingKept b s)
    (hf : SharingKept b (f s)) : SharingKept b (onlyWhen p f s) := sharingKept_iteSelf h fun _ => hf

/-- Each row of the table keeps both laws. -/
theorem exec_sharingKept (i : Instr) {b s : State} (h : SharingKept b s) : ∃ t, exec i s = .next t ∧ SharingKept b t := by
  have kept {t : State} (hk : t.shr = s.shr ∧ t.alk.committed = s.alk.committed ∧ t.alk.items = s.alk.items) :
      SharingKept b t := sharingKept_of_shr h hk
  have event {f : State → State} (hf : SharingKept b (f s)) : SharingKept b (takeEvent f s) := sharingKept_takeEvent hf
  have command {params n : Nat} {f : State → State} (hf : ∀ t : State, SharingKept b t → SharingKept b (f t)) :
      SharingKept b (linkCommand params n f s) := sharingKept_linkCommand h hf
  cases i
  case powerOnReset | resetn => exact ⟨_, rfl, sharingKept_resetAll _ b s⟩
  case readStatus | readTemps | readShare | readPeer | readCycle | readFaults | configGet | badCommand =>
    exact ⟨_, rfl, sharingKept_linkAnswer (sharingKept_linkOpen h)⟩
  case configPut => exact ⟨_, rfl, command fun _ => sharingKept_configPut⟩
  case configCommit => exact ⟨_, rfl, event (command fun _ => sharingKept_configCommit)⟩
  case profileSeek => exact ⟨_, rfl, command fun _ => sharingKept_profileSeek⟩
  case profilePut => exact ⟨_, rfl, command fun _ => sharingKept_profilePut⟩
  case profileGet => exact ⟨_, rfl, sharingKept_profileGet (sharingKept_linkOpen h)⟩
  case start => exact ⟨_, rfl, event (command fun _ => sharingKept_startCycle)⟩
  case abort => exact ⟨_, rfl, event (command fun _ => sharingKept_abortCycle)⟩
  case clear => exact ⟨_, rfl, event (command fun _ => sharingKept_clearFaults)⟩
  case eventRead => exact ⟨_, rfl, sharingKept_eventRead (sharingKept_linkOpen h)⟩
  case peerForget => exact ⟨_, rfl, event (command fun _ => sharingKept_peerForget)⟩
  case stationReset => exact ⟨_, rfl, command fun _ => sharingKept_stationReset⟩
  case stationResetDone => exact ⟨_, rfl, sharingKept_stationResetDone h⟩
  case csnRise => exact ⟨_, rfl, kept (by simp)⟩
  case secondsTick | glitch => exact ⟨_, rfl, h⟩
  case cycleSecond => exact ⟨_, rfl, sharingKept_cycSecond h⟩
  case coolSlow => exact ⟨_, rfl, sharingKept_onlyWhen h (sharingKept_cycSecond h)⟩
  case rampStep => exact ⟨_, rfl, event (sharingKept_rampStep h)⟩
  case holdComplete | segmentRestart | heatTimeout | slotTimeout =>
    exact ⟨_, rfl, sharingKept_iteSelf h fun _ => event (sharingKept_rampStep h)⟩
  case heatingEvaluation => exact ⟨_, rfl, sharingKept_iteSelf h fun _ => event (sharingKept_regEvaluate h)⟩
  case coolingRuleExpiry => exact ⟨_, rfl, sharingKept_iteSelf h fun _ => sharingKept_regCoolExpiry h⟩
  case switchEdge => exact ⟨_, rfl, sharingKept_iteSelf h fun _ => h⟩
  case switchDebounced => exact ⟨_, rfl, event (sharingKept_lckDebounced h)⟩
  case lockDriveExpiry => exact ⟨_, rfl, event (sharingKept_lckDriveExpiry h)⟩
  case seatEnd => exact ⟨_, rfl, event (sharingKept_lckSeatEnd h)⟩
  case lockBackDriveEnd | unlockBackDriveEnd => exact ⟨_, rfl, sharingKept_iteSelf h fun _ => h⟩
  case lockPauseEnd => exact ⟨_, rfl, sharingKept_iteSelf h fun _ => kept (by simp [lckRetry])⟩
  case unlockDriveExpiry => exact ⟨_, rfl, event (sharingKept_lckUnlockExpiry h)⟩
  case clearanceEnd => exact ⟨_, rfl, event (sharingKept_lckClearanceEnd h)⟩
  case unlockPauseEnd => exact ⟨_, rfl, event (sharingKept_lckUnlockPause h)⟩
  case conversionCompletion => exact ⟨_, rfl, event (sharingKept_tmsComplete h)⟩
  case channelFailure | channelRecovery | sensorDisagree | disagreeConditionGone | latchHot =>
    exact ⟨_, rfl, sharingKept_onlyWhen h (event (sharingKept_tmsComplete h))⟩
  case blindCoolTick => exact ⟨_, rfl, event (sharingKept_prtSecond h)⟩
  case zeroCross => exact ⟨_, rfl, event (sharingKept_drvZeroCross h)⟩
  case windowComplete => exact ⟨_, rfl, sharingKept_iteSelf h fun _ => event (sharingKept_drvZeroCross h)⟩
  case elementOvercurrent | driveStuck | elementLow =>
    exact ⟨_, rfl, sharingKept_onlyWhen h (event (sharingKept_drvZeroCross h))⟩
  case mainsSuspend => exact ⟨_, rfl, sharingKept_iteSelf h fun _ => kept (by simp)⟩
  case mainsAbsent => exact ⟨_, rfl, sharingKept_iteSelf h fun _ => event (sharingKept_drvMainsAbsent h)⟩
  case attemptBegin => exact ⟨_, rfl, sharingKept_bliAttempt h⟩
  case attemptLost | periodExpiry => exact ⟨_, rfl, sharingKept_iteSelf h fun _ => kept (by simp)⟩
  case attemptComplete => exact ⟨_, rfl, event (sharingKept_bliComplete h)⟩
  case departureTimeout => exact ⟨_, rfl, sharingKept_bliDepartExpiry h⟩
  case frameReceived => exact ⟨_, rfl, event (sharingKept_bliReceive h)⟩
  case unreliable => exact ⟨_, rfl, sharingKept_onlyWhen h (event (sharingKept_bliReceive h))⟩
  case lineHeld => exact ⟨_, rfl, event (sharingKept_bliHeldExpiry h)⟩
  case lineIdle => exact ⟨_, rfl, event (sharingKept_bliIdle h)⟩
  case silent => exact ⟨_, rfl, event (sharingKept_bliSilent h)⟩
  case peerLapsed => exact ⟨_, rfl, event (sharingKept_ptbLapse h)⟩
  case listenExpiry => exact ⟨_, rfl, event (sharingKept_shrListenExpiry h)⟩
  case claimSettle => exact ⟨_, rfl, event (sharingKept_shrClaimExpiry h)⟩
  case slotSettle => exact ⟨_, rfl, event (sharingKept_shrSlotExpiry h)⟩
  case slotBackoffExpiry => exact ⟨_, rfl, event (sharingKept_shrBackOffExpiry h)⟩

/-! ## A millisecond and a step -/

theorem sharingKept_takeDue {i : Instr} {b s : State} (h : SharingKept b s) : SharingKept b (takeDue s i) := by
  obtain ⟨t, hexec, ht⟩ := exec_sharingKept i h
  simpa only [takeDue, hexec] using sharingKept_iteSelf h fun _ => ht

/-- The rows of a millisecond, in whatever order the draws give them (log 3). -/
theorem sharingKept_foldl_takeDue (rows : List Instr) {b s : State} (h : SharingKept b s) :
    SharingKept b (rows.foldl takeDue s) := by
  induction rows generalizing s with
  | nil => exact h
  | cons i rows ih =>
    rw [List.foldl_cons]
    exact ih (sharingKept_takeDue h)

theorem sharingKept_draws {n : Nat} {b s : State} (h : SharingKept b s) : SharingKept b { s with draws := n } := h

/-- Only timers, the line and the draws move with the millisecond itself. -/
theorem sharingKept_tick (s : State) : SharingKept s (tick s) := by
  have hmoved : SharingKept s (advanceMs s) := SharingKept.refl s
  unfold tick
  simp only
  generalize advanceMs s = m at hmoved ⊢
  exact sharingKept_foldl_takeDue _ (sharingKept_draws hmoved)

theorem step_sharingKept {s t : State} (hstep : step s = .next t) : SharingKept s t := by
  unfold step at hstep
  split at hstep
  · exact Host.Outcome.next.inj hstep ▸ sharingKept_tick s
  · next i rest _ =>
    have hset : SharingKept s (s.setPending rest) := SharingKept.refl s
    obtain ⟨u, hexec, hu⟩ := exec_sharingKept i hset
    exact Host.Outcome.next.inj (hexec.symm.trans hstep) ▸ hu

/-- Settles O10: a claim takes no more than is missing of Go, a settling no more than the room, and every other change of Ho
lowers it or stops at S. -/
theorem shareLawKept : Obligations.ShareLawKept := by
  intro s t h hstep
  obtain ⟨-, hshare⟩ := step_sharingKept hstep
  exact hshare h

/-- Settles O9: the valve moves with each change of the slot, and the slot is set to what the request's standing goes
with. -/
theorem slotLawKept : Obligations.SlotLawKept := by
  intro s t h hstep
  obtain ⟨hslot, -⟩ := step_sharingKept hstep
  exact hslot h

end Sys2Proof.Machine
end

section
/-! CERTIFICATE. CONFIG_COMMIT: frozen, the first failing check, or the commit (R139, R174, R175). -/

namespace Sys2Proof.Machine

/-! ## The checks in their order (R174) -/

theorem inFeeder_false_iff (n : Nat) : (!inFeeder n) = true ↔ n < 10 ∨ 1023 < n := by
  simp only [inFeeder, Bool.not_eq_true', decide_eq_false_iff_not]
  omega

/-- The reported item in the words of R174's list, with the sum of the ratings and If as `sum` and `full`. -/
theorem State.badItem_eq {s : State} {sum full : Nat} (hsum : s.storedRatings.sum = sum)
    (hfull : fullCurrent s.storedRatings s.storedWeights = full) :
    s.badItem =
      if s.stored .station = 0 then some .station
      else if sum < 10 ∨ 1023 < sum then some .i0
      else if full < 10 ∨ 1023 < full then some .w0
      else if s.stored .b < 10 * s.stored .n then some .b
      else if (s.stored .tmax : Int) - 1000 < s.stored .tu then some .tu
      else if s.stored .tmax ≤ s.stored .tb then some .tb
      else none := by
  have hmargin : s.stored .tmax < s.stored .tu + 1000 ↔ (s.stored .tmax : Int) - 1000 < s.stored .tu := by omega
  unfold State.badItem
  simp only [inFeeder_false_iff, hmargin, hsum, hfull]

/-! ## The refusals (R174) -/

theorem badItem_linkOpen (params : Nat) (s : State) : (linkOpen params s).badItem = s.badItem := by
  rw [linkOpen_eq]
  rfl

/-- CONFIG_COMMIT's whole event. -/
def commitEvent (s : State) : State := takeEvent (linkCommand 0 1 configCommit) s

theorem exec_configCommit (s : State) : exec .configCommit s = .next (commitEvent s) := rfl

/-- No stored item moves, whatever the answer (R174). -/
theorem commitEvent_items (s : State) : (commitEvent s).alk.items = s.alk.items := by
  unfold commitEvent linkCommand configCommit
  simp only [takeEvent_frame]
  split_ifs
  · simp
  · simp
  · split <;> simp

/-- A commit that is answered without acting changes no block. -/
theorem commitEvent_answered {s : State} {c : ResultCode} {n : Byte} (hready : s.alk.resetPending = none)
    (h : configCommit (linkOpen 0 s) = linkAnswer c [n] (linkOpen 0 s)) :
    (commitEvent s).alk.link.answer = [byteOf c.code, n] ∧ s.sameButLink (commitEvent s) := by
  obtain ⟨heq, hsame⟩ := takeEvent_answer ((linkCommand_ready 0 1 configCommit s hready).trans h)
  rw [commitEvent, heq]
  exact ⟨rfl, hsame⟩

theorem commitEvent_frozen {s : State} (hready : s.alk.resetPending = none) (hc : s.alk.committed = true) :
    (commitEvent s).alk.link.answer = [0x05, 0x00] ∧ s.sameButLink (commitEvent s) :=
  commitEvent_answered (c := .configFrozen) hready (if_pos (by simpa using hc))

theorem commitEvent_names {s : State} {i : Item} (hready : s.alk.resetPending = none) (hc : ¬ s.alk.committed = true)
    (hbad : s.badItem = some i) :
    (commitEvent s).alk.link.answer = [0x06, byteOf i.number] ∧ s.sameButLink (commitEvent s) := by
  refine commitEvent_answered (c := .invalidConfig) hready ?_
  simp [configCommit, hc, badItem_linkOpen, hbad]

/-! ## The comparison with the ceiling in the commit's event (R68) -/

/-- From `s` to `t` CYC has had no more than a trip notice, and SHR hears of that alone. -/
def TripsAtMost (s t : State) : Prop :=
  (t.cyc.phase = s.cyc.phase ∧ t.shr = s.shr) ∨
    ∃ c m, t = cycTrip c m ∧ m.cyc.phase = s.cyc.phase ∧ m.shr = s.shr

theorem tripsAtMost_prtRaise {c : FaultCode} (hc : c.cls = .trip) (s : State) : TripsAtMost s (prtRaise c s) := by
  by_cases h : flagIn c true s.prt.faults = true
  · exact .inl (by simp [prtRaise_present c s (by rwa [any_present_eq_flagIn])])
  · refine .inr ⟨c, drvMain (prtEnter c s), ?_, by simp, by simp⟩
    simp [prtRaise_new (Bool.eq_false_iff.mpr h), prtAction, hc]

theorem tripsAtMost_tmsCeiling (s : State) : TripsAtMost s (tmsCeiling s) := by
  have hsame : TripsAtMost s s := .inl ⟨rfl, rfl⟩
  unfold tmsCeiling
  split
  · split
    · exact hsame
    · split
      · split
        · exact hsame
        · exact tripsAtMost_prtRaise (s := s.modTms _) rfl
      · split
        · exact .inl (by simp)
        · exact hsame
  · exact hsame

/-! ## The phase after the commit (R19) -/

/-- No trip notice leads to HELD (R12). -/
theorem cycTrip_not_held {c : FaultCode} {s : State} (h : s.cyc.phase ≠ .held) : (cycTrip c s).cyc.phase ≠ .held := by
  cases hp : s.cyc.phase <;> simp [cycTrip, hp] at h ⊢

theorem tmsCeiling_not_held {s : State} (h : s.cyc.phase ≠ .held) : (tmsCeiling s).cyc.phase ≠ .held := by
  rcases tripsAtMost_tmsCeiling s with ⟨hphase, -⟩ | ⟨c, m, heq, hphase, -⟩
  · rwa [hphase]
  · rw [heq]
    exact cycTrip_not_held (by rwa [hphase])

/-- CYC's request in COOLING leads to UNLOCKING alone (R13). -/
theorem unlockExam_not_held {s : State} (h : s.cyc.phase ≠ .held) : (unlockExam s).cyc.phase ≠ .held := by
  unfold unlockExam cycCoolExam
  split_ifs
  · simp
  · simpa using h

/-- HELD gives way to COOLING (R19). -/
theorem cycCommit_not_held (s : State) : (cycCommit s).cyc.phase ≠ .held := by
  unfold cycCommit
  split_ifs with hp
  · simp
  · exact hp

/-! ## The listening begun, and what the rest of the commit leaves of it (R139) -/

/-- With no cause SHR is left listening with Ho at 0. -/
theorem shrCommit_listens {s : State} (h : s.shr.causes = 0) :
    (shrCommit s).shr.state = .listening true ∧ (shrCommit s).shr.listenTimer = some 3500 ∧ (shrCommit s).shr.ho = 0 := by
  simp [shrCommit, shrRecord, h]

theorem shrCommit_solo (s : State) : (shrCommit s).shr.solo = s.soloAllowance := by
  unfold shrCommit
  dsimp only
  split_ifs <;> simp [shrRecord]

/-- In the first listening SHR takes a want without moving Ho (R139). -/
theorem cycLeaveHeating_ho_listening {p : Phase} {s : State} (h : s.shr.state = .listening true) :
    (cycLeaveHeating p s).shr.ho = s.shr.ho := by
  simp [cycLeaveHeating, regLeave, shrWant, h]

theorem cycTrip_ho_listening {c : FaultCode} {s : State} (h : s.shr.state = .listening true) :
    (cycTrip c s).shr.ho = s.shr.ho := by
  cases hp : s.cyc.phase <;> simp [cycTrip, hp, cycLeaveHeating_ho_listening, h]

theorem tmsCeiling_ho_listening {s : State} (h : s.shr.state = .listening true) : (tmsCeiling s).shr.ho = s.shr.ho := by
  rcases tripsAtMost_tmsCeiling s with ⟨-, hshr⟩ | ⟨c, m, heq, -, hshr⟩
  · rw [hshr]
  · rw [heq, cycTrip_ho_listening (by rwa [hshr]), hshr]

/-- A commit accepted (R139, R175): S from the items now in force, and the listening where no cause stands. -/
theorem commitAll_effects (s : State) :
    (commitAll s).alk.committed = true ∧ (commitAll s).shr.solo = s.stored .b / s.stored .n ∧
      (commitAll s).cyc.phase ≠ .held ∧
      (s.shr.causes = 0 → (commitAll s).shr.state = .listening true ∧ (commitAll s).shr.listenTimer = some 3500 ∧
        (commitAll s).shr.ho = 0) := by
  have hsolo := shrCommit_solo (configFrozen s)
  have hallowance : (configFrozen s).soloAllowance = s.stored .b / s.stored .n := by
    simp [State.soloAllowance, State.cfg, State.stored, configFrozen]
  have heq : commitAll s = alkRecord .configCommitted
      (detail 0 ((unlockExam (tmsCeiling (cycCommit (shrCommit (configFrozen s))))).cfg .station))
      (unlockExam (tmsCeiling (cycCommit (shrCommit (configFrozen s))))) := rfl
  rw [heq]
  refine ⟨by simp [configFrozen], by simp [hsolo, hallowance], ?_, fun hcauses => ?_⟩
  · simpa using unlockExam_not_held (tmsCeiling_not_held (cycCommit_not_held (shrCommit (configFrozen s))))
  · obtain ⟨hstate, htimer, hho⟩ := shrCommit_listens (s := configFrozen s) (by simpa [configFrozen] using hcauses)
    have hceiling := tmsCeiling_ho_listening (s := cycCommit (shrCommit (configFrozen s))) (by simpa using hstate)
    simp [hstate, htimer, hceiling, hho]

theorem commitEvent_accepted {s : State} (hready : s.alk.resetPending = none) (hc : ¬ s.alk.committed = true)
    (hgood : s.badItem = none) :
    (commitEvent s).alk.link.answer = [0x00, 0x00] ∧ (commitEvent s).alk.committed = true ∧
      (commitEvent s).shr.solo = s.stored .b / s.stored .n ∧ (commitEvent s).ptb = s.ptb ∧
      (commitEvent s).prf = s.prf ∧ (∀ ch, (commitEvent s).tms.chan ch = s.tms.chan ch) ∧
      (commitEvent s).cyc.phase ≠ .held ∧
      (s.shr.causes = 0 → (commitEvent s).shr.state = .listening true ∧
        (commitEvent s).shr.listenTimer = some 3500 ∧ (commitEvent s).shr.ho = 0) := by
  have hrun : linkCommand 0 1 configCommit s = linkAnswer .ok (zeroBytes 1) (commitAll (linkOpen 0 s)) := by
    rw [linkCommand_ready _ _ _ _ hready]
    simp [configCommit, hc, badItem_linkOpen, hgood]
  obtain ⟨hcommitted, hsolo, hphase, hlistens⟩ := commitAll_effects (linkOpen 0 s)
  have hchan : ∀ ch, (commitAll (linkOpen 0 s)).tms.chan ch = s.tms.chan ch := fun ch => by cases ch <;> simp [Tms.chan]
  have hframe : (commitAll (linkOpen 0 s)).ptb = s.ptb ∧ (commitAll (linkOpen 0 s)).prf = s.prf := by simp
  have hstored : ∀ i, (linkOpen 0 s).stored i = s.stored i := fun i => by simp [State.stored]
  have hcauses : (linkOpen 0 s).shr.causes = s.shr.causes := by simp
  rw [hstored, hstored] at hsolo
  rw [hcauses] at hlistens
  unfold commitEvent
  simp only [takeEvent_frame, hrun]
  generalize commitAll (linkOpen 0 s) = m at hcommitted hsolo hphase hlistens hchan hframe ⊢
  obtain ⟨hptb, hprf⟩ := hframe
  exact ⟨rfl, hcommitted, hsolo, hptb, hprf, hchan, hphase, hlistens⟩

/-- Settles O21: R174's chain in order; the commit's other blocks leave S and the listening as SHR has begun them. -/
theorem configCommitFreezes : Obligations.ConfigCommitFreezes := by
  intro s hready
  refine ⟨commitEvent s, exec_configCommit s, commitEvent_items s, ?_⟩
  intro names driven sum full
  have hbad := s.badItem_eq (sum := sum) (full := full) rfl rfl
  by_cases hc : s.alk.committed = true
  · rw [if_pos hc]
    exact commitEvent_frozen hready hc
  · rw [if_neg hc]
    split_ifs at hbad ⊢
    iterate 6 exact commitEvent_names hready hc hbad
    exact commitEvent_accepted hready hc hbad

end Sys2Proof.Machine
end

section
/-! SUPPORT. The law of the fault set (R157, R160): what it reads, and the codes that the operations of LCK, PRF and DRV
leave as they were. -/

namespace Sys2Proof.Machine

/-! ## The codes under the operations that end conditions (R36, R40, R56, R57, R100, R103) -/

@[simp] theorem lckSetState_codes (st : LockState) (s : State) :
    (lckSetState st s).prt.faults.map FaultEntry.code = s.prt.faults.map FaultEntry.code := by
  rcases lckSetState_faults st s with h | h <;> simp [h, clearFlag_codes]

@[simp] theorem lckSetJammed_codes (v : Bool) (s : State) :
    (lckSetJammed v s).prt.faults.map FaultEntry.code = s.prt.faults.map FaultEntry.code := by
  rcases lckSetJammed_faults v s with h | h <;> simp [h, clearFlag_codes]

@[simp] theorem lckTripped_codes (s : State) :
    (lckTripped s).prt.faults.map FaultEntry.code = s.prt.faults.map FaultEntry.code := by
  rcases lckTripped_faults s with h | h <;> simp [h, clearFlag_codes]

@[simp] theorem lckEnterUnlocked_codes (s : State) :
    (lckEnterUnlocked s).prt.faults.map FaultEntry.code = s.prt.faults.map FaultEntry.code := by
  simp [lckEnterUnlocked]

@[simp] theorem lckJamEnds_codes (s : State) :
    (lckJamEnds s).prt.faults.map FaultEntry.code = s.prt.faults.map FaultEntry.code := by
  unfold lckJamEnds
  split_ifs <;> simp

@[simp] theorem lckLostGone_codes (s : State) :
    (lckLostGone s).prt.faults.map FaultEntry.code = s.prt.faults.map FaultEntry.code := by
  unfold lckLostGone
  split_ifs <;> simp

@[simp] theorem lckForcedGone_codes (s : State) :
    (lckForcedGone s).prt.faults.map FaultEntry.code = s.prt.faults.map FaultEntry.code := by
  unfold lckForcedGone
  split_ifs <;> simp

@[simp] theorem lckReevaluate_codes (s : State) :
    (lckReevaluate s).prt.faults.map FaultEntry.code = s.prt.faults.map FaultEntry.code := by
  unfold lckReevaluate
  dsimp only
  split_ifs <;> simp

@[simp] theorem lckMeet_codes (s : State) :
    (lckMeet s).prt.faults.map FaultEntry.code = s.prt.faults.map FaultEntry.code := by
  unfold lckMeet
  dsimp only
  split_ifs <;> simp

@[simp] theorem drvLowGone_codes (s : State) :
    (drvLowGone s).prt.faults.map FaultEntry.code = s.prt.faults.map FaultEntry.code := by
  unfold drvLowGone
  split_ifs <;> simp

@[simp] theorem drvMainsBack_codes (s : State) :
    (drvMainsBack s).prt.faults.map FaultEntry.code = s.prt.faults.map FaultEntry.code := by
  unfold drvMainsBack
  split_ifs <;> simp

@[simp] theorem prfIdle_codes (s : State) :
    (prfIdle s).prt.faults.map FaultEntry.code = s.prt.faults.map FaultEntry.code := by
  simp [prfIdle]

@[simp] theorem takeEvent_codes (f : State → State) (s : State) :
    (takeEvent f s).prt.faults.map FaultEntry.code = (f s).prt.faults.map FaultEntry.code := by
  rcases takeEvent_cases f s with h | ⟨h, -⟩ <;> simp [h, lckUnlock_codes]

/-! ## What the law reads -/

/-- An operation that keeps the phase and the codes of the set keeps the law. -/
theorem faultSafe_of_calm {s t : State} (h : s.faultSafe) (hcalm : t.cyc.phase = s.cyc.phase ∧
    t.prt.faults.map FaultEntry.code = s.prt.faults.map FaultEntry.code) : t.faultSafe := by
  obtain ⟨hphase, hcodes⟩ := hcalm
  unfold State.faultSafe at h ⊢
  rwa [hcodes, hasTrip_congr hcodes, hphase]

/-- With no trip-class entry the phase is free. -/
theorem faultSafe_of_noTrip {s : State} (hone : (s.prt.faults.map FaultEntry.code).Nodup) (hno : s.hasTrip = false) :
    s.faultSafe :=
  ⟨hone, fun htrip => absurd htrip (by simp [hno])⟩

/-- Outside IDLE and TRIPPED no trip-class entry stands (R160). -/
theorem noTrip_of_phase {s : State} (h : s.faultSafe) (hp : ¬(s.cyc.phase = .idle ∨ s.cyc.phase = .tripped)) :
    s.hasTrip = false :=
  Bool.eq_false_iff.mpr (mt h.2 hp)

/-- A choice between two operations that keep the law. -/
theorem faultSafe_ite {c : Prop} [Decidable c] {t u : State} (ht : c → t.faultSafe) (hu : ¬c → u.faultSafe) :
    (if c then t else u).faultSafe := by
  split_ifs with hc
  · exact ht hc
  · exact hu hc

/-- An operation taken under a condition, or nothing. -/
theorem faultSafe_iteSelf {c : Prop} [Decidable c] {t s : State} (h : s.faultSafe) (ht : c → t.faultSafe) :
    (if c then t else s).faultSafe := faultSafe_ite ht fun _ => h

theorem faultSafe_alkRecord {k : EventKind} {d : Half} {s : State} (h : s.faultSafe) : (alkRecord k d s).faultSafe :=
  faultSafe_of_calm h (by simp)

theorem faultSafe_prtGone {c : FaultCode} {s : State} (h : s.faultSafe) : (prtGone c s).faultSafe :=
  faultSafe_of_calm h (by simp)

/-! ## The entries (R157, R158) -/

/-- A report of a code that has its entry moves the flag of that entry; one of a new code brings the only entry of it. -/
theorem nodup_raiseFlag {c : FaultCode} {now : Nat} {l : List FaultEntry} (h : (l.map FaultEntry.code).Nodup) :
    ((raiseFlag c now l).map FaultEntry.code).Nodup := by
  unfold raiseFlag
  split_ifs with hin
  · have hcodes : (l.map fun e => if e.code = c then { e with present := true } else e).map FaultEntry.code =
        l.map FaultEntry.code := by
      rw [List.map_map]
      refine List.map_congr_left fun e _ => ?_
      by_cases hc : e.code = c <;> simp [hc]
    rwa [hcodes]
  · have hnew : c ∉ l.map FaultEntry.code := by simpa using hin
    simpa using h.concat hnew

/-- The eighteen codes of section 10.1. -/
def FaultCode.all : List FaultCode :=
  [.overtemp, .sensorAFail, .sensorBFail, .sensorDisagree, .latchHot, .lockLost, .doorForced, .elementOvercurrent,
    .driveStuck, .unlockFail, .lockFail, .mainsAbsent, .slotTimeout, .heatTimeout, .sensorLFail, .elementLow, .txStuck,
    .numberConflict]

theorem FaultCode.mem_all (c : FaultCode) : c ∈ FaultCode.all := by
  cases c <;> decide

/-- One entry a code makes at most eighteen (R157, R169). -/
theorem faults_length_le {s : State} (h : s.faultSafe) : s.prt.faults.length ≤ 18 := by
  obtain ⟨hone, -⟩ := h
  have hle := (hone.subperm fun c _ => c.mem_all).length_le
  rwa [List.length_map] at hle

end Sys2Proof.Machine
end

section
/-! SUPPORT. The law of the fault set (R157, R160) under the shared operations: the phase, the notices of PRT, the ramp engine,
the burn slot and SHR's causes. -/

namespace Sys2Proof.Machine

/-! ## The phase (R10, R14, R22, R160) -/

/-- A phase is entered from any state with one entry a code, if a trip-class entry may stand in it. -/
theorem faultSafe_cycSetPhase {p : Phase} {s : State} (hone : (s.prt.faults.map FaultEntry.code).Nodup)
    (hp : s.hasTrip = true → p = .idle ∨ p = .tripped) : (cycSetPhase p s).faultSafe :=
  ⟨by rwa [cycSetPhase_codes], by simpa using hp⟩

/-- From a phase other than IDLE and TRIPPED every phase may be entered. -/
theorem faultSafe_cycSetPhase_from {p : Phase} {s : State} (h : s.faultSafe)
    (hs : ¬(s.cyc.phase = .idle ∨ s.cyc.phase = .tripped)) : (cycSetPhase p s).faultSafe :=
  faultSafe_cycSetPhase h.1 (by simp [noTrip_of_phase h hs])

theorem faultSafe_cycLeaveHeating {p : Phase} {s : State} (hone : (s.prt.faults.map FaultEntry.code).Nodup)
    (hp : s.hasTrip = true → p = .idle ∨ p = .tripped) : (cycLeaveHeating p s).faultSafe :=
  faultSafe_of_calm (faultSafe_cycSetPhase hone hp) (by simp [cycLeaveHeating])

theorem faultSafe_cycLeaveHeating_from {p : Phase} {s : State} (h : s.faultSafe) (hs : s.cyc.phase = .heating) :
    (cycLeaveHeating p s).faultSafe :=
  faultSafe_cycLeaveHeating h.1 (by simp [noTrip_of_phase h (by simp [hs])])

/-! ## PRT's notices (R11, R12, R158 to R161) -/

/-- A trip notice ends in TRIPPED or in IDLE, so the law holds after it whether or not it held with the new entry (R12). -/
theorem faultSafe_cycTrip {c : FaultCode} {s : State} (hone : (s.prt.faults.map FaultEntry.code).Nodup) :
    (cycTrip c s).faultSafe := by
  cases hp : s.cyc.phase <;> simp only [cycTrip, hp]
  case idle | tripped => exact ⟨hone, by simp [hp]⟩
  case heating => exact faultSafe_cycLeaveHeating (s := cycFirstFault c (cycOutcome .tripped s)) hone (by simp)
  case locking | cooling | unlocking | held =>
    exact faultSafe_cycSetPhase (s := cycFirstFault c (cycOutcome .tripped s)) hone (by simp)

theorem faultSafe_cycAbort {c : FaultCode} {s : State} (h : s.faultSafe) : (cycAbort c s).faultSafe := by
  cases hp : s.cyc.phase <;> simp only [cycAbort, hp]
  case heating =>
    exact faultSafe_cycLeaveHeating_from (s := cycOutcome .faultAborted (cycFirstFault c s)) h hp
  case idle | held | locking | cooling | unlocking | tripped => exact h

theorem faultSafe_cycComplete {s : State} (h : s.faultSafe) : (cycComplete s).faultSafe :=
  faultSafe_iteSelf h fun hp => faultSafe_cycLeaveHeating_from (s := cycOutcome .completed s) h hp

theorem nodup_prtEnter {c : FaultCode} {s : State} (h : s.faultSafe) :
    ((prtEnter c s).prt.faults.map FaultEntry.code).Nodup := by
  obtain ⟨hone, -⟩ := h
  simpa using nodup_raiseFlag hone

/-- A report of another class than a trip brings no trip-class entry. -/
theorem faultSafe_prtEnter {c : FaultCode} (hc : c.cls ≠ .trip) {s : State} (h : s.faultSafe) :
    (prtEnter c s).faultSafe := by
  have htrip : (prtEnter c s).hasTrip = s.hasTrip := by simp [State.hasTrip, any_isTrip_raiseFlag hc]
  obtain ⟨-, hphase⟩ := id h
  exact ⟨nodup_prtEnter h, by simpa [htrip] using hphase⟩

theorem faultSafe_prtRaise {c : FaultCode} {s : State} (h : s.faultSafe) : (prtRaise c s).faultSafe := by
  cases hf : flagIn c true s.prt.faults with
  | true => rwa [prtRaise_present]; rwa [any_present_eq_flagIn]
  | false =>
    rw [prtRaise_new hf]
    cases hcls : c.cls <;> simp only [prtAction, hcls]
    case trip => exact faultSafe_cycTrip (by rw [drvMain_codes]; exact nodup_prtEnter h)
    case abort => exact faultSafe_cycAbort (faultSafe_prtEnter (by simp [hcls]) h)
    case degrade => exact faultSafe_prtEnter (by simp [hcls]) h

/-! ## The ramp engine and the burn slot (R32, R39, R41, R149 to R155) -/

theorem faultSafe_rampEnter {s : State} (h : s.faultSafe) : (rampEnter s).faultSafe := by
  cases hk : s.segment.kind <;> simp only [rampEnter, hk]
  case ramp | hold => exact faultSafe_alkRecord h
  case endRec | code3 => exact faultSafe_cycComplete h

theorem faultSafe_prfGrant {s : State} (h : s.faultSafe) : (prfGrant s).faultSafe :=
  faultSafe_ite (fun _ => faultSafe_rampEnter (faultSafe_of_calm h (by simp))) fun _ => faultSafe_of_calm h (by simp)

theorem faultSafe_shrHold {s : State} (h : s.faultSafe) : (shrHold s).faultSafe :=
  faultSafe_prfGrant (faultSafe_of_calm h (by simp))

theorem faultSafe_shrStatic {s : State} (h : s.faultSafe) : (shrStatic s).faultSafe :=
  faultSafe_ite (fun _ => faultSafe_shrHold h) fun _ => h

theorem faultSafe_shrTakeRequest {s : State} (h : s.faultSafe) : (shrTakeRequest s).faultSafe := by
  cases hst : s.shr.state <;> simp only [shrTakeRequest, hst]
  case off => exact h
  case listening | fallback => exact faultSafe_shrStatic h
  case sharing => exact faultSafe_ite (fun _ => faultSafe_of_calm h (by simp)) fun _ => faultSafe_of_calm h (by simp)

theorem faultSafe_shrRequest {s : State} (h : s.faultSafe) : (shrRequest s).faultSafe :=
  faultSafe_iteSelf h fun _ => faultSafe_shrTakeRequest h

theorem faultSafe_rampBegin {i : Nat} {s : State} (h : s.faultSafe) : (rampBegin i s).faultSafe :=
  faultSafe_ite (fun _ => faultSafe_shrRequest (faultSafe_of_calm h (by simp))) fun _ =>
    faultSafe_ite (fun _ => faultSafe_rampEnter (faultSafe_of_calm h (by simp))) fun _ => faultSafe_rampEnter h

/-! ## SHR's causes and fallback (R138, R140, R154) -/

theorem faultSafe_shrSlotFallback {s : State} (h : s.faultSafe) : (shrSlotFallback s).faultSafe := by
  cases hr : s.shr.request <;> simp only [shrSlotFallback, hr]
  case claiming => exact faultSafe_shrStatic (faultSafe_of_calm h (by simp))
  case backingOff => exact faultSafe_shrStatic h
  case none | waiting | granted => exact h

theorem faultSafe_shrEnterFallback {s : State} (h : s.faultSafe) : (shrEnterFallback s).faultSafe :=
  faultSafe_alkRecord (faultSafe_shrSlotFallback (faultSafe_of_calm h (by simp)))

theorem faultSafe_shrAddCause {c : Cause} {s : State} (h : s.faultSafe) : (shrAddCause c s).faultSafe := by
  cases hst : s.shr.state <;> simp only [shrAddCause, hst]
  case off | fallback => exact h
  case listening | sharing => exact faultSafe_ite (fun _ => faultSafe_shrEnterFallback h) fun _ => h

end Sys2Proof.Machine
end

section
/-! SUPPORT. The law of the fault set (R157, R160) under the operations of LCK and CYC's part in them. -/

namespace Sys2Proof.Machine

/-! ## CYC's examinations and reports (R2, R6, R7, R13, R15) -/

/-- The unlock request leaves COOLING, where no trip-class entry stands (R13). -/
theorem faultSafe_cycCoolExam {s : State} (h : s.faultSafe) : (cycCoolExam s).faultSafe := by
  refine faultSafe_iteSelf h fun ⟨hp, _⟩ => ?_
  have hunlock : (lckUnlock s).faultSafe := faultSafe_of_calm h (by simp [lckUnlock_codes])
  exact faultSafe_cycSetPhase_from hunlock (by simp [hp])

theorem faultSafe_unlockExam {s : State} (h : s.faultSafe) : (unlockExam s).faultSafe :=
  faultSafe_cycCoolExam (faultSafe_of_calm h (by simp))

/-- The unlock that CYC may ask for in TRIPPED leaves the phase (R13). -/
theorem faultSafe_takeEvent {f : State → State} {s : State} (h : (f s).faultSafe) : (takeEvent f s).faultSafe :=
  faultSafe_of_calm h (by simp)

theorem faultSafe_cycEnterHeating {s : State} (h : s.faultSafe) (hp : s.cyc.phase = .locking) :
    (cycEnterHeating s).faultSafe := by
  have hheating := faultSafe_cycSetPhase_from (p := .heating) h (by simp [hp])
  exact faultSafe_rampBegin (faultSafe_of_calm hheating (by simp))

theorem faultSafe_cycLocked {s : State} (h : s.faultSafe) : (cycLocked s).faultSafe :=
  faultSafe_iteSelf h fun hp => faultSafe_ite
    (fun _ => faultSafe_cycSetPhase_from (s := cycOutcome .aborted s) h (by simp [hp])) fun _ =>
      faultSafe_cycEnterHeating h hp

theorem faultSafe_cycLockFailure {engaged : Bool} {s : State} (h : s.faultSafe) : (cycLockFailure engaged s).faultSafe :=
  faultSafe_iteSelf h fun hp =>
    faultSafe_cycSetPhase_from (s := cycOutcome (if s.cyc.abortPending then .aborted else .lockFailed) s) h (by simp [hp])

theorem faultSafe_cycUnlocked {s : State} (h : s.faultSafe) : (cycUnlocked s).faultSafe :=
  faultSafe_iteSelf h fun hp => faultSafe_cycSetPhase_from h (by simp [hp])

theorem noTrip_of_oldestTrip {s : State} (h : s.oldestTrip = none) : s.hasTrip = false := by
  simpa [State.oldestTrip, State.hasTrip] using h

/-- The latch report leaves IDLE for HELD only where no trip-class entry stands, and for TRIPPED otherwise (R2). -/
theorem faultSafe_cycLatchReport {engaged : Bool} {s : State} (h : s.faultSafe) : (cycLatchReport engaged s).faultSafe := by
  refine faultSafe_iteSelf h fun _ => ?_
  split
  · next hnone => exact faultSafe_cycSetPhase h.1 (by simp [noTrip_of_oldestTrip hnone])
  · exact faultSafe_cycSetPhase h.1 (by simp)

/-! ## The lock travel (R48 to R52) -/

theorem faultSafe_lckFail {s : State} (h : s.faultSafe) : (lckFail s).faultSafe :=
  faultSafe_cycLockFailure (faultSafe_prtGone (faultSafe_prtRaise h))

theorem faultSafe_lckLock {s : State} (h : s.faultSafe) : (lckLock s).faultSafe :=
  faultSafe_ite (fun _ => faultSafe_of_calm h (by simp)) fun _ => faultSafe_lckFail h

theorem faultSafe_lckAttemptFailed {s : State} (h : s.faultSafe) : (lckAttemptFailed s).faultSafe :=
  faultSafe_ite (fun _ => h) fun _ => faultSafe_lckFail (faultSafe_of_calm h (by simp))

theorem faultSafe_lckReturnEnd {s : State} (h : s.faultSafe) : (lckReturnEnd s).faultSafe :=
  faultSafe_ite (fun _ => faultSafe_lckFail (faultSafe_of_calm h (by simp))) fun _ =>
    faultSafe_lckFail (faultSafe_of_calm h (by simp))

theorem faultSafe_lckDoorOpened {s : State} (h : s.faultSafe) : (lckDoorOpened s).faultSafe :=
  faultSafe_ite (fun _ => h) fun _ => faultSafe_ite (fun _ => faultSafe_lckFail (faultSafe_of_calm h (by simp))) fun _ =>
    faultSafe_lckFail (faultSafe_of_calm h (by simp))

/-! ## The unlock travel (R54, R55) -/

theorem faultSafe_lckJamEnds {s : State} (h : s.faultSafe) : (lckJamEnds s).faultSafe := faultSafe_of_calm h (by simp)

theorem faultSafe_lckUnlockJam {s : State} (h : s.faultSafe) : (lckUnlockJam s).faultSafe :=
  faultSafe_lckJamEnds (faultSafe_prtGone (faultSafe_prtRaise (faultSafe_of_calm h (by simp))))

theorem faultSafe_lckUnlockFailed {s : State} (h : s.faultSafe) : (lckUnlockFailed s).faultSafe :=
  faultSafe_ite (fun _ => h) fun _ => faultSafe_lckUnlockJam h

theorem faultSafe_lckUnlockDone {s : State} (h : s.faultSafe) : (lckUnlockDone s).faultSafe :=
  faultSafe_cycUnlocked (faultSafe_of_calm h (by simp))

/-! ## Supervision (R56 to R58) -/

theorem faultSafe_lckLost {s : State} (h : s.faultSafe) : (lckLost s).faultSafe := by
  have hraised : (prtRaise .lockLost (s.modLck fun l => { l with lockLostPresent := true })).faultSafe :=
    faultSafe_prtRaise h
  have hjam : (lckJamEnds (lckSetJammed false
      (prtRaise .lockLost (s.modLck fun l => { l with lockLostPresent := true })))).faultSafe :=
    faultSafe_of_calm hraised (by simp)
  exact faultSafe_iteSelf hjam fun _ => faultSafe_of_calm hjam (by simp)

theorem faultSafe_lckForced {s : State} (h : s.faultSafe) : (lckForced s).faultSafe := by
  have hraised : (prtRaise .doorForced (s.modLck fun l => { l with doorForcedPresent := true })).faultSafe :=
    faultSafe_prtRaise h
  exact faultSafe_iteSelf hraised fun _ => faultSafe_of_calm hraised (by simp)

theorem faultSafe_lckLatchEngaged {s : State} (h : s.faultSafe) : (lckLatchEngaged s).faultSafe := by
  have hgone : (lckLostGone s).faultSafe := faultSafe_of_calm h (by simp)
  exact faultSafe_ite (fun _ => hgone) fun _ => faultSafe_ite (fun _ => faultSafe_of_calm hgone (by simp)) fun _ =>
    faultSafe_of_calm hgone (by simp)

theorem faultSafe_lckLatchFree {s : State} (h : s.faultSafe) : (lckLatchFree s).faultSafe := by
  have hgone : (lckForcedGone s).faultSafe := faultSafe_of_calm h (by simp)
  unfold lckLatchFree
  simp only
  generalize lckForcedGone s = m at hgone ⊢
  split
  case h_1 => exact faultSafe_lckAttemptFailed (s := lckStop m) hgone
  case h_2 | h_3 => exact hgone
  all_goals exact faultSafe_iteSelf hgone fun _ => faultSafe_lckLost hgone

theorem faultSafe_lckDoorOpens {s : State} (h : s.faultSafe) : (lckDoorOpens s).faultSafe :=
  faultSafe_ite (fun _ => faultSafe_ite (fun _ => h) fun _ => faultSafe_lckDoorOpened h) fun _ =>
    faultSafe_ite (fun _ => faultSafe_lckForced h) fun _ => faultSafe_lckJamEnds h

/-! ## Start-up and the debounced values (R2, R43, R44) -/

theorem faultSafe_lckStartUp {engaged : Bool} {s : State} (h : s.faultSafe) : (lckStartUp engaged s).faultSafe :=
  faultSafe_cycLatchReport (faultSafe_of_calm h (by simp))

theorem faultSafe_lckActs {sw : SwitchId} {level : Bool} {s : State} (h : s.faultSafe) : (lckActs sw level s).faultSafe := by
  cases sw
  case latch =>
    exact faultSafe_ite (fun _ => faultSafe_lckStartUp h) fun _ =>
      faultSafe_ite (fun _ => faultSafe_lckLatchEngaged h) fun _ => faultSafe_lckLatchFree h
  case door =>
    cases level
    case false => exact faultSafe_ite (fun _ => h) fun _ => faultSafe_lckDoorOpens h
    case true => exact faultSafe_ite (fun _ => h) fun _ => faultSafe_of_calm h (by simp)

theorem faultSafe_lckDebounced {sw : SwitchId} {level : Bool} {s : State} (h : s.faultSafe) :
    (lckDebounced sw level s).faultSafe :=
  faultSafe_ite (fun _ => h) fun _ => faultSafe_lckActs h

/-! ## The rows of LCK (R43, R49 to R55) -/

theorem faultSafe_lckMeet {s : State} (h : s.faultSafe) : (lckMeet s).faultSafe := faultSafe_of_calm h (by simp)

theorem faultSafe_lckDriveExpiry {s : State} (h : s.faultSafe) : (lckDriveExpiry s).faultSafe :=
  faultSafe_iteSelf h fun _ => faultSafe_lckAttemptFailed (s := lckStop (lckMeet s)) (faultSafe_lckMeet h)

theorem faultSafe_lckSeatEnd {s : State} (h : s.faultSafe) : (lckSeatEnd s).faultSafe :=
  faultSafe_iteSelf h fun _ => faultSafe_ite (fun _ => faultSafe_cycLocked (faultSafe_of_calm h (by simp))) fun _ =>
    faultSafe_lckAttemptFailed (s := lckStop s) h

theorem faultSafe_lckUnlockExpiry {s : State} (h : s.faultSafe) : (lckUnlockExpiry s).faultSafe := by
  have hmeet := faultSafe_lckMeet h
  unfold lckUnlockExpiry
  split
  case h_1 => exact faultSafe_lckUnlockFailed (s := lckStop (lckMeet s)) hmeet
  case h_2 | h_3 => exact faultSafe_lckReturnEnd hmeet
  all_goals exact h

theorem faultSafe_lckClearanceEnd {s : State} (h : s.faultSafe) : (lckClearanceEnd s).faultSafe := by
  unfold lckClearanceEnd
  split
  case h_1 => exact faultSafe_lckUnlockDone h
  case h_2 => exact faultSafe_lckReturnEnd h
  all_goals exact h

theorem faultSafe_lckUnlockPause {s : State} (h : s.faultSafe) : (lckUnlockPause s).faultSafe :=
  faultSafe_iteSelf h fun _ =>
    faultSafe_ite (fun _ => faultSafe_of_calm h (by simp [lckRetry])) fun _ => faultSafe_lckUnlockJam h

end Sys2Proof.Machine
end

section
/-! SUPPORT. The law of the fault set (R157, R160) under the operations of TMS, DRV, BLI, PTB and SHR. -/

namespace Sys2Proof.Machine

/-! ## TMS and the checks of a period (R60 to R70, R164) -/

theorem faultSafe_tmsCeiling {s : State} (h : s.faultSafe) : (tmsCeiling s).faultSafe := by
  refine faultSafe_iteSelf h fun _ => ?_
  split
  · exact h
  · exact faultSafe_ite (fun _ => faultSafe_ite (fun _ => h) fun _ => faultSafe_prtRaise h) fun _ =>
      faultSafe_iteSelf h fun _ => faultSafe_prtGone h

theorem faultSafe_tmsHotGone {s : State} (h : s.faultSafe) : (tmsHotGone s).faultSafe :=
  faultSafe_iteSelf h fun _ => faultSafe_prtGone h

theorem faultSafe_tmsNew {ch : Channel} {s : State} (h : s.faultSafe) : (tmsNew ch s).faultSafe := by
  cases ch
  case a => exact faultSafe_tmsCeiling (faultSafe_unlockExam (faultSafe_of_calm h (by simp)))
  case b => exact faultSafe_tmsCeiling (faultSafe_unlockExam h)
  case l => exact faultSafe_tmsHotGone (s := tmsOverride s) h

theorem faultSafe_tmsStanding {ch : Channel} {s : State} (h : s.faultSafe) : (tmsStanding ch s).faultSafe := by
  cases ch
  case a | b => exact faultSafe_tmsCeiling (faultSafe_unlockExam (faultSafe_of_calm h (by simp)))
  case l => exact h

theorem faultSafe_tmsFail {ch : Channel} {s : State} (h : s.faultSafe) : (tmsFail ch s).faultSafe :=
  faultSafe_tmsStanding (faultSafe_prtRaise (faultSafe_of_calm h (by simp)))

theorem faultSafe_tmsRecover {ch : Channel} {s : State} (h : s.faultSafe) : (tmsRecover ch s).faultSafe :=
  faultSafe_tmsNew (faultSafe_tmsStanding (faultSafe_prtGone h))

theorem faultSafe_tmsReading {ch : Channel} {raw : Int} {s : State} (h : s.faultSafe) :
    (tmsReading ch raw s).faultSafe := by
  have hlatest : (tmsLatest ch raw s).faultSafe := h
  unfold tmsReading
  simp only
  generalize tmsLatest ch raw s = m at hlatest ⊢
  split
  case h_1 => exact faultSafe_tmsNew (faultSafe_ite (fun _ => hlatest) fun _ => faultSafe_tmsStanding hlatest)
  case h_2 | h_3 => exact faultSafe_ite (fun _ => hlatest) fun _ => faultSafe_tmsFail hlatest
  case h_4 => exact faultSafe_ite (fun _ => hlatest) fun _ => faultSafe_tmsRecover hlatest
  case h_5 | h_6 => exact hlatest

theorem faultSafe_tmsPair {s : State} (h : s.faultSafe) : (tmsPair s).faultSafe := by
  have hcounts : (tmsCounts s).faultSafe := faultSafe_of_calm h (by simp)
  exact faultSafe_iteSelf h fun _ => faultSafe_ite (fun _ => faultSafe_prtRaise hcounts) fun _ =>
    faultSafe_iteSelf hcounts fun _ => faultSafe_prtGone hcounts

theorem faultSafe_tmsHot {s : State} (h : s.faultSafe) : (tmsHot s).faultSafe :=
  faultSafe_iteSelf h fun _ => faultSafe_ite (fun _ => faultSafe_prtRaise h) fun _ => h

theorem faultSafe_tmsComplete {ch : Channel} {raw : Int} {s : State} (h : s.faultSafe) :
    (tmsComplete ch raw s).faultSafe := by
  refine faultSafe_iteSelf h fun _ => ?_
  have hreading : (tmsReading ch raw (s.modTms fun t => { t with due := nextDue ch })).faultSafe := faultSafe_tmsReading h
  cases ch
  case a => exact hreading
  case b => exact faultSafe_tmsPair hreading
  case l => exact faultSafe_tmsHot hreading

theorem faultSafe_prtSecond {s : State} (h : s.faultSafe) : (prtSecond s).faultSafe :=
  faultSafe_iteSelf h fun _ => faultSafe_ite (fun _ => h) fun _ => faultSafe_unlockExam h

/-! ## DRV (R91 to R103) -/

theorem faultSafe_drvOverCheck {measured expected : Nat} {s : State} (h : s.faultSafe) :
    (drvOverCheck measured expected s).faultSafe :=
  faultSafe_ite (fun _ => faultSafe_ite (fun _ => faultSafe_prtGone h) fun _ => h) fun _ =>
    faultSafe_ite (fun _ => faultSafe_ite (fun _ => faultSafe_prtRaise h) fun _ => h) fun _ =>
      faultSafe_ite (fun _ => faultSafe_prtGone h) fun _ => h

theorem faultSafe_drvStuckCheck {measured : Nat} {s : State} (h : s.faultSafe) :
    (drvStuckCheck measured s).faultSafe := by
  have hgone : (if s.drv.stuckPresent ∧ measured ≤ 10 then
      prtGone .driveStuck (s.modDrv fun d => { d with stuckPresent := false }) else s).faultSafe :=
    faultSafe_iteSelf h fun _ => faultSafe_prtGone h
  unfold drvStuckCheck
  dsimp only
  generalize (if s.drv.stuckPresent ∧ measured ≤ 10 then _ else s) = m at hgone ⊢
  exact faultSafe_iteSelf hgone fun _ =>
    faultSafe_ite (fun _ => faultSafe_ite (fun _ => faultSafe_prtRaise hgone) fun _ => hgone) fun _ => hgone

theorem faultSafe_drvLowCheck {measured expected : Nat} {s : State} (h : s.faultSafe) :
    (drvLowCheck measured expected s).faultSafe :=
  faultSafe_iteSelf h fun _ => faultSafe_ite (fun _ => faultSafe_ite (fun _ => faultSafe_prtRaise h) fun _ => h) fun _ =>
    faultSafe_of_calm h (by simp)

theorem faultSafe_drvComplete {s : State} (h : s.faultSafe) : (drvComplete s).faultSafe :=
  faultSafe_drvLowCheck (faultSafe_drvStuckCheck (faultSafe_drvOverCheck h))

theorem faultSafe_drvBoundary {sample : Nat} {s : State} (h : s.faultSafe) : (drvBoundary sample s).faultSafe := by
  have hsampled : (s.modDrv fun d => { d with sampleSum := d.sampleSum + sample }).faultSafe := h
  exact faultSafe_ite (fun _ => faultSafe_of_calm (faultSafe_drvComplete hsampled) (by simp)) fun _ =>
    faultSafe_ite (fun _ => h) fun _ => h

theorem faultSafe_drvZeroCross {sample : Nat} {s : State} (h : s.faultSafe) : (drvZeroCross sample s).faultSafe := by
  have hback : (drvMainsBack (s.modDrv fun d => { d with absence := 0, mainsTimer := none, state := .running })).faultSafe :=
    faultSafe_of_calm h (by simp)
  exact faultSafe_ite (fun _ => faultSafe_drvBoundary hback) fun _ => faultSafe_of_calm hback (by simp)

/-- MAINS_ABSENT ends this heating with its condition present from an earlier one too (R103; log 34). -/
theorem faultSafe_drvMainsAbsent {s : State} (h : s.faultSafe) : (drvMainsAbsent s).faultSafe :=
  faultSafe_ite (fun _ => faultSafe_cycAbort (c := .mainsAbsent) h) fun _ => faultSafe_prtRaise h

/-! ## BLI and PTB (R105 to R135) -/

theorem faultSafe_bliReliability {s : State} (h : s.faultSafe) : (bliReliability s).faultSafe :=
  faultSafe_ite (fun _ => faultSafe_shrAddCause (faultSafe_of_calm h (by simp))) fun _ =>
    faultSafe_iteSelf h fun _ => faultSafe_of_calm h (by simp)

theorem faultSafe_bliGood {s : State} (h : s.faultSafe) : (bliGood s).faultSafe := by
  have hreliable : (bliReliability (s.modBli fun b => { b with errors := b.errors - 1 })).faultSafe :=
    faultSafe_bliReliability h
  exact faultSafe_of_calm hreliable (by simp [bliGood])

theorem faultSafe_bliConflict {s : State} (h : s.faultSafe) : (bliConflict s).faultSafe :=
  faultSafe_ite (fun _ => h) fun _ => faultSafe_shrAddCause (faultSafe_prtRaise h)

theorem faultSafe_bliStuck {s : State} (h : s.faultSafe) : (bliStuck s).faultSafe :=
  faultSafe_shrAddCause (faultSafe_prtRaise (faultSafe_of_calm h (by simp)))

theorem faultSafe_bliHeld {s : State} (h : s.faultSafe) : (bliHeld s).faultSafe :=
  faultSafe_ite (fun _ => h) fun _ => faultSafe_shrAddCause (faultSafe_of_calm h (by simp))

theorem faultSafe_bliHeldExpiry {own : Bool} {s : State} (h : s.faultSafe) : (bliHeldExpiry own s).faultSafe :=
  faultSafe_ite (fun _ => faultSafe_ite (fun _ => h) fun _ => faultSafe_bliStuck h) fun _ => faultSafe_bliHeld h

theorem faultSafe_bliSilent {s : State} (h : s.faultSafe) : (bliSilent s).faultSafe :=
  faultSafe_iteSelf h fun _ => faultSafe_shrAddCause (faultSafe_of_calm h (by simp))

theorem faultSafe_ptbInsert {f : Frame} {s : State} (h : s.faultSafe) : (ptbInsert f s).faultSafe :=
  faultSafe_ite (fun _ => faultSafe_of_calm h (by simp)) fun _ =>
    faultSafe_ite (fun _ => h) fun _ => faultSafe_shrAddCause (faultSafe_of_calm h (by simp))

theorem faultSafe_ptbTake {f : Frame} {s : State} (h : s.faultSafe) : (ptbTake f s).faultSafe := by
  refine faultSafe_iteSelf h fun _ => ?_
  split
  · exact faultSafe_of_calm h (by simp)
  · exact h
  · exact faultSafe_of_calm h (by simp)
  · exact faultSafe_ptbInsert h

theorem faultSafe_bliGoodFrame {f : Frame} {s : State} (h : s.faultSafe) : (bliGoodFrame f s).faultSafe :=
  faultSafe_ite (fun _ => h) fun _ =>
    faultSafe_ite (fun _ => faultSafe_bliConflict (faultSafe_bliGood h)) fun _ => faultSafe_ptbTake (faultSafe_bliGood h)

theorem faultSafe_bliReceive {nbits : Nat} {bits : BitVec 64} {s : State} (h : s.faultSafe) :
    (bliReceive nbits bits s).faultSafe := by
  have hclassed : (bliClassed (classify nbits bits) s).faultSafe := by
    cases classify nbits bits
    case good => exact faultSafe_bliGoodFrame h
    case cutShort | checkFailed | invalidCode => exact faultSafe_bliReliability h
  exact hclassed

/-! ## SHR's timers (R139, R146, R151, R152) -/

theorem faultSafe_shrListenExpiry {s : State} (h : s.faultSafe) : (shrListenExpiry s).faultSafe := by
  have hshares : (shrEvaluate (shrRecord (s.modShr fun u => { u with state := .sharing, listenTimer := none }))).faultSafe :=
    faultSafe_of_calm h (by simp)
  exact faultSafe_iteSelf h fun _ => faultSafe_iteSelf hshares fun _ => faultSafe_shrTakeRequest hshares

theorem faultSafe_shrSlotExpiry {s : State} (h : s.faultSafe) : (shrSlotExpiry s).faultSafe :=
  faultSafe_iteSelf h fun _ => faultSafe_ite (fun _ => faultSafe_shrHold h) fun _ => faultSafe_of_calm h (by simp)

theorem faultSafe_shrBackOffExpiry {s : State} (h : s.faultSafe) : (shrBackOffExpiry s).faultSafe :=
  faultSafe_iteSelf h fun _ => faultSafe_shrTakeRequest h

end Sys2Proof.Machine
end

section
/-! CERTIFICATE. The law of the fault set (R157, R160) under the rows of the table, a millisecond and a step. -/

namespace Sys2Proof.Machine

/-! ## The link commands (R4 to R8, R16, R17, R172 to R178) -/

theorem faultSafe_linkOpen {params : Nat} {s : State} (h : s.faultSafe) : (linkOpen params s).faultSafe :=
  faultSafe_of_calm h (by simp)

theorem faultSafe_linkAnswer {c : ResultCode} {bytes : List Byte} {s : State} (h : s.faultSafe) :
    (linkAnswer c bytes s).faultSafe := h

/-- A command keeps the law where its effect does; a refused one has none (R172). -/
theorem faultSafe_linkCommand {params n : Nat} {f : State → State} {s : State} (h : s.faultSafe)
    (hf : ∀ t : State, t.faultSafe → (f t).faultSafe) : (linkCommand params n f s).faultSafe :=
  faultSafe_ite (fun _ => faultSafe_linkAnswer (faultSafe_linkOpen h)) fun _ => hf _ (faultSafe_linkOpen h)

theorem faultSafe_configPut {item : Byte} {value : Half} {s : State} (h : s.faultSafe) :
    (configPut item value s).faultSafe := by
  unfold configPut
  split
  · exact h
  · exact faultSafe_ite (fun _ => h) fun _ => h

theorem faultSafe_shrCommit {s : State} (h : s.faultSafe) : (shrCommit s).faultSafe := by
  have hlistens : (shrRecord (s.modShr fun u => { u with
      solo := s.soloAllowance, state := .listening true, ho := 0, listenTimer := some 3500 })).faultSafe :=
    faultSafe_alkRecord h
  exact faultSafe_ite (fun _ => hlistens) fun _ => faultSafe_shrEnterFallback hlistens

/-- The commit leaves HELD, where no trip-class entry stands (R19). -/
theorem faultSafe_cycCommit {s : State} (h : s.faultSafe) : (cycCommit s).faultSafe :=
  faultSafe_iteSelf h fun hp => faultSafe_cycSetPhase_from (s := cycClearRecord .interrupted s) h (by simp [hp])

theorem faultSafe_commitAll {s : State} (h : s.faultSafe) : (commitAll s).faultSafe := by
  have hbli : (bliCommit (alkLines (s.modAlk fun a => { a with committed := true }))).faultSafe :=
    faultSafe_of_calm h (by simp)
  have hexam := faultSafe_unlockExam (faultSafe_tmsCeiling (faultSafe_cycCommit (faultSafe_shrCommit hbli)))
  unfold commitAll
  simp only
  exact faultSafe_alkRecord hexam

theorem faultSafe_configCommit {s : State} (h : s.faultSafe) : (configCommit s).faultSafe := by
  refine faultSafe_ite (fun _ => h) fun _ => ?_
  split
  · exact h
  · exact faultSafe_linkAnswer (faultSafe_commitAll h)

theorem faultSafe_profileSeek {index mode : Byte} {s : State} (h : s.faultSafe) : (profileSeek index mode s).faultSafe := by
  unfold profileSeek
  split
  · exact h
  · exact faultSafe_ite (fun _ => h) fun _ => h

theorem faultSafe_profilePut {word : Half} {s : State} (h : s.faultSafe) : (profilePut word s).faultSafe :=
  faultSafe_ite (fun _ => h) fun _ => faultSafe_ite (fun _ => h) fun _ => faultSafe_ite (fun _ => h) fun _ =>
    faultSafe_linkAnswer (faultSafe_of_calm h (by simp))

theorem faultSafe_profileGet {s : State} (h : s.faultSafe) : (profileGet s).faultSafe :=
  faultSafe_ite (fun _ => h) fun _ => faultSafe_ite (fun _ => h) fun _ =>
    faultSafe_linkAnswer (faultSafe_of_calm h (by simp))

/-- START is refused with FAULT_ACTIVE while a trip-class entry stands (R4). -/
theorem noTrip_of_startRefusal_none {s : State} (h : s.startRefusal = none) : s.hasTrip = false := by
  by_contra htrip
  rw [s.startRefusal_eq] at h
  split_ifs at h with _ _ _ _ hactive
  exact htrip (by simpa using hactive)

theorem faultSafe_startCycle {s : State} (h : s.faultSafe) : (startCycle s).faultSafe := by
  unfold startCycle
  split
  · exact h
  · next hnone =>
    have hno : (cycClearRecord .none s).hasTrip = false := noTrip_of_startRefusal_none hnone
    exact faultSafe_linkAnswer (faultSafe_lckLock (faultSafe_cycSetPhase (s := cycClearRecord .none s) h.1 (by simp [hno])))

theorem faultSafe_abortCycle {s : State} (h : s.faultSafe) : (abortCycle s).faultSafe := by
  cases hp : s.cyc.phase <;> simp only [abortCycle, hp]
  case heating => exact faultSafe_linkAnswer (faultSafe_cycLeaveHeating_from (s := cycOutcome .aborted s) h hp)
  case locking | idle | cooling | tripped | unlocking | held => exact h

/-- Removing entries makes none, whatever the classes (R166, R167). -/
theorem faultSafe_prtRemove {classes : List FaultClass} {s : State} (h : s.faultSafe) : (prtRemove classes s).faultSafe := by
  obtain ⟨hone, hphase⟩ := h
  obtain ⟨a, heq, -⟩ := prtRemove_eq classes s
  have hkept : (s.keptFaults classes).Sublist s.prt.faults := List.filter_sublist
  have hremoved : ({ s with prt := { s.prt with faults := s.keptFaults classes }, alk := a } : State).faultSafe := by
    refine ⟨hone.sublist (hkept.map _), fun htrip => hphase ?_⟩
    obtain ⟨e, he, htripEntry⟩ := List.any_eq_true.mp htrip
    exact List.any_eq_true.mpr ⟨e, hkept.subset he, htripEntry⟩
  rw [heq]
  exact faultSafe_of_calm hremoved (by simp)

/-- CLEAR in TRIPPED with no trip-class flag present leaves no trip-class entry (R16, R166). -/
theorem noTrip_prtRemove {s : State} (h : s.hasTripPresent = false) :
    (prtRemove [.trip, .abort, .degrade] s).hasTrip = false := by
  obtain ⟨a, heq, -⟩ := prtRemove_eq [.trip, .abort, .degrade] s
  rw [heq, hasTrip_drvMain]
  refine List.any_eq_false.mpr fun e he htrip => ?_
  obtain ⟨hmem, hstays⟩ := List.mem_filter.mp he
  have hpresent : e.present = true := by
    cases hc : e.code.cls <;> simpa [hc] using hstays
  exact List.any_eq_false.mp h e hmem (by simp [htrip, hpresent])

/-- CYC moves on from TRIPPED with no trip-class entry left, so the phase that it enters is free (R16). -/
theorem faultSafe_cycMoveOn {s : State} (h : s.faultSafe) (hno : s.hasTrip = false) : (cycMoveOn s).faultSafe := by
  have hcodes := cycMoveOn_codes s
  exact faultSafe_of_noTrip (by rw [hcodes]; exact h.1) (by rw [hasTrip_congr hcodes, hno])

theorem faultSafe_clearFaults {s : State} (h : s.faultSafe) : (clearFaults s).faultSafe :=
  faultSafe_ite (fun _ => faultSafe_ite (fun _ => h) fun _ => faultSafe_ite (fun _ => h) fun hactive =>
    faultSafe_linkAnswer (faultSafe_cycMoveOn (faultSafe_prtRemove h) (noTrip_prtRemove (by simpa using hactive)))) fun _ =>
      faultSafe_linkAnswer (faultSafe_prtRemove h)

theorem faultSafe_eventRead {s : State} (h : s.faultSafe) : (eventRead s).faultSafe := by
  unfold eventRead
  split
  · exact h
  · exact h

theorem faultSafe_peerForget {station : Byte} {s : State} (h : s.faultSafe) : (peerForget station s).faultSafe := by
  refine faultSafe_ite (fun _ => h) fun _ => ?_
  split
  · exact h
  · split
    · exact h
    · exact faultSafe_linkAnswer (faultSafe_of_calm h (by simp))

theorem faultSafe_stationReset {s : State} (h : s.faultSafe) : (stationReset s).faultSafe :=
  faultSafe_ite (fun _ => faultSafe_linkAnswer (faultSafe_of_calm h (by simp))) fun _ => h

/-- A reset leaves the set empty (R157). -/
theorem faultSafe_resetAll (cause : ResetCause) (s : State) : (resetAll cause s).faultSafe :=
  faultSafe_of_noTrip List.nodup_nil rfl

theorem faultSafe_stationResetDone {s : State} (h : s.faultSafe) : (stationResetDone s).faultSafe := by
  unfold stationResetDone
  split
  · exact faultSafe_resetAll _ s
  · exact h

/-! ## The seconds, the ramp engine and the regulator (R14, R30 to R42, R75 to R88) -/

theorem faultSafe_cycSecond {s : State} (h : s.faultSafe) : (cycSecond s).faultSafe :=
  faultSafe_ite (fun _ => faultSafe_alkRecord h) fun _ => h

theorem faultSafe_rampJudge {s : State} (h : s.faultSafe) : (rampJudge s).faultSafe :=
  faultSafe_ite (fun _ => faultSafe_rampBegin (faultSafe_prtGone h)) fun _ =>
    faultSafe_iteSelf h fun _ => faultSafe_prtRaise h

theorem faultSafe_holdJudge {s : State} (h : s.faultSafe) : (holdJudge s).faultSafe :=
  faultSafe_ite (fun _ => faultSafe_alkRecord h) fun _ => faultSafe_iteSelf h fun _ => faultSafe_rampBegin h

theorem faultSafe_rampStep {s : State} (h : s.faultSafe) : (rampStep s).faultSafe := by
  have hrearm : (rampRearm s).faultSafe := h
  have htime : (rampTime (rampRearm s)).faultSafe := faultSafe_iteSelf hrearm fun _ => hrearm
  cases hr : s.ramp.state <;> simp only [rampStep, hr]
  case idle | finished => exact h
  case ramping => exact faultSafe_rampJudge (faultSafe_ite (fun _ => htime) fun _ => htime)
  case holding => exact faultSafe_holdJudge htime
  case waitingSlot => exact faultSafe_ite (fun _ => faultSafe_prtRaise hrearm) fun _ => hrearm

theorem faultSafe_regCoolExpiry {s : State} (h : s.faultSafe) : (regCoolExpiry s).faultSafe := by
  have hmeasured : (regMeasure s).faultSafe := by
    unfold regMeasure
    split
    · exact h
    · exact h
    · exact faultSafe_ite (fun _ => h) fun _ => h
  exact hmeasured

/-! ## Every row of the table -/

theorem faultSafe_onlyWhen {p : State → State → Bool} {f : State → State} {s : State} (h : s.faultSafe)
    (hf : (f s).faultSafe) : (onlyWhen p f s).faultSafe := faultSafe_iteSelf h fun _ => hf

theorem faultSafe_bliComplete {s : State} (h : s.faultSafe) : (bliComplete s).faultSafe := by
  unfold bliComplete
  split
  · exact faultSafe_of_calm h (by simp)
  · exact h

theorem faultSafe_bliAttempt {s : State} (h : s.faultSafe) : (bliAttempt s).faultSafe := by
  unfold bliAttempt
  split
  · exact faultSafe_iteSelf h fun _ => h
  · exact h

theorem faultSafe_bliDepartExpiry {s : State} (h : s.faultSafe) : (bliDepartExpiry s).faultSafe := by
  have hcut : (bliCutOff s).faultSafe := faultSafe_ite (fun _ => h) fun _ => h
  exact faultSafe_iteSelf h fun _ => hcut

theorem faultSafe_ptbLapse {station : Nat} {s : State} (h : s.faultSafe) : (ptbLapse station s).faultSafe := by
  unfold ptbLapse
  split
  · exact h
  · split
    · exact h
    · exact faultSafe_of_calm h (by simp)

/-- Each row of the table keeps the law of the fault set. -/
theorem exec_faultSafe (i : Instr) {s : State} (h : s.faultSafe) : ∃ t, exec i s = .next t ∧ t.faultSafe := by
  have event {f : State → State} (hf : (f s).faultSafe) : (takeEvent f s).faultSafe := faultSafe_takeEvent hf
  have command {params n : Nat} {f : State → State} (hf : ∀ t : State, t.faultSafe → (f t).faultSafe) :
      (linkCommand params n f s).faultSafe := faultSafe_linkCommand h hf
  cases i
  case powerOnReset | resetn => exact ⟨_, rfl, faultSafe_resetAll _ s⟩
  case readStatus | readTemps | readShare | readPeer | readCycle | readFaults | configGet | badCommand =>
    exact ⟨_, rfl, faultSafe_linkAnswer (faultSafe_linkOpen h)⟩
  case configPut => exact ⟨_, rfl, command fun _ => faultSafe_configPut⟩
  case configCommit => exact ⟨_, rfl, event (command fun _ => faultSafe_configCommit)⟩
  case profileSeek => exact ⟨_, rfl, command fun _ => faultSafe_profileSeek⟩
  case profilePut => exact ⟨_, rfl, command fun _ => faultSafe_profilePut⟩
  case profileGet => exact ⟨_, rfl, faultSafe_profileGet (faultSafe_linkOpen h)⟩
  case start => exact ⟨_, rfl, event (command fun _ => faultSafe_startCycle)⟩
  case abort => exact ⟨_, rfl, event (command fun _ => faultSafe_abortCycle)⟩
  case clear => exact ⟨_, rfl, event (command fun _ => faultSafe_clearFaults)⟩
  case eventRead => exact ⟨_, rfl, faultSafe_eventRead (faultSafe_linkOpen h)⟩
  case peerForget => exact ⟨_, rfl, event (command fun _ => faultSafe_peerForget)⟩
  case stationReset => exact ⟨_, rfl, command fun _ => faultSafe_stationReset⟩
  case stationResetDone => exact ⟨_, rfl, faultSafe_stationResetDone h⟩
  case csnRise | secondsTick | glitch => exact ⟨_, rfl, h⟩
  case cycleSecond => exact ⟨_, rfl, faultSafe_cycSecond h⟩
  case coolSlow => exact ⟨_, rfl, faultSafe_onlyWhen h (faultSafe_cycSecond h)⟩
  case rampStep => exact ⟨_, rfl, event (faultSafe_rampStep h)⟩
  case holdComplete | segmentRestart | heatTimeout | slotTimeout =>
    exact ⟨_, rfl, faultSafe_iteSelf h fun _ => event (faultSafe_rampStep h)⟩
  case heatingEvaluation =>
    exact ⟨_, rfl, faultSafe_iteSelf h fun _ => event (faultSafe_of_calm h (by simp [regEvaluate, regSet]))⟩
  case coolingRuleExpiry => exact ⟨_, rfl, faultSafe_iteSelf h fun _ => faultSafe_regCoolExpiry h⟩
  case switchEdge => exact ⟨_, rfl, faultSafe_ite (fun _ => h) fun _ => h⟩
  case switchDebounced => exact ⟨_, rfl, event (faultSafe_lckDebounced h)⟩
  case lockDriveExpiry => exact ⟨_, rfl, event (faultSafe_lckDriveExpiry h)⟩
  case seatEnd => exact ⟨_, rfl, event (faultSafe_lckSeatEnd h)⟩
  case lockBackDriveEnd | unlockBackDriveEnd => exact ⟨_, rfl, faultSafe_iteSelf h fun _ => h⟩
  case lockPauseEnd => exact ⟨_, rfl, faultSafe_iteSelf h fun _ => faultSafe_of_calm h (by simp [lckRetry])⟩
  case unlockDriveExpiry => exact ⟨_, rfl, event (faultSafe_lckUnlockExpiry h)⟩
  case clearanceEnd => exact ⟨_, rfl, event (faultSafe_lckClearanceEnd h)⟩
  case unlockPauseEnd => exact ⟨_, rfl, event (faultSafe_lckUnlockPause h)⟩
  case conversionCompletion => exact ⟨_, rfl, event (faultSafe_tmsComplete h)⟩
  case channelFailure | channelRecovery | sensorDisagree | disagreeConditionGone | latchHot =>
    exact ⟨_, rfl, faultSafe_onlyWhen h (event (faultSafe_tmsComplete h))⟩
  case blindCoolTick => exact ⟨_, rfl, event (faultSafe_prtSecond h)⟩
  case zeroCross => exact ⟨_, rfl, event (faultSafe_drvZeroCross h)⟩
  case windowComplete => exact ⟨_, rfl, faultSafe_iteSelf h fun _ => event (faultSafe_drvZeroCross h)⟩
  case elementOvercurrent | driveStuck | elementLow =>
    exact ⟨_, rfl, faultSafe_onlyWhen h (event (faultSafe_drvZeroCross h))⟩
  case mainsSuspend => exact ⟨_, rfl, faultSafe_iteSelf h fun _ => faultSafe_of_calm h (by simp)⟩
  case mainsAbsent => exact ⟨_, rfl, faultSafe_iteSelf h fun _ => event (faultSafe_drvMainsAbsent h)⟩
  case attemptBegin => exact ⟨_, rfl, faultSafe_bliAttempt h⟩
  case attemptLost => exact ⟨_, rfl, faultSafe_iteSelf h fun _ => h⟩
  case attemptComplete => exact ⟨_, rfl, event (faultSafe_bliComplete h)⟩
  case periodExpiry => exact ⟨_, rfl, faultSafe_iteSelf h fun _ => faultSafe_of_calm h (by simp)⟩
  case departureTimeout => exact ⟨_, rfl, faultSafe_bliDepartExpiry h⟩
  case frameReceived => exact ⟨_, rfl, event (faultSafe_bliReceive h)⟩
  case unreliable => exact ⟨_, rfl, faultSafe_onlyWhen h (event (faultSafe_bliReceive h))⟩
  case lineHeld => exact ⟨_, rfl, event (faultSafe_bliHeldExpiry h)⟩
  case lineIdle => exact ⟨_, rfl, event (faultSafe_of_calm h (by simp))⟩
  case silent => exact ⟨_, rfl, event (faultSafe_bliSilent h)⟩
  case peerLapsed => exact ⟨_, rfl, event (faultSafe_ptbLapse h)⟩
  case listenExpiry => exact ⟨_, rfl, event (faultSafe_shrListenExpiry h)⟩
  case claimSettle =>
    exact ⟨_, rfl, event (faultSafe_iteSelf h fun _ => faultSafe_of_calm h (by simp [shrSettle]))⟩
  case slotSettle => exact ⟨_, rfl, event (faultSafe_shrSlotExpiry h)⟩
  case slotBackoffExpiry => exact ⟨_, rfl, event (faultSafe_shrBackOffExpiry h)⟩

/-! ## A millisecond and a step -/

theorem faultSafe_takeDue {i : Instr} {s : State} (h : s.faultSafe) : (takeDue s i).faultSafe := by
  obtain ⟨t, hexec, ht⟩ := exec_faultSafe i h
  simpa only [takeDue, hexec] using faultSafe_iteSelf h fun _ => ht

/-- The rows of a millisecond, in whatever order the draws give them (log 3). -/
theorem faultSafe_foldl_takeDue (rows : List Instr) {s : State} (h : s.faultSafe) : (rows.foldl takeDue s).faultSafe := by
  induction rows generalizing s with
  | nil => exact h
  | cons i rows ih =>
    rw [List.foldl_cons]
    exact ih (faultSafe_takeDue h)

theorem faultSafe_draws {n : Nat} {s : State} (h : s.faultSafe) : ({ s with draws := n } : State).faultSafe := h

/-- Only timers, the line and the draws move with the millisecond itself. -/
theorem faultSafe_tick {s : State} (h : s.faultSafe) : (tick s).faultSafe := by
  have hmoved : (advanceMs s).faultSafe := h
  unfold tick
  simp only
  generalize advanceMs s = m at hmoved ⊢
  exact faultSafe_foldl_takeDue _ (faultSafe_draws hmoved)

theorem step_faultSafe {s t : State} (h : s.faultSafe) (hstep : step s = .next t) : t.faultSafe := by
  unfold step at hstep
  split at hstep
  · exact Host.Outcome.next.inj hstep ▸ faultSafe_tick h
  · next i rest _ =>
    obtain ⟨u, hexec, hu⟩ := exec_faultSafe i (s := s.setPending rest) h
    exact Host.Outcome.next.inj (hexec.symm.trans hstep) ▸ hu

/-- Settles O6: a trip notice ends in TRIPPED or IDLE, every other phase is entered only with no trip-class entry, and eighteen
codes make at most eighteen entries. -/
theorem faultLawKept : Obligations.FaultLawKept := by
  intro s t h hstep
  have ht := step_faultSafe h hstep
  exact ⟨ht, faults_length_le ht⟩

end Sys2Proof.Machine
end

section
/-! SUPPORT. The law of the event list (R177 to R179) under the shared operations: the list grows by records alone, and the
notice lines are set anew with it. -/

namespace Sys2Proof.Machine

/-! ## What the law reads, and the record (R177, R179) -/

/-- The law reads ALK alone. -/
theorem listSafe_of_alk {s t : State} (h : s.listSafe) (hsame : t.alk = s.alk) : t.listSafe := by
  have hkept : ({ s with alk := t.alk } : State).listSafe := by rwa [hsame]
  exact hkept

/-- Within ALK it reads the items in force, the list, the lost flag and the lines. -/
theorem listSafe_of_kept {s t : State} (h : s.listSafe) (hkept : t.alk.items = s.alk.items ∧
    t.alk.committed = s.alk.committed ∧ t.alk.events = s.alk.events ∧ t.alk.lost = s.alk.lost ∧
    t.alk.attn = s.alk.attn ∧ t.alk.alert = s.alk.alert) : t.listSafe := by
  obtain ⟨hlength, hlost, hattn, halert⟩ := h
  obtain ⟨hitems, hcommitted, hevents, hlostKept, hattnKept, halertKept⟩ := hkept
  refine ⟨by rwa [hevents], by rwa [hevents, hlostKept], ?_, ?_⟩
  · rw [hattnKept, hattn, State.attnDue_congr hitems hcommitted hevents]
  · rw [halertKept, halert, State.alertDue_congr hitems hcommitted hevents]

/-- With the lines set anew the law is one of the list and the lost flag. -/
theorem listSafe_alkLines {s : State} (hlength : s.alk.events.length ≤ 32)
    (hlost : s.alk.lost = true → s.alk.events ≠ []) : (alkLines s).listSafe := ⟨hlength, hlost, rfl, rfl⟩

/-- A choice between two operations that keep the law. -/
theorem listSafe_ite {c : Prop} [Decidable c] {t u : State} (ht : c → t.listSafe) (hu : ¬c → u.listSafe) :
    (if c then t else u).listSafe := by
  split_ifs with hc
  · exact ht hc
  · exact hu hc

/-- An operation taken under a condition, or nothing. -/
theorem listSafe_iteSelf {c : Prop} [Decidable c] {t s : State} (h : s.listSafe) (ht : c → t.listSafe) :
    (if c then t else s).listSafe := listSafe_ite ht fun _ => h

/-- A record finds room, or the lost flag is set beside a list that is full. -/
theorem listSafe_alkRecord {k : EventKind} {d : Half} {s : State} (h : s.listSafe) : (alkRecord k d s).listSafe := by
  refine listSafe_ite (fun _ => h) fun _ => listSafe_ite (fun hroom => ?_) fun hfull => ?_
  · exact listSafe_alkLines (by simpa using hroom) (by simp)
  · obtain ⟨hlength, -, hlines⟩ := h
    have hne : s.alk.events ≠ [] := by
      intro hnil
      simp [hnil] at hfull
    exact ⟨hlength, fun _ => hne, hlines⟩

theorem listSafe_prtGone {c : FaultCode} {s : State} (h : s.listSafe) : (prtGone c s).listSafe :=
  listSafe_iteSelf h fun _ => listSafe_alkRecord h

/-! ## MAIN, the lock state and the phase (R22, R45, R58, R96, R100) -/

theorem listSafe_drvLowGone {s : State} (h : s.listSafe) : (drvLowGone s).listSafe :=
  listSafe_iteSelf h fun _ => listSafe_prtGone h

theorem listSafe_drvMain {s : State} (h : s.listSafe) : (drvMain s).listSafe :=
  listSafe_ite (fun _ => h) fun _ => listSafe_iteSelf h fun _ => listSafe_drvLowGone h

theorem listSafe_lckRecord {s : State} (h : s.listSafe) : (lckRecord s).listSafe := listSafe_alkRecord h

theorem listSafe_lckSetState {st : LockState} {s : State} (h : s.listSafe) : (lckSetState st s).listSafe :=
  listSafe_ite (fun _ => h) fun _ => listSafe_drvMain (listSafe_lckRecord h)

theorem listSafe_lckSetJammed {v : Bool} {s : State} (h : s.listSafe) : (lckSetJammed v s).listSafe :=
  listSafe_ite (fun _ => h) fun _ => listSafe_drvMain (listSafe_lckRecord h)

theorem listSafe_lckTripped {s : State} (h : s.listSafe) : (lckTripped s).listSafe :=
  listSafe_iteSelf h fun _ => listSafe_lckSetJammed h

theorem listSafe_cycSetPhase {p : Phase} {s : State} (h : s.listSafe) : (cycSetPhase p s).listSafe := by
  have hrecorded : (alkRecord .phaseChange (detail p.code s.cyc.record.outcome.code)
      (s.modCyc fun c => { c with phase := p, abortPending := false })).listSafe := listSafe_alkRecord h
  exact listSafe_ite (fun _ => h) fun _ => listSafe_lckTripped (listSafe_of_alk hrecorded (by simp))

/-! ## The slot, and HEATING left (R10, R42, R149, R155) -/

theorem listSafe_shrSetSlot {st : SlotState} {s : State} (h : s.listSafe) : (shrSetSlot st s).listSafe :=
  listSafe_ite (fun _ => h) fun _ => listSafe_alkRecord (listSafe_of_alk h (by simp))

theorem listSafe_shrRelease {s : State} (h : s.listSafe) : (shrRelease s).listSafe := listSafe_shrSetSlot h

theorem listSafe_prfIdle {s : State} (h : s.listSafe) : (prfIdle s).listSafe := listSafe_prtGone (listSafe_prtGone h)

theorem listSafe_cycLeaveHeating {p : Phase} {s : State} (h : s.listSafe) : (cycLeaveHeating p s).listSafe := by
  have hidle : (prfIdle (cycSetPhase p s)).listSafe := listSafe_prfIdle (listSafe_cycSetPhase h)
  have hopen : (drvMain ((prfIdle (cycSetPhase p s)).modDrv fun d => { d with permitted := false })).listSafe :=
    listSafe_drvMain hidle
  exact listSafe_of_alk (listSafe_shrRelease hopen) (by simp [cycLeaveHeating])

/-! ## PRT's notices (R11, R12, R158 to R161) -/

theorem listSafe_cycTrip {c : FaultCode} {s : State} (h : s.listSafe) : (cycTrip c s).listSafe := by
  have hnote : (cycFirstFault c (cycOutcome .tripped s)).listSafe := h
  cases hp : s.cyc.phase <;> simp only [cycTrip, hp]
  case idle | tripped => exact h
  case heating => exact listSafe_cycLeaveHeating hnote
  case locking | cooling | unlocking | held => exact listSafe_cycSetPhase hnote

theorem listSafe_cycAbort {c : FaultCode} {s : State} (h : s.listSafe) : (cycAbort c s).listSafe := by
  have hnote : (cycOutcome .faultAborted (cycFirstFault c s)).listSafe := h
  cases hp : s.cyc.phase <;> simp only [cycAbort, hp]
  case idle | held => exact h
  case heating => exact listSafe_cycLeaveHeating hnote
  case locking | cooling | unlocking | tripped => exact h

theorem listSafe_cycComplete {s : State} (h : s.listSafe) : (cycComplete s).listSafe :=
  listSafe_iteSelf h fun _ => listSafe_cycLeaveHeating (s := cycOutcome .completed s) h

theorem listSafe_prtAction {c : FaultCode} {s : State} (h : s.listSafe) : (prtAction c s).listSafe := by
  cases hcls : c.cls <;> simp only [prtAction, hcls]
  case trip => exact listSafe_cycTrip (listSafe_drvMain h)
  case abort => exact listSafe_cycAbort h
  case degrade => exact h

theorem listSafe_prtRaise {c : FaultCode} {s : State} (h : s.listSafe) : (prtRaise c s).listSafe :=
  listSafe_ite (fun _ => h) fun _ => listSafe_prtAction (listSafe_alkRecord h)

/-! ## The ramp engine and the burn slot (R32, R39, R41, R149 to R155) -/

theorem listSafe_rampEnter {s : State} (h : s.listSafe) : (rampEnter s).listSafe := by
  cases hk : s.segment.kind <;> simp only [rampEnter, hk]
  case ramp | hold => exact listSafe_alkRecord h
  case endRec | code3 => exact listSafe_cycComplete h

theorem listSafe_prfGrant {s : State} (h : s.listSafe) : (prfGrant s).listSafe :=
  listSafe_ite (fun _ => listSafe_rampEnter (listSafe_alkRecord (listSafe_prtGone h))) fun _ => listSafe_shrRelease h

theorem listSafe_shrHold {s : State} (h : s.listSafe) : (shrHold s).listSafe := listSafe_prfGrant (listSafe_shrSetSlot h)

theorem listSafe_shrStatic {s : State} (h : s.listSafe) : (shrStatic s).listSafe :=
  listSafe_ite (fun _ => listSafe_shrHold h) fun _ => h

theorem listSafe_shrTakeRequest {s : State} (h : s.listSafe) : (shrTakeRequest s).listSafe := by
  cases hst : s.shr.state <;> simp only [shrTakeRequest, hst]
  case off => exact h
  case listening | fallback => exact listSafe_shrStatic h
  case sharing => exact listSafe_ite (fun _ => listSafe_shrSetSlot h) fun _ => h

theorem listSafe_rampBegin {i : Nat} {s : State} (h : s.listSafe) : (rampBegin i s).listSafe := by
  refine listSafe_ite (fun _ => ?_) fun _ =>
    listSafe_ite (fun _ => listSafe_rampEnter (listSafe_shrRelease h)) fun _ => listSafe_rampEnter h
  have hwaits : (alkRecord .slotWait (detail 0 i) ((s.modRamp fun r => { r with segIndex := i }).modRamp fun r =>
      { r with state := .waitingSlot, slotFlag := .requested, slotWait := 0 })).listSafe := listSafe_alkRecord h
  exact listSafe_iteSelf hwaits fun _ => listSafe_shrTakeRequest hwaits

/-! ## SHR's causes and fallback (R138, R140, R154, R156) -/

theorem listSafe_shrRecord {s : State} (h : s.listSafe) : (shrRecord s).listSafe := listSafe_alkRecord h

theorem listSafe_shrSlotFallback {s : State} (h : s.listSafe) : (shrSlotFallback s).listSafe := by
  cases hr : s.shr.request <;> simp only [shrSlotFallback, hr]
  case claiming => exact listSafe_shrStatic (listSafe_shrSetSlot h)
  case backingOff => exact listSafe_shrStatic h
  case none | waiting | granted => exact h

theorem listSafe_shrEnterFallback {s : State} (h : s.listSafe) : (shrEnterFallback s).listSafe :=
  listSafe_shrRecord (listSafe_shrSlotFallback (listSafe_of_alk h (by simp)))

theorem listSafe_shrAddCause {c : Cause} {s : State} (h : s.listSafe) : (shrAddCause c s).listSafe := by
  cases hst : s.shr.state <;> simp only [shrAddCause, hst]
  case off | fallback => exact h
  case listening | sharing => exact listSafe_ite (fun _ => listSafe_shrEnterFallback h) fun _ => h

theorem listSafe_shrRemoveCause {c : Cause} {s : State} (h : s.listSafe) : (shrRemoveCause c s).listSafe :=
  listSafe_ite (fun _ => listSafe_shrRecord (listSafe_of_alk h (by simp))) fun _ => h

end Sys2Proof.Machine
end

section
/-! SUPPORT. The law of the event list (R177 to R179) under the operations of LCK and CYC's part in them. -/

namespace Sys2Proof.Machine

/-! ## CYC's examinations and reports (R2, R6, R7, R13, R15, R47) -/

theorem listSafe_lckLostGone {s : State} (h : s.listSafe) : (lckLostGone s).listSafe :=
  listSafe_iteSelf h fun _ => listSafe_prtGone h

theorem listSafe_lckForcedGone {s : State} (h : s.listSafe) : (lckForcedGone s).listSafe :=
  listSafe_iteSelf h fun _ => listSafe_prtGone h

theorem listSafe_lckUnlock {s : State} (h : s.listSafe) : (lckUnlock s).listSafe :=
  listSafe_of_alk (listSafe_lckSetState (st := .unlocking) h) (by simp [lckUnlock])

theorem listSafe_cycCoolExam {s : State} (h : s.listSafe) : (cycCoolExam s).listSafe :=
  listSafe_iteSelf h fun _ => listSafe_cycSetPhase (listSafe_lckUnlock h)

theorem listSafe_unlockExam {s : State} (h : s.listSafe) : (unlockExam s).listSafe :=
  listSafe_cycCoolExam (listSafe_ite (fun _ => listSafe_lckLostGone h) fun _ => h)

/-- The unlock that CYC may ask for in TRIPPED records its change of the lock state (R13, R45). -/
theorem listSafe_takeEvent {f : State → State} {s : State} (h : (f s).listSafe) : (takeEvent f s).listSafe := by
  rcases takeEvent_cases f s with hsame | ⟨hunlock, -⟩
  · rwa [hsame]
  · rw [hunlock]
    exact listSafe_lckUnlock h

theorem listSafe_cycEnterHeating {s : State} (h : s.listSafe) : (cycEnterHeating s).listSafe := by
  have hmain : (drvMain ((cycSetPhase .heating s).modDrv fun d => { d with permitted := true })).listSafe :=
    listSafe_drvMain (listSafe_cycSetPhase h)
  exact listSafe_rampBegin hmain

theorem listSafe_cycLocked {s : State} (h : s.listSafe) : (cycLocked s).listSafe :=
  listSafe_iteSelf h fun _ => listSafe_ite (fun _ => listSafe_cycSetPhase (s := cycOutcome .aborted s) h) fun _ =>
    listSafe_cycEnterHeating h

theorem listSafe_cycLockFailure {engaged : Bool} {s : State} (h : s.listSafe) : (cycLockFailure engaged s).listSafe :=
  listSafe_iteSelf h fun _ =>
    listSafe_cycSetPhase (s := cycOutcome (if s.cyc.abortPending then .aborted else .lockFailed) s) h

theorem listSafe_cycUnlocked {s : State} (h : s.listSafe) : (cycUnlocked s).listSafe :=
  listSafe_iteSelf h fun _ => listSafe_cycSetPhase h

theorem listSafe_cycLatchReport {engaged : Bool} {s : State} (h : s.listSafe) : (cycLatchReport engaged s).listSafe := by
  refine listSafe_iteSelf h fun _ => ?_
  split
  · exact listSafe_cycSetPhase h
  · exact listSafe_cycSetPhase h

/-! ## The lock travel (R48 to R52) -/

theorem listSafe_lckFail {s : State} (h : s.listSafe) : (lckFail s).listSafe :=
  listSafe_cycLockFailure (listSafe_prtGone (listSafe_prtRaise h))

theorem listSafe_lckLock {s : State} (h : s.listSafe) : (lckLock s).listSafe :=
  listSafe_ite (fun _ => listSafe_of_alk (listSafe_lckSetState (st := .locking) h) (by simp)) fun _ => listSafe_lckFail h

theorem listSafe_lckEnterUnlocked {s : State} (h : s.listSafe) : (lckEnterUnlocked s).listSafe :=
  listSafe_lckTripped (listSafe_lckSetState h)

theorem listSafe_lckAttemptFailed {s : State} (h : s.listSafe) : (lckAttemptFailed s).listSafe :=
  listSafe_ite (fun _ => h) fun _ => listSafe_lckFail (listSafe_lckSetJammed (s := lckStop s) h)

theorem listSafe_lckReturnEnd {s : State} (h : s.listSafe) : (lckReturnEnd s).listSafe :=
  listSafe_ite (fun _ => listSafe_lckFail (listSafe_lckSetJammed (s := lckStop s) h)) fun _ =>
    listSafe_lckFail (listSafe_lckEnterUnlocked (s := lckStop s) h)

theorem listSafe_lckDoorOpened {s : State} (h : s.listSafe) : (lckDoorOpened s).listSafe :=
  listSafe_ite (fun _ => h) fun _ => listSafe_ite (fun _ => listSafe_lckFail (listSafe_lckSetJammed h)) fun _ =>
    listSafe_lckFail (listSafe_lckEnterUnlocked h)

/-! ## The unlock travel (R54, R55) -/

theorem listSafe_lckJamEnds {s : State} (h : s.listSafe) : (lckJamEnds s).listSafe :=
  listSafe_iteSelf h fun _ => listSafe_lckEnterUnlocked h

theorem listSafe_lckUnlockJam {s : State} (h : s.listSafe) : (lckUnlockJam s).listSafe := by
  have hjammed : (lckSetJammed s.latchEngaged (lckStop s)).listSafe := listSafe_lckSetJammed (s := lckStop s) h
  exact listSafe_lckJamEnds (listSafe_prtGone (listSafe_prtRaise hjammed))

theorem listSafe_lckUnlockFailed {s : State} (h : s.listSafe) : (lckUnlockFailed s).listSafe :=
  listSafe_ite (fun _ => h) fun _ => listSafe_lckUnlockJam h

theorem listSafe_lckUnlockDone {s : State} (h : s.listSafe) : (lckUnlockDone s).listSafe :=
  listSafe_cycUnlocked (listSafe_lckEnterUnlocked h)

/-! ## Supervision (R56 to R58) -/

theorem listSafe_lckLost {s : State} (h : s.listSafe) : (lckLost s).listSafe := by
  have hraised : (prtRaise .lockLost (s.modLck fun l => { l with lockLostPresent := true })).listSafe :=
    listSafe_prtRaise h
  have hjam := listSafe_lckJamEnds (listSafe_lckSetJammed (v := false) hraised)
  exact listSafe_iteSelf hjam fun _ => listSafe_lckLostGone hjam

theorem listSafe_lckForced {s : State} (h : s.listSafe) : (lckForced s).listSafe := by
  have hraised : (prtRaise .doorForced (s.modLck fun l => { l with doorForcedPresent := true })).listSafe :=
    listSafe_prtRaise h
  exact listSafe_iteSelf hraised fun _ => listSafe_lckSetJammed hraised

theorem listSafe_lckLatchEngaged {s : State} (h : s.listSafe) : (lckLatchEngaged s).listSafe := by
  have hgone := listSafe_lckLostGone h
  exact listSafe_ite (fun _ => hgone) fun _ =>
    listSafe_ite (fun _ => listSafe_lckSetJammed hgone) fun _ => listSafe_lckTripped hgone

theorem listSafe_lckLatchFree {s : State} (h : s.listSafe) : (lckLatchFree s).listSafe := by
  have hgone := listSafe_lckForcedGone h
  unfold lckLatchFree
  simp only
  generalize lckForcedGone s = m at hgone ⊢
  split
  case h_1 => exact listSafe_lckAttemptFailed (s := lckStop m) hgone
  case h_2 | h_3 => exact hgone
  all_goals exact listSafe_iteSelf hgone fun _ => listSafe_lckLost hgone

theorem listSafe_lckDoorOpens {s : State} (h : s.listSafe) : (lckDoorOpens s).listSafe :=
  listSafe_ite (fun _ => listSafe_ite (fun _ => h) fun _ => listSafe_lckDoorOpened h) fun _ =>
    listSafe_ite (fun _ => listSafe_lckForced h) fun _ => listSafe_lckJamEnds h

/-! ## Start-up and the debounced values (R2, R43, R44) -/

theorem listSafe_lckStartUp {engaged : Bool} {s : State} (h : s.listSafe) : (lckStartUp engaged s).listSafe :=
  listSafe_cycLatchReport (listSafe_drvMain (listSafe_lckRecord h))

theorem listSafe_lckActs {sw : SwitchId} {level : Bool} {s : State} (h : s.listSafe) : (lckActs sw level s).listSafe := by
  cases sw
  case latch =>
    exact listSafe_ite (fun _ => listSafe_lckStartUp h) fun _ =>
      listSafe_ite (fun _ => listSafe_lckLatchEngaged h) fun _ => listSafe_lckLatchFree h
  case door =>
    cases level
    case false => exact listSafe_ite (fun _ => h) fun _ => listSafe_lckDoorOpens h
    case true => exact listSafe_ite (fun _ => h) fun _ => listSafe_lckForcedGone h

theorem listSafe_lckDebounced {sw : SwitchId} {level : Bool} {s : State} (h : s.listSafe) :
    (lckDebounced sw level s).listSafe :=
  listSafe_ite (fun _ => h) fun _ => listSafe_lckActs h

/-! ## The rows of LCK (R43, R49 to R55) -/

theorem listSafe_lckMeet {s : State} (h : s.listSafe) : (lckMeet s).listSafe :=
  listSafe_iteSelf h fun _ => listSafe_ite (fun _ => listSafe_lckLostGone h) fun _ => listSafe_lckForcedGone h

theorem listSafe_lckDriveExpiry {s : State} (h : s.listSafe) : (lckDriveExpiry s).listSafe :=
  listSafe_iteSelf h fun _ => listSafe_lckAttemptFailed (s := lckStop (lckMeet s)) (listSafe_lckMeet h)

theorem listSafe_lckSeatEnd {s : State} (h : s.listSafe) : (lckSeatEnd s).listSafe :=
  listSafe_iteSelf h fun _ => listSafe_ite (fun _ => listSafe_cycLocked (listSafe_lckSetState h)) fun _ =>
    listSafe_lckAttemptFailed (s := lckStop s) h

theorem listSafe_lckRetry {dir : Nat} {s : State} (h : s.listSafe) : (lckRetry dir s).listSafe := listSafe_alkRecord h

theorem listSafe_lckUnlockExpiry {s : State} (h : s.listSafe) : (lckUnlockExpiry s).listSafe := by
  have hmeet := listSafe_lckMeet h
  unfold lckUnlockExpiry
  split
  case h_1 => exact listSafe_lckUnlockFailed (s := lckStop (lckMeet s)) hmeet
  case h_2 | h_3 => exact listSafe_lckReturnEnd hmeet
  all_goals exact h

theorem listSafe_lckClearanceEnd {s : State} (h : s.listSafe) : (lckClearanceEnd s).listSafe := by
  unfold lckClearanceEnd
  split
  case h_1 => exact listSafe_lckUnlockDone h
  case h_2 => exact listSafe_lckReturnEnd h
  all_goals exact h

theorem listSafe_lckUnlockPause {s : State} (h : s.listSafe) : (lckUnlockPause s).listSafe :=
  listSafe_iteSelf h fun _ => listSafe_ite (fun _ => listSafe_of_alk (listSafe_lckRetry (dir := 1) h) (by simp)) fun _ =>
    listSafe_lckUnlockJam h

end Sys2Proof.Machine
end

section
/-! SUPPORT. The law of the event list (R177 to R179) under the operations of TMS, DRV, BLI, PTB and SHR. -/

namespace Sys2Proof.Machine

/-! ## TMS and the checks of a period (R60 to R70, R164) -/

theorem listSafe_tmsCeiling {s : State} (h : s.listSafe) : (tmsCeiling s).listSafe := by
  refine listSafe_iteSelf h fun _ => ?_
  split
  · exact h
  · exact listSafe_ite (fun _ => listSafe_ite (fun _ => h) fun _ => listSafe_prtRaise h) fun _ =>
      listSafe_iteSelf h fun _ => listSafe_prtGone h

theorem listSafe_tmsNew {ch : Channel} {s : State} (h : s.listSafe) : (tmsNew ch s).listSafe := by
  cases ch
  case a => exact listSafe_tmsCeiling (listSafe_unlockExam (listSafe_of_alk h (by simp)))
  case b => exact listSafe_tmsCeiling (listSafe_unlockExam h)
  case l => exact listSafe_iteSelf (s := tmsOverride s) h fun _ => listSafe_prtGone h

theorem listSafe_tmsStanding {ch : Channel} {s : State} (h : s.listSafe) : (tmsStanding ch s).listSafe := by
  cases ch
  case a | b => exact listSafe_tmsCeiling (listSafe_unlockExam (listSafe_of_alk h (by simp)))
  case l => exact h

theorem listSafe_tmsFail {ch : Channel} {s : State} (h : s.listSafe) : (tmsFail ch s).listSafe :=
  listSafe_tmsStanding (listSafe_prtRaise (listSafe_of_alk h (by simp)))

theorem listSafe_tmsRecover {ch : Channel} {s : State} (h : s.listSafe) : (tmsRecover ch s).listSafe :=
  listSafe_tmsNew (listSafe_tmsStanding (listSafe_prtGone h))

theorem listSafe_tmsValid {ch : Channel} {raw : Int} {s : State} (h : s.listSafe) : (tmsValid ch raw s).listSafe :=
  listSafe_tmsNew (listSafe_ite (fun _ => h) fun _ => listSafe_tmsStanding h)

theorem listSafe_tmsInvalid {ch : Channel} {s : State} (h : s.listSafe) : (tmsInvalid ch s).listSafe :=
  listSafe_ite (fun _ => h) fun _ => listSafe_tmsFail h

theorem listSafe_tmsFailedValid {ch : Channel} {raw : Int} {s : State} (h : s.listSafe) :
    (tmsFailedValid ch raw s).listSafe :=
  listSafe_ite (fun _ => h) fun _ => listSafe_tmsRecover h

theorem listSafe_tmsReading {ch : Channel} {raw : Int} {s : State} (h : s.listSafe) : (tmsReading ch raw s).listSafe := by
  have hlatest : (tmsLatest ch raw s).listSafe := h
  unfold tmsReading
  simp only
  generalize tmsLatest ch raw s = m at hlatest ⊢
  split
  case h_1 => exact listSafe_tmsValid hlatest
  case h_2 | h_3 => exact listSafe_tmsInvalid hlatest
  case h_4 => exact listSafe_tmsFailedValid hlatest
  case h_5 | h_6 => exact hlatest

theorem listSafe_tmsPair {s : State} (h : s.listSafe) : (tmsPair s).listSafe := by
  have hcounts : (tmsCounts s).listSafe := listSafe_of_alk h (by simp)
  exact listSafe_iteSelf h fun _ => listSafe_ite (fun _ => listSafe_prtRaise hcounts) fun _ =>
    listSafe_iteSelf hcounts fun _ => listSafe_prtGone hcounts

theorem listSafe_tmsHot {s : State} (h : s.listSafe) : (tmsHot s).listSafe :=
  listSafe_iteSelf h fun _ => listSafe_ite (fun _ => listSafe_prtRaise h) fun _ => h

theorem listSafe_tmsComplete {ch : Channel} {raw : Int} {s : State} (h : s.listSafe) : (tmsComplete ch raw s).listSafe := by
  refine listSafe_iteSelf h fun _ => ?_
  have hreading : (tmsReading ch raw (s.modTms fun t => { t with due := nextDue ch })).listSafe := listSafe_tmsReading h
  cases ch
  case a => exact hreading
  case b => exact listSafe_tmsPair hreading
  case l => exact listSafe_tmsHot hreading

theorem listSafe_prtSecond {s : State} (h : s.listSafe) : (prtSecond s).listSafe :=
  listSafe_iteSelf h fun _ => listSafe_ite (fun _ => h) fun _ => listSafe_unlockExam h

/-! ## DRV (R91 to R103) -/

theorem listSafe_drvOverCheck {measured expected : Nat} {s : State} (h : s.listSafe) :
    (drvOverCheck measured expected s).listSafe :=
  listSafe_ite (fun _ => listSafe_ite (fun _ => listSafe_prtGone h) fun _ => h) fun _ =>
    listSafe_ite (fun _ => listSafe_ite (fun _ => listSafe_prtRaise h) fun _ => h) fun _ =>
      listSafe_ite (fun _ => listSafe_prtGone h) fun _ => h

theorem listSafe_drvStuckCheck {measured : Nat} {s : State} (h : s.listSafe) : (drvStuckCheck measured s).listSafe := by
  have hgone : (if s.drv.stuckPresent ∧ measured ≤ 10 then
      prtGone .driveStuck (s.modDrv fun d => { d with stuckPresent := false }) else s).listSafe :=
    listSafe_iteSelf h fun _ => listSafe_prtGone h
  unfold drvStuckCheck
  dsimp only
  generalize (if s.drv.stuckPresent ∧ measured ≤ 10 then _ else s) = m at hgone ⊢
  exact listSafe_iteSelf hgone fun _ =>
    listSafe_ite (fun _ => listSafe_ite (fun _ => listSafe_prtRaise hgone) fun _ => hgone) fun _ => hgone

theorem listSafe_drvLowCheck {measured expected : Nat} {s : State} (h : s.listSafe) :
    (drvLowCheck measured expected s).listSafe :=
  listSafe_iteSelf h fun _ => listSafe_ite (fun _ => listSafe_ite (fun _ => listSafe_prtRaise h) fun _ => h) fun _ =>
    listSafe_drvLowGone h

theorem listSafe_drvComplete {s : State} (h : s.listSafe) : (drvComplete s).listSafe :=
  listSafe_drvLowCheck (listSafe_drvStuckCheck (listSafe_drvOverCheck h))

theorem listSafe_drvBoundary {sample : Nat} {s : State} (h : s.listSafe) : (drvBoundary sample s).listSafe := by
  refine listSafe_ite (fun _ => ?_) fun _ => listSafe_ite (fun _ => h) fun _ => h
  exact listSafe_of_alk (listSafe_drvComplete (s := s.modDrv fun d => { d with sampleSum := d.sampleSum + sample }) h)
    (by simp)

theorem listSafe_drvZeroCross {sample : Nat} {s : State} (h : s.listSafe) : (drvZeroCross sample s).listSafe := by
  have hback : (drvMainsBack (s.modDrv fun d => { d with absence := 0, mainsTimer := none, state := .running })).listSafe :=
    listSafe_iteSelf h fun _ => listSafe_prtGone h
  exact listSafe_ite (fun _ => listSafe_drvBoundary hback) fun _ => listSafe_of_alk hback (by simp)

theorem listSafe_drvMainsAbsent {s : State} (h : s.listSafe) : (drvMainsAbsent s).listSafe :=
  listSafe_ite (fun _ => listSafe_prtAction h) fun _ => listSafe_prtRaise h

/-! ## BLI and PTB (R105 to R135) -/

theorem listSafe_lineRecord {cond : Nat} {standing : Bool} {s : State} (h : s.listSafe) :
    (lineRecord cond standing s).listSafe := listSafe_alkRecord h

theorem listSafe_bliReliability {s : State} (h : s.listSafe) : (bliReliability s).listSafe :=
  listSafe_ite (fun _ => listSafe_shrAddCause (listSafe_lineRecord h)) fun _ =>
    listSafe_iteSelf h fun _ => listSafe_shrRemoveCause (listSafe_lineRecord h)

theorem listSafe_bliGood {s : State} (h : s.listSafe) : (bliGood s).listSafe := by
  have hreliable : (bliReliability (s.modBli fun b => { b with errors := b.errors - 1 })).listSafe :=
    listSafe_bliReliability h
  exact listSafe_ite (fun _ => listSafe_shrRemoveCause (listSafe_lineRecord hreliable)) fun _ => hreliable

theorem listSafe_bliConflict {s : State} (h : s.listSafe) : (bliConflict s).listSafe :=
  listSafe_ite (fun _ => h) fun _ => listSafe_shrAddCause (listSafe_prtRaise h)

/-- A departure's report changes no more of ALK than the reset that waits (R115, R176). -/
theorem listSafe_alkDeparture {d : Departure} {s : State} (h : s.listSafe) : (alkDeparture d s).listSafe := h

theorem listSafe_bliStuck {s : State} (h : s.listSafe) : (bliStuck s).listSafe :=
  listSafe_shrAddCause (listSafe_prtRaise (listSafe_alkDeparture h))

theorem listSafe_bliHeld {s : State} (h : s.listSafe) : (bliHeld s).listSafe :=
  listSafe_ite (fun _ => h) fun _ => listSafe_shrAddCause (listSafe_lineRecord h)

theorem listSafe_bliHeldExpiry {own : Bool} {s : State} (h : s.listSafe) : (bliHeldExpiry own s).listSafe :=
  listSafe_ite (fun _ => listSafe_ite (fun _ => h) fun _ => listSafe_bliStuck h) fun _ => listSafe_bliHeld h

theorem listSafe_bliIdle {s : State} (h : s.listSafe) : (bliIdle s).listSafe :=
  listSafe_ite (fun _ => listSafe_shrRemoveCause (listSafe_lineRecord h)) fun _ => h

theorem listSafe_bliSilent {s : State} (h : s.listSafe) : (bliSilent s).listSafe :=
  listSafe_iteSelf h fun _ => listSafe_shrAddCause (listSafe_lineRecord h)

theorem listSafe_ptbSignal {s : State} (h : s.listSafe) : (ptbSignal s).listSafe := listSafe_of_alk h (by simp)

theorem listSafe_ptbRemove {cause station : Nat} {s : State} (h : s.listSafe) : (ptbRemove cause station s).listSafe := by
  have hremoved : (alkRecord .peerRemoved (detail cause station)
      (ptbSet (removePeer station s.ptb.records) s)).listSafe := listSafe_alkRecord h
  have hsignalled := listSafe_ptbSignal hremoved
  exact listSafe_iteSelf hsignalled fun _ => listSafe_shrRemoveCause (listSafe_alkRecord hsignalled)

theorem listSafe_ptbUpdate {old : Peer} {f : Frame} {s : State} (h : s.listSafe) : (ptbUpdate old f s).listSafe :=
  listSafe_ptbSignal (listSafe_ite (fun _ => listSafe_alkRecord h) fun _ => h)

theorem listSafe_ptbInsert {f : Frame} {s : State} (h : s.listSafe) : (ptbInsert f s).listSafe :=
  listSafe_ite (fun _ => listSafe_ptbSignal (listSafe_alkRecord h)) fun _ =>
    listSafe_ite (fun _ => h) fun _ => listSafe_shrAddCause (listSafe_alkRecord h)

theorem listSafe_ptbTake {f : Frame} {s : State} (h : s.listSafe) : (ptbTake f s).listSafe := by
  refine listSafe_iteSelf h fun _ => ?_
  split
  · exact listSafe_ptbRemove h
  · exact h
  · exact listSafe_ptbUpdate h
  · exact listSafe_ptbInsert h

theorem listSafe_bliGoodFrame {f : Frame} {s : State} (h : s.listSafe) : (bliGoodFrame f s).listSafe :=
  listSafe_ite (fun _ => h) fun _ =>
    listSafe_ite (fun _ => listSafe_bliConflict (listSafe_bliGood h)) fun _ => listSafe_ptbTake (listSafe_bliGood h)

theorem listSafe_bliReceive {nbits : Nat} {bits : BitVec 64} {s : State} (h : s.listSafe) :
    (bliReceive nbits bits s).listSafe := by
  have hclassed : (bliClassed (classify nbits bits) s).listSafe := by
    cases classify nbits bits
    case good => exact listSafe_bliGoodFrame h
    case cutShort | checkFailed | invalidCode => exact listSafe_bliReliability h
  exact hclassed

/-- A completed attempt ends a departure at most (R113, R115). -/
theorem listSafe_bliSucceed {a : Attempt} {s : State} (h : s.listSafe) : (bliSucceed a s).listSafe :=
  listSafe_of_kept h (by unfold bliSucceed; dsimp only; split_ifs <;> simp [bliDepartSent, alkDeparture])

theorem listSafe_bliComplete {s : State} (h : s.listSafe) : (bliComplete s).listSafe := by
  unfold bliComplete
  split
  · exact listSafe_bliSucceed h
  · exact h

theorem listSafe_bliAttempt {s : State} (h : s.listSafe) : (bliAttempt s).listSafe := by
  unfold bliAttempt
  split
  · exact listSafe_iteSelf h fun _ => h
  · exact h

theorem listSafe_bliDepartExpiry {s : State} (h : s.listSafe) : (bliDepartExpiry s).listSafe := by
  have hcut : (bliCutOff s).listSafe := listSafe_ite (fun _ => h) fun _ => h
  exact listSafe_iteSelf h fun _ => listSafe_alkDeparture hcut

theorem listSafe_ptbLapse {station : Nat} {s : State} (h : s.listSafe) : (ptbLapse station s).listSafe := by
  unfold ptbLapse
  split
  · exact h
  · split
    · exact h
    · exact listSafe_ptbSignal (listSafe_alkRecord h)

/-! ## SHR's timers (R139, R146, R151, R152) -/

theorem listSafe_shrEvaluate {s : State} (h : s.listSafe) : (shrEvaluate s).listSafe := listSafe_of_alk h (by simp)

theorem listSafe_shrListenExpiry {s : State} (h : s.listSafe) : (shrListenExpiry s).listSafe := by
  have hrecorded : (shrRecord (s.modShr fun u => { u with state := .sharing, listenTimer := none })).listSafe :=
    listSafe_shrRecord h
  have hshares := listSafe_shrEvaluate hrecorded
  exact listSafe_iteSelf h fun _ => listSafe_iteSelf hshares fun _ => listSafe_shrTakeRequest hshares

theorem listSafe_shrClaimExpiry {s : State} (h : s.listSafe) : (shrClaimExpiry s).listSafe :=
  listSafe_iteSelf h fun _ => listSafe_of_alk h (by simp [shrSettle])

theorem listSafe_shrSlotExpiry {s : State} (h : s.listSafe) : (shrSlotExpiry s).listSafe :=
  listSafe_iteSelf h fun _ => listSafe_ite (fun _ => listSafe_shrHold h) fun _ =>
    listSafe_of_alk (listSafe_shrSetSlot (st := .none) h) (by simp)

theorem listSafe_shrBackOffExpiry {s : State} (h : s.listSafe) : (shrBackOffExpiry s).listSafe :=
  listSafe_iteSelf h fun _ => listSafe_shrTakeRequest h

end Sys2Proof.Machine
end

section
/-! CERTIFICATE. The law of the event list (R177 to R179) under the rows of the table, a millisecond and a step. -/

namespace Sys2Proof.Machine

/-! ## The link commands (R4 to R8, R16, R17, R172 to R178) -/

theorem listSafe_linkOpen {params : Nat} {s : State} (h : s.listSafe) : (linkOpen params s).listSafe :=
  listSafe_of_kept h (by simp)

theorem listSafe_linkAnswer {c : ResultCode} {bytes : List Byte} {s : State} (h : s.listSafe) :
    (linkAnswer c bytes s).listSafe := h

/-- A command keeps the law where its effect does; a refused one has none (R172). -/
theorem listSafe_linkCommand {params n : Nat} {f : State → State} {s : State} (h : s.listSafe)
    (hf : ∀ t : State, t.listSafe → (f t).listSafe) : (linkCommand params n f s).listSafe :=
  listSafe_ite (fun _ => listSafe_linkAnswer (listSafe_linkOpen h)) fun _ => hf _ (listSafe_linkOpen h)

theorem routing_of_uncommitted {s : State} (hc : ¬ s.alk.committed = true) (c : EventClass) :
    s.routing c = c.route.default := by
  simp [State.routing, State.cfg, hc]

/-- Before commit the routing in force is the default, whatever is stored (R173, R177). -/
theorem listSafe_storeItem {i : Item} {v : Nat} {s : State} (h : s.listSafe) (hc : ¬ s.alk.committed = true) :
    (storeItem i v s).listSafe := by
  have hrouting (c : EventClass) : (storeItem i v s).routing c = s.routing c := by
    rw [routing_of_uncommitted hc, routing_of_uncommitted (s := storeItem i v s) hc]
  obtain ⟨hlength, hlost, hattn, halert⟩ := h
  refine ⟨hlength, hlost, ?_, ?_⟩
  · simp only [State.attnDue, hrouting]
    exact hattn
  · simp only [State.alertDue, hrouting]
    exact halert

theorem listSafe_configPut {item : Byte} {value : Half} {s : State} (h : s.listSafe) :
    (configPut item value s).listSafe := by
  unfold configPut
  split
  · exact h
  · exact listSafe_ite (fun _ => h) fun hc => listSafe_storeItem h hc

/-- The commit brings the stored routing into force and sets the lines anew by it (R175, R179). -/
theorem listSafe_frozen {s : State} (h : s.listSafe) :
    (alkLines (s.modAlk fun a => { a with committed := true })).listSafe := by
  obtain ⟨hlength, hlost, -⟩ := h
  exact listSafe_alkLines hlength hlost

theorem listSafe_shrCommit {s : State} (h : s.listSafe) : (shrCommit s).listSafe :=
  listSafe_ite (fun _ => listSafe_shrRecord h) fun _ => listSafe_shrEnterFallback (listSafe_shrRecord h)

theorem listSafe_cycCommit {s : State} (h : s.listSafe) : (cycCommit s).listSafe :=
  listSafe_iteSelf h fun _ => listSafe_cycSetPhase (s := cycClearRecord .interrupted s) h

theorem listSafe_commitAll {s : State} (h : s.listSafe) : (commitAll s).listSafe := by
  have hbli : (bliCommit (alkLines (s.modAlk fun a => { a with committed := true }))).listSafe :=
    listSafe_of_alk (listSafe_frozen h) (by simp)
  have hexam := listSafe_unlockExam (listSafe_tmsCeiling (listSafe_cycCommit (listSafe_shrCommit hbli)))
  unfold commitAll
  simp only
  exact listSafe_alkRecord hexam

theorem listSafe_configCommit {s : State} (h : s.listSafe) : (configCommit s).listSafe := by
  refine listSafe_ite (fun _ => h) fun _ => ?_
  split
  · exact h
  · exact listSafe_linkAnswer (listSafe_commitAll h)

theorem listSafe_profileSeek {index mode : Byte} {s : State} (h : s.listSafe) : (profileSeek index mode s).listSafe := by
  unfold profileSeek
  split
  · exact h
  · exact listSafe_ite (fun _ => h) fun _ => h

theorem listSafe_profilePut {word : Half} {s : State} (h : s.listSafe) : (profilePut word s).listSafe :=
  listSafe_ite (fun _ => h) fun _ => listSafe_ite (fun _ => h) fun _ => listSafe_ite (fun _ => h) fun _ =>
    listSafe_linkAnswer (listSafe_of_alk h (by simp))

theorem listSafe_profileGet {s : State} (h : s.listSafe) : (profileGet s).listSafe :=
  listSafe_ite (fun _ => h) fun _ => listSafe_ite (fun _ => h) fun _ => h

theorem listSafe_startCycle {s : State} (h : s.listSafe) : (startCycle s).listSafe := by
  unfold startCycle
  split
  · exact h
  · exact listSafe_linkAnswer (listSafe_lckLock (listSafe_cycSetPhase (s := cycClearRecord .none s) h))

theorem listSafe_abortCycle {s : State} (h : s.listSafe) : (abortCycle s).listSafe := by
  cases hp : s.cyc.phase <;> simp only [abortCycle, hp]
  case heating => exact listSafe_linkAnswer (listSafe_cycLeaveHeating (s := cycOutcome .aborted s) h)
  case locking | idle | cooling | tripped | unlocking | held => exact h

/-- A row of removals is a row of records (R166). -/
theorem listSafe_foldl_alkRecord {k : EventKind} {d : FaultEntry → Half} (l : List FaultEntry) {s : State}
    (h : s.listSafe) : (l.foldl (fun t e => alkRecord k (d e) t) s).listSafe := by
  induction l generalizing s with
  | nil => exact h
  | cons e l ih =>
    rw [List.foldl_cons]
    exact ih (listSafe_alkRecord h)

theorem listSafe_prtRemove {classes : List FaultClass} {s : State} (h : s.listSafe) : (prtRemove classes s).listSafe :=
  listSafe_drvMain (listSafe_foldl_alkRecord _ h)

theorem listSafe_cycMoveOn {s : State} (h : s.listSafe) : (cycMoveOn s).listSafe :=
  listSafe_ite (fun _ => listSafe_ite (fun _ => listSafe_cycSetPhase (listSafe_lckUnlock h)) fun _ =>
    listSafe_cycSetPhase h) fun _ => listSafe_cycSetPhase h

theorem listSafe_clearFaults {s : State} (h : s.listSafe) : (clearFaults s).listSafe :=
  listSafe_ite (fun _ => listSafe_ite (fun _ => h) fun _ => listSafe_ite (fun _ => h) fun _ =>
    listSafe_linkAnswer (listSafe_cycMoveOn (listSafe_prtRemove h))) fun _ => listSafe_linkAnswer (listSafe_prtRemove h)

/-- The oldest record leaves the list, and the lost flag with the last one (R178). -/
theorem listSafe_alkRemove {e : EventRec} {rest : List EventRec} {s : State} (h : s.listSafe)
    (hevents : s.alk.events = e :: rest) : (alkRemove rest s).listSafe := by
  obtain ⟨hlength, -⟩ := h
  rw [hevents, List.length_cons] at hlength
  refine listSafe_alkLines (Nat.le_of_succ_le hlength) fun hlost hnil => ?_
  have hrest : rest = [] := hnil
  simp [hrest] at hlost

theorem listSafe_eventRead {s : State} (h : s.listSafe) : (eventRead s).listSafe := by
  unfold eventRead
  split
  · exact h
  · next hevents => exact listSafe_linkAnswer (listSafe_alkRemove h hevents)

theorem listSafe_peerForget {station : Byte} {s : State} (h : s.listSafe) : (peerForget station s).listSafe := by
  refine listSafe_ite (fun _ => h) fun _ => ?_
  split
  · exact h
  · split
    · exact h
    · exact listSafe_linkAnswer (listSafe_ptbRemove h)

theorem listSafe_stationReset {s : State} (h : s.listSafe) : (stationReset s).listSafe := by
  refine listSafe_ite (fun _ => listSafe_linkAnswer ?_) fun _ => h
  rw [alkScheduleReset_apart]
  exact h

/-- A reset leaves POWER_UP alone in the list, which the default routing carries to ATTN (R177, R180). -/
theorem listSafe_resetAll (cause : ResetCause) (s : State) : (resetAll cause s).listSafe :=
  ⟨by simp [resetAll, Alk.reset], by simp [resetAll, Alk.reset], rfl, rfl⟩

theorem listSafe_stationResetDone {s : State} (h : s.listSafe) : (stationResetDone s).listSafe := by
  unfold stationResetDone
  split
  · exact listSafe_resetAll _ s
  · exact h

/-! ## The seconds, the ramp engine and the regulator (R14, R30 to R42, R75 to R88) -/

theorem listSafe_cycSecond {s : State} (h : s.listSafe) : (cycSecond s).listSafe :=
  listSafe_ite (fun _ => listSafe_alkRecord h) fun _ => h

theorem listSafe_rampJudge {s : State} (h : s.listSafe) : (rampJudge s).listSafe :=
  listSafe_ite (fun _ => listSafe_rampBegin (listSafe_prtGone h)) fun _ => listSafe_iteSelf h fun _ => listSafe_prtRaise h

theorem listSafe_holdJudge {s : State} (h : s.listSafe) : (holdJudge s).listSafe :=
  listSafe_ite (fun _ => listSafe_alkRecord h) fun _ => listSafe_iteSelf h fun _ => listSafe_rampBegin h

theorem listSafe_rampStep {s : State} (h : s.listSafe) : (rampStep s).listSafe := by
  have hrearm : (rampRearm s).listSafe := h
  have htime : (rampTime (rampRearm s)).listSafe := listSafe_iteSelf hrearm fun _ => hrearm
  cases hr : s.ramp.state <;> simp only [rampStep, hr]
  case idle | finished => exact h
  case ramping => exact listSafe_rampJudge (listSafe_ite (fun _ => htime) fun _ => htime)
  case holding => exact listSafe_holdJudge htime
  case waitingSlot => exact listSafe_ite (fun _ => listSafe_prtRaise hrearm) fun _ => hrearm

theorem listSafe_regEvaluate {s : State} (h : s.listSafe) : (regEvaluate s).listSafe :=
  listSafe_of_alk h (by simp [regEvaluate, regSet])

theorem listSafe_regCoolExpiry {s : State} (h : s.listSafe) : (regCoolExpiry s).listSafe :=
  listSafe_of_alk h (by simp [regCoolExpiry])

/-! ## Every row of the table -/

theorem listSafe_onlyWhen {p : State → State → Bool} {f : State → State} {s : State} (h : s.listSafe)
    (hf : (f s).listSafe) : (onlyWhen p f s).listSafe := listSafe_iteSelf h fun _ => hf

/-- Each row of the table keeps the law of the event list. -/
theorem exec_listSafe (i : Instr) {s : State} (h : s.listSafe) : ∃ t, exec i s = .next t ∧ t.listSafe := by
  have event {f : State → State} (hf : (f s).listSafe) : (takeEvent f s).listSafe := listSafe_takeEvent hf
  have command {params n : Nat} {f : State → State} (hf : ∀ t : State, t.listSafe → (f t).listSafe) :
      (linkCommand params n f s).listSafe := listSafe_linkCommand h hf
  cases i
  case powerOnReset | resetn => exact ⟨_, rfl, listSafe_resetAll _ s⟩
  case readStatus | readTemps | readShare | readPeer | readCycle | readFaults | configGet | badCommand =>
    exact ⟨_, rfl, listSafe_linkAnswer (listSafe_linkOpen h)⟩
  case configPut => exact ⟨_, rfl, command fun _ => listSafe_configPut⟩
  case configCommit => exact ⟨_, rfl, event (command fun _ => listSafe_configCommit)⟩
  case profileSeek => exact ⟨_, rfl, command fun _ => listSafe_profileSeek⟩
  case profilePut => exact ⟨_, rfl, command fun _ => listSafe_profilePut⟩
  case profileGet => exact ⟨_, rfl, listSafe_profileGet (listSafe_linkOpen h)⟩
  case start => exact ⟨_, rfl, event (command fun _ => listSafe_startCycle)⟩
  case abort => exact ⟨_, rfl, event (command fun _ => listSafe_abortCycle)⟩
  case clear => exact ⟨_, rfl, event (command fun _ => listSafe_clearFaults)⟩
  case eventRead => exact ⟨_, rfl, listSafe_eventRead (listSafe_linkOpen h)⟩
  case peerForget => exact ⟨_, rfl, event (command fun _ => listSafe_peerForget)⟩
  case stationReset => exact ⟨_, rfl, command fun _ => listSafe_stationReset⟩
  case stationResetDone => exact ⟨_, rfl, listSafe_stationResetDone h⟩
  case csnRise => exact ⟨_, rfl, listSafe_of_kept h (by simp)⟩
  case secondsTick | glitch => exact ⟨_, rfl, h⟩
  case cycleSecond => exact ⟨_, rfl, listSafe_cycSecond h⟩
  case coolSlow => exact ⟨_, rfl, listSafe_onlyWhen h (listSafe_cycSecond h)⟩
  case rampStep => exact ⟨_, rfl, event (listSafe_rampStep h)⟩
  case holdComplete | segmentRestart | heatTimeout | slotTimeout =>
    exact ⟨_, rfl, listSafe_iteSelf h fun _ => event (listSafe_rampStep h)⟩
  case heatingEvaluation => exact ⟨_, rfl, listSafe_iteSelf h fun _ => event (listSafe_regEvaluate h)⟩
  case coolingRuleExpiry => exact ⟨_, rfl, listSafe_iteSelf h fun _ => listSafe_regCoolExpiry h⟩
  case switchEdge => exact ⟨_, rfl, listSafe_ite (fun _ => h) fun _ => h⟩
  case switchDebounced => exact ⟨_, rfl, event (listSafe_lckDebounced h)⟩
  case lockDriveExpiry => exact ⟨_, rfl, event (listSafe_lckDriveExpiry h)⟩
  case seatEnd => exact ⟨_, rfl, event (listSafe_lckSeatEnd h)⟩
  case lockBackDriveEnd | unlockBackDriveEnd => exact ⟨_, rfl, listSafe_iteSelf h fun _ => h⟩
  case lockPauseEnd =>
    exact ⟨_, rfl, listSafe_iteSelf h fun _ => listSafe_of_alk (listSafe_lckRetry (dir := 0) h) (by simp)⟩
  case unlockDriveExpiry => exact ⟨_, rfl, event (listSafe_lckUnlockExpiry h)⟩
  case clearanceEnd => exact ⟨_, rfl, event (listSafe_lckClearanceEnd h)⟩
  case unlockPauseEnd => exact ⟨_, rfl, event (listSafe_lckUnlockPause h)⟩
  case conversionCompletion => exact ⟨_, rfl, event (listSafe_tmsComplete h)⟩
  case channelFailure | channelRecovery | sensorDisagree | disagreeConditionGone | latchHot =>
    exact ⟨_, rfl, listSafe_onlyWhen h (event (listSafe_tmsComplete h))⟩
  case blindCoolTick => exact ⟨_, rfl, event (listSafe_prtSecond h)⟩
  case zeroCross => exact ⟨_, rfl, event (listSafe_drvZeroCross h)⟩
  case windowComplete => exact ⟨_, rfl, listSafe_iteSelf h fun _ => event (listSafe_drvZeroCross h)⟩
  case elementOvercurrent | driveStuck | elementLow =>
    exact ⟨_, rfl, listSafe_onlyWhen h (event (listSafe_drvZeroCross h))⟩
  case mainsSuspend => exact ⟨_, rfl, listSafe_iteSelf h fun _ => listSafe_of_alk h (by simp)⟩
  case mainsAbsent => exact ⟨_, rfl, listSafe_iteSelf h fun _ => event (listSafe_drvMainsAbsent h)⟩
  case attemptBegin => exact ⟨_, rfl, listSafe_bliAttempt h⟩
  case attemptLost => exact ⟨_, rfl, listSafe_iteSelf h fun _ => h⟩
  case attemptComplete => exact ⟨_, rfl, event (listSafe_bliComplete h)⟩
  case periodExpiry => exact ⟨_, rfl, listSafe_iteSelf h fun _ => listSafe_of_alk h (by simp)⟩
  case departureTimeout => exact ⟨_, rfl, listSafe_bliDepartExpiry h⟩
  case frameReceived => exact ⟨_, rfl, event (listSafe_bliReceive h)⟩
  case unreliable => exact ⟨_, rfl, listSafe_onlyWhen h (event (listSafe_bliReceive h))⟩
  case lineHeld => exact ⟨_, rfl, event (listSafe_bliHeldExpiry h)⟩
  case lineIdle => exact ⟨_, rfl, event (listSafe_bliIdle h)⟩
  case silent => exact ⟨_, rfl, event (listSafe_bliSilent h)⟩
  case peerLapsed => exact ⟨_, rfl, event (listSafe_ptbLapse h)⟩
  case listenExpiry => exact ⟨_, rfl, event (listSafe_shrListenExpiry h)⟩
  case claimSettle => exact ⟨_, rfl, event (listSafe_shrClaimExpiry h)⟩
  case slotSettle => exact ⟨_, rfl, event (listSafe_shrSlotExpiry h)⟩
  case slotBackoffExpiry => exact ⟨_, rfl, event (listSafe_shrBackOffExpiry h)⟩

/-! ## A millisecond and a step -/

theorem listSafe_takeDue {i : Instr} {s : State} (h : s.listSafe) : (takeDue s i).listSafe := by
  obtain ⟨t, hexec, ht⟩ := exec_listSafe i h
  simpa only [takeDue, hexec] using listSafe_iteSelf h fun _ => ht

/-- The rows of a millisecond, in whatever order the draws give them (log 3). -/
theorem listSafe_foldl_takeDue (rows : List Instr) {s : State} (h : s.listSafe) : (rows.foldl takeDue s).listSafe := by
  induction rows generalizing s with
  | nil => exact h
  | cons i rows ih =>
    rw [List.foldl_cons]
    exact ih (listSafe_takeDue h)

theorem listSafe_draws {n : Nat} {s : State} (h : s.listSafe) : ({ s with draws := n } : State).listSafe := h

/-- Of ALK the millisecond itself moves the part of a second alone. -/
theorem listSafe_tick {s : State} (h : s.listSafe) : (tick s).listSafe := by
  have hmoved : (advanceMs s).listSafe := h
  unfold tick
  simp only
  generalize advanceMs s = m at hmoved ⊢
  exact listSafe_foldl_takeDue _ (listSafe_draws hmoved)

/-- Settles O4: the list is touched by records, EVENT_READ and the resets alone, the items in force change with the commit
alone, and each of these sets the lines anew where it must. -/
theorem listLawKept : Obligations.ListLawKept := by
  intro s t h hstep
  unfold step at hstep
  split at hstep
  · exact Host.Outcome.next.inj hstep ▸ listSafe_tick h
  · next i rest _ =>
    obtain ⟨u, hexec, hu⟩ := exec_listSafe i (s := s.setPending rest) h
    exact Host.Outcome.next.inj (hexec.symm.trans hstep) ▸ hu

end Sys2Proof.Machine
end

section
/-! CERTIFICATE. The appliance link: the refusals while a reset waits (R172), CONFIG_PUT (R173), the reset itself (R176),
EVENT_READ (R178). -/

namespace Sys2Proof.Machine

/-! ## While an accepted STATION_RESET waits (R172) -/

/-- A command that comes while a reset waits is refused, and moves nothing but the port's transaction. -/
theorem linkCommand_refuses {s : State} (hwaits : s.alk.resetPending ≠ none) (params n : Nat) (f : State → State) :
    s.sameButLink (linkCommand params n f s) ∧
      (linkCommand params n f s).alk.link.answer = 0x02 :: List.replicate n 0 := by
  rw [linkCommand_waiting params n f s hwaits]
  exact ⟨sameButLink_answer _ _ _ _, rfl⟩

/-- The refusal is nothing that CYC examines (R13). -/
theorem linkEvent_refuses {s : State} (hwaits : s.alk.resetPending ≠ none) (params n : Nat) (f : State → State) :
    s.sameButLink (takeEvent (linkCommand params n f) s) ∧
      (takeEvent (linkCommand params n f) s).alk.link.answer = 0x02 :: List.replicate n 0 := by
  obtain ⟨hend, hsame⟩ := takeEvent_answer (linkCommand_waiting params n f s hwaits)
  rw [hend]
  exact ⟨hsame, rfl⟩

/-- Settles O19: each command that acts runs through `linkCommand`, which refuses it before its effect. -/
theorem waitingResetRefuses : Obligations.WaitingResetRefuses := by
  intro c s hacts hwaits
  cases c
  case configPut item value => exact ⟨_, rfl, linkCommand_refuses hwaits 3 0 (configPut item value)⟩
  case configCommit => exact ⟨_, rfl, linkEvent_refuses hwaits 0 1 configCommit⟩
  case profileSeek index mode => exact ⟨_, rfl, linkCommand_refuses hwaits 2 0 (profileSeek index mode)⟩
  case profilePut word => exact ⟨_, rfl, linkCommand_refuses hwaits 2 0 (profilePut word)⟩
  case start => exact ⟨_, rfl, linkEvent_refuses hwaits 0 1 startCycle⟩
  case abort => exact ⟨_, rfl, linkEvent_refuses hwaits 0 0 abortCycle⟩
  case clear => exact ⟨_, rfl, linkEvent_refuses hwaits 0 0 clearFaults⟩
  case peerForget station => exact ⟨_, rfl, linkEvent_refuses hwaits 1 0 (peerForget station)⟩
  case stationReset => exact ⟨_, rfl, linkCommand_refuses hwaits 0 0 stationReset⟩
  all_goals cases hacts

/-! ## The reset that waited (R176, R180) -/

/-- A reset is due once CSN has risen and the departure is settled, and its cause says whether the departure was sent. -/
theorem resetDue_eq {s : State} {r : ResetPending} (hwaits : s.alk.resetPending = some r) :
    s.resetDue = if r.csnRisen = true ∧ r.departure ≠ .waiting then
      some (if r.departure = .sent then .departureSent else .departureNotSent) else none := by
  obtain ⟨risen, departure⟩ := r
  cases risen
  case false => simp [State.resetDue, hwaits]
  case true => cases departure <;> simp [State.resetDue, hwaits]

/-- Settles O16: a due reset writes every block as `resetAll` does, and one that is not due changes nothing. -/
theorem stationResetCarriedOut : Obligations.StationResetCarriedOut := by
  intro s r hwaits
  refine ⟨stationResetDone s, rfl, ?_⟩
  rw [stationResetDone, resetDue_eq hwaits]
  by_cases hdue : r.csnRisen = true ∧ r.departure ≠ .waiting
  · simp only [if_pos hdue]
    refine ⟨?cause, rfl, rfl, rfl, rfl, rfl, rfl, rfl, rfl, rfl, rfl, rfl, rfl, rfl, fun hlow => ?csn,
      fun k => Link.sdo_of_cut _ k rfl⟩
    case cause => split_ifs <;> rfl
    case csn => simp [resetAll, Alk.reset, State.csnAtReset, hlow]
  · simp only [if_neg hdue]

/-! ## CONFIG_PUT (R173) -/

theorem Item.number_injective {i j : Item} (h : i.number = j.number) : i = j := by
  have hall : ∀ item : Item, Item.ofNumber? item.number = some item := by
    intro item
    cases item <;> rfl
  exact Option.some.inj ((hall i).symm.trans ((congrArg (fun n : Fin 34 => Item.ofNumber? n) h).trans (hall j)))

theorem storeItem_stored_same (i : Item) (v : Nat) (s : State) : (storeItem i v s).stored i = v := by
  simp [storeItem, State.stored]

theorem storeItem_stored_other {i j : Item} (h : j ≠ i) (v : Nat) (s : State) :
    (storeItem i v s).stored j = s.stored j := by
  have hnumber : (i.number : Nat) ≠ j.number := fun heq => h (Item.number_injective (Fin.ext heq.symm))
  simp [storeItem, State.stored, Vector.getElem_set_ne, hnumber]

/-- An item's range runs upwards, so that a value outside it has a nearer end. -/
theorem Item.range_le (i : Item) : i.range.1 ≤ i.range.2 := by
  cases i <;> decide

/-- The value of Tu, Tmax and Tb is signed (log 41). -/
theorem Item.valueOf_eq (i : Item) (v : Half) :
    i.valueOf v = if i = .tu ∨ i = .tmax ∨ i = .tb then v.toInt else v.toNat := by
  cases i <;> rfl

section
variable {item : Byte} {i : Item} {s : State}

theorem configPut_unknown (hi : Item.ofNumber? item.toNat = none) (v : Half) :
    configPut item v s = linkAnswer .badParameter [] s := by
  simp only [configPut, hi]

theorem configPut_frozen (hi : Item.ofNumber? item.toNat = some i) (hc : s.alk.committed = true) (v : Half) :
    configPut item v s = linkAnswer .configFrozen [] s := by
  simp only [configPut, hi, if_pos hc]

theorem configPut_stores (hi : Item.ofNumber? item.toNat = some i) (hc : ¬ s.alk.committed = true) (v : Half) :
    configPut item v s =
      linkAnswer (if i.clamp (i.valueOf v) = i.valueOf v then .ok else .clamped) []
        (storeItem i (i.clamp (i.valueOf v)) s) := by
  simp only [configPut, hi, if_neg hc]

end

theorem Item.clamp_below {i : Item} {n : Int} (h : n < i.range.1) : i.clamp n = i.range.1 := by
  simp [Item.clamp, clampInt, h]

theorem Item.clamp_above {i : Item} {n : Int} (h : i.range.2 < n) : i.clamp n = i.range.2 := by
  have hlow : ¬ n < i.range.1 := by
    have := i.range_le
    omega
  simp [Item.clamp, clampInt, h, hlow]

theorem Item.clamp_within {i : Item} {n : Int} (hlow : ¬ n < i.range.1) (hhigh : ¬ i.range.2 < n) : (i.clamp n : Int) = n := by
  simp only [Item.clamp, clampInt, if_neg hlow, if_neg hhigh]
  omega

/-- The value or the nearer end of the range is stored, and the answer says which. -/
theorem storeItem_answers (i : Item) (n : Int) (s : State) :
    let t := linkAnswer (if i.clamp n = n then .ok else .clamped) [] (storeItem i (i.clamp n) s)
    if n < i.range.1 then t.alk.link.answer = [0x01] ∧ t.stored i = i.range.1
    else if i.range.2 < n then t.alk.link.answer = [0x01] ∧ t.stored i = i.range.2
    else t.alk.link.answer = [0x00] ∧ t.stored i = n := by
  have hstored (c : ResultCode) : (linkAnswer c [] (storeItem i (i.clamp n) s)).stored i = i.clamp n :=
    storeItem_stored_same i (i.clamp n) s
  dsimp only
  rw [hstored, linkAnswer_answer]
  by_cases hlow : n < i.range.1
  · rw [if_pos hlow, Item.clamp_below hlow, if_neg (by omega)]
    exact ⟨rfl, rfl⟩
  by_cases hhigh : i.range.2 < n
  · rw [if_neg hlow, if_pos hhigh, Item.clamp_above hhigh, if_neg (by omega)]
    exact ⟨rfl, rfl⟩
  · rw [if_neg hlow, if_neg hhigh, if_pos (Item.clamp_within hlow hhigh)]
    exact ⟨rfl, Item.clamp_within hlow hhigh⟩

/-- Settles O20: the refusals answer alone; the accepted value goes through the clamp of its item's range. -/
theorem configPutStores : Obligations.ConfigPutStores := by
  intro s item v hready
  have hrun (t : State) (h : configPut item v (linkOpen 3 s) = t) : exec (.configPut item v) s = .next t :=
    next_congr ((linkCommand_ready 3 0 (configPut item v) s hready).trans h)
  have hcommitted : (linkOpen 3 s).alk.committed = s.alk.committed := by simp
  cases hi : Item.ofNumber? item.toNat with
  | none =>
    refine ⟨_, hrun _ (configPut_unknown hi v), ?_, rfl, by simp⟩
    rw [linkOpen_ready 3 hready]
    rfl
  | some i =>
    by_cases hc : s.alk.committed = true
    · refine ⟨_, hrun _ (configPut_frozen hi (by rwa [hcommitted]) v), ?_, ?_⟩
      · rw [linkOpen_ready 3 hready]
        rfl
      · simp only [if_pos hc]
        exact ⟨rfl, by simp⟩
    · refine ⟨_, hrun _ (configPut_stores hi (by rwa [hcommitted]) v), ?_, ?_⟩
      · rw [linkOpen_ready 3 hready]
        rfl
      · simp only [if_neg hc]
        refine ⟨fun j hj => ?_, ?_⟩
        · exact (storeItem_stored_other hj _ (linkOpen 3 s)).trans (by simp [State.stored])
        · rw [← Item.valueOf_eq]
          exact storeItem_answers i (i.valueOf v) (linkOpen 3 s)

/-! ## EVENT_READ (R178) -/

theorem alkRemove_lost (rest : List EventRec) (s : State) :
    (alkRemove rest s).alk.lost = (s.alk.lost && rest != []) := by
  cases rest <;> simp [alkRemove]

/-- Settles O31: an empty list is answered alone; else the oldest record goes, and the lines are set by what is left. -/
theorem eventReadRemoves : Obligations.EventReadRemoves := by
  intro s
  refine ⟨eventRead (linkOpen 0 s), rfl, ?_⟩
  have hevents : (linkOpen 0 s).alk.events = s.alk.events := by simp
  have hlost : (linkOpen 0 s).alk.lost = s.alk.lost := by simp
  cases hlist : s.alk.events with
  | nil =>
    simp only [eventRead, hevents, hlist]
    exact ⟨rfl, sameButLink_answer _ _ _ _⟩
  | cons e rest =>
    simp only [eventRead, hevents, hlist]
    have hleft : (alkRemove rest (linkOpen 0 s)).alk.lost = (s.alk.lost && rest != []) := by rw [alkRemove_lost, hlost]
    refine ⟨rfl, hleft, rfl, rfl, ?_, ?_⟩
    · rw [linkAnswer_answer, hleft]
      rfl
    · rw [← hlist, linkOpen_eq]
      rfl

end Sys2Proof.Machine
end

section
/-! CERTIFICATE. The bytes of a transaction: which command they spell, and what SDO carries before, at and after its result
(R170, R171, R176). -/

namespace Sys2Proof.Machine

/-! ## What the bytes spell (section 12.3) -/

/-- How many parameter bytes stand before a link command's result; absent for a row that no bytes spell. -/
def linkParams (c : Instr) : Option Nat :=
  match c with
  | .readStatus | .readTemps | .readShare | .readCycle | .readFaults | .configCommit | .profileGet | .start | .abort
  | .clear | .eventRead | .stationReset | .badCommand _ => some 0
  | .readPeer _ | .configGet _ | .peerForget _ => some 1
  | .profileSeek _ _ | .profilePut _ => some 2
  | .configPut _ _ => some 3
  | _ => none

theorem linkParams_commandOfCode (code : Byte) : linkParams (commandOfCode code) = some 0 := by
  unfold commandOfCode
  split <;> rfl

/-- The codes with parameters are six; every other code, known or not, has none. -/
theorem paramCount_getD (n : Nat) :
    (paramCount n).getD 0 = if n = 0x04 ∨ n = 0x11 ∨ n = 0x41 then 1 else if n = 0x20 ∨ n = 0x21 then 2
      else if n = 0x10 then 3 else 0 := by
  unfold paramCount
  split <;> simp_all

/-- A command that has taken effect carries as many parameter bytes as its code calls for (R170). -/
theorem linkParams_commandOf {code : Byte} {params : List Byte} {c : Instr} (h : commandOf (code :: params) = some c) :
    linkParams c = some ((paramCount code.toNat).getD 0) := by
  rw [paramCount_getD]
  simp only [commandOf] at h
  split at h
  case h_1 hcode | h_2 hcode | h_3 hcode | h_4 hcode | h_5 hcode | h_6 hcode =>
    rw [hcode, ← Option.some.inj h]
    rfl
  case h_7 | h_8 | h_9 | h_10 | h_11 | h_12 => cases h
  case h_13 params _ _ h32 h33 h16 cons4 cons17 cons65 _ _ _ nil4 nil17 nil65 =>
    have absent {n : Nat} (hcons : ∀ i tail, code.toNat = n → params = i :: tail → False)
        (hnil : code.toNat = n → params = [] → False) : code.toNat ≠ n := by
      intro hcode
      cases params with
      | nil => exact hnil hcode rfl
      | cons i tail => exact hcons i tail hcode rfl
    rw [← Option.some.inj h, linkParams_commandOfCode, if_neg, if_neg, if_neg h16]
    · exact not_or.mpr ⟨h32, h33⟩
    · exact not_or.mpr ⟨absent cons4 nil4, not_or.mpr ⟨absent cons17 nil17, absent cons65 nil65⟩⟩

/-! ## What SDO carries (R170, R171) -/

/-- The port after a command of `params` parameter bytes that has been answered. -/
def Link.answeredAt (params : Nat) (l : Link) : Prop :=
  l.csnLow = true ∧ l.lead = params + 2 ∧ l.sdoCut = false ∧ l.answer ≠ []

theorem Link.sdo_of_answeredAt {params : Nat} {l : Link} (h : l.answeredAt params) (k : Nat) :
    l.sdo k = some (if k < params + 2 then 0 else l.answer.getD (k - (params + 2)) 0) := by
  obtain ⟨hlow, hlead, hcut, -⟩ := h
  simp [Link.sdo, hlow, hlead, hcut]

/-- A command's effect ends in an answer, and the port is otherwise as its transaction's opening left it (R171). -/
def Answers (f : State → State) : Prop :=
  ∀ s, ∃ c bytes t, f s = linkAnswer c bytes t ∧ t.alk.link = s.alk.link

theorem Answers.read {f : State → State} (hf : Answers f) (params : Nat) (s : State) :
    (linkRead params f s).alk.link.answeredAt params := by
  obtain ⟨c, bytes, t, hrun, hlink⟩ := hf (linkOpen params s)
  simp [linkRead, Link.answeredAt, hrun, linkAnswer, hlink]

/-- A command is answered while a reset waits too, with the refusal (R172; log 23). -/
theorem Answers.command {f : State → State} (hf : Answers f) (params n : Nat) (s : State) :
    (linkCommand params n f s).alk.link.answeredAt params := by
  unfold linkCommand
  split_ifs
  · simp [Link.answeredAt, linkAnswer]
  · exact hf.read params s

theorem Answers.event {f : State → State} (hf : Answers f) (params n : Nat) (s : State) :
    (takeEvent (linkCommand params n f) s).alk.link.answeredAt params := by
  have hlink : (takeEvent (linkCommand params n f) s).alk.link = (linkCommand params n f s).alk.link := by simp
  rw [hlink]
  exact hf.command params n s

theorem answers_linkAnswer (c : ResultCode) (bytes : List Byte) : Answers (linkAnswer c bytes) :=
  fun s => ⟨c, bytes, s, rfl, rfl⟩

theorem answers_configPut (item : Byte) (v : Half) : Answers (configPut item v) := by
  intro s
  unfold configPut
  split
  · exact ⟨_, _, _, rfl, rfl⟩
  · split_ifs
    · exact ⟨_, _, _, rfl, rfl⟩
    · exact ⟨_, _, _, rfl, rfl⟩

theorem answers_configCommit : Answers configCommit := by
  intro s
  unfold configCommit
  split_ifs
  · exact ⟨_, _, _, rfl, rfl⟩
  · split
    · exact ⟨_, _, _, rfl, rfl⟩
    · exact ⟨_, _, _, rfl, by simp⟩

theorem answers_profileSeek (index mode : Byte) : Answers (profileSeek index mode) := by
  intro s
  unfold profileSeek
  split
  · exact ⟨_, _, _, rfl, rfl⟩
  · split_ifs
    · exact ⟨_, _, _, rfl, by simp⟩
    · exact ⟨_, _, _, rfl, rfl⟩

theorem answers_profilePut (w : Half) : Answers (profilePut w) := by
  intro s
  unfold profilePut
  split
  · exact ⟨_, _, _, rfl, rfl⟩
  · split
    · exact ⟨_, _, _, rfl, rfl⟩
    · split
      · exact ⟨_, _, _, rfl, rfl⟩
      · exact ⟨_, _, _, rfl, by simp⟩

theorem answers_profileGet : Answers profileGet := by
  intro s
  unfold profileGet
  split_ifs
  · exact ⟨_, _, _, rfl, rfl⟩
  · exact ⟨_, _, _, rfl, rfl⟩
  · exact ⟨_, _, _, rfl, by simp⟩

theorem answers_startCycle : Answers startCycle := by
  intro s
  unfold startCycle
  split
  · exact ⟨_, _, _, rfl, rfl⟩
  · exact ⟨_, _, _, rfl, by simp⟩

theorem answers_abortCycle : Answers abortCycle := by
  intro s
  cases hp : s.cyc.phase <;> simp only [abortCycle, hp]
  case locking => exact ⟨_, _, _, rfl, by simp⟩
  case heating => exact ⟨_, _, _, rfl, by simp⟩
  case idle | cooling | tripped | unlocking | held => exact ⟨_, _, _, rfl, rfl⟩

theorem prtRemove_link (classes : List FaultClass) (s : State) : (prtRemove classes s).alk.link = s.alk.link := by
  obtain ⟨a, heq, -, -, hlink⟩ := prtRemove_eq classes s
  rw [heq]
  simpa using hlink

theorem answers_clearFaults : Answers clearFaults := by
  intro s
  unfold clearFaults clearTripped clearOther
  split_ifs
  · exact ⟨_, _, _, rfl, rfl⟩
  · exact ⟨_, _, _, rfl, rfl⟩
  · exact ⟨_, _, _, rfl, by simp [prtRemove_link]⟩
  · exact ⟨_, _, _, rfl, prtRemove_link _ s⟩

theorem answers_eventRead : Answers eventRead := by
  intro s
  unfold eventRead
  split
  · exact ⟨_, _, _, rfl, rfl⟩
  · exact ⟨_, _, _, rfl, rfl⟩

theorem answers_peerForget (station : Byte) : Answers (peerForget station) := by
  intro s
  unfold peerForget
  dsimp only
  split_ifs
  · exact ⟨_, _, _, rfl, rfl⟩
  · split
    · exact ⟨_, _, _, rfl, rfl⟩
    · split
      · exact ⟨_, _, _, rfl, rfl⟩
      · exact ⟨_, _, _, rfl, by simp⟩

theorem answers_stationReset : Answers stationReset := by
  intro s
  unfold stationReset
  split_ifs
  · exact ⟨_, _, _, rfl, by simp⟩
  · exact ⟨_, _, _, rfl, rfl⟩

/-- Every command that bytes spell opens a transaction with its own parameters and is answered in it. -/
theorem exec_answered {c : Instr} {params : Nat} (hc : linkParams c = some params) (s : State) :
    ∃ t, exec c s = .next t ∧ t.alk.link.answeredAt params := by
  have reads (n : Nat) (code : ResultCode) (bytes : List Byte) : (linkRead n (linkAnswer code bytes) s).alk.link.answeredAt n :=
    (answers_linkAnswer code bytes).read n s
  cases c
  case readStatus | readTemps | readShare | readCycle | readFaults | badCommand => cases hc; exact ⟨_, rfl, reads 0 _ _⟩
  case readPeer | configGet => cases hc; exact ⟨_, rfl, reads 1 _ _⟩
  case configPut => cases hc; exact ⟨_, rfl, (answers_configPut _ _).command 3 0 s⟩
  case configCommit => cases hc; exact ⟨_, rfl, answers_configCommit.event 0 1 s⟩
  case profileSeek => cases hc; exact ⟨_, rfl, (answers_profileSeek _ _).command 2 0 s⟩
  case profilePut => cases hc; exact ⟨_, rfl, (answers_profilePut _).command 2 0 s⟩
  case profileGet => cases hc; exact ⟨_, rfl, answers_profileGet.read 0 s⟩
  case start => cases hc; exact ⟨_, rfl, answers_startCycle.event 0 1 s⟩
  case abort => cases hc; exact ⟨_, rfl, answers_abortCycle.event 0 0 s⟩
  case clear => cases hc; exact ⟨_, rfl, answers_clearFaults.event 0 0 s⟩
  case eventRead => cases hc; exact ⟨_, rfl, answers_eventRead.read 0 s⟩
  case peerForget => cases hc; exact ⟨_, rfl, (answers_peerForget _).event 1 0 s⟩
  case stationReset => cases hc; exact ⟨_, rfl, answers_stationReset.command 0 0 s⟩
  all_goals cases hc

/-! ## An unknown code, and the rise of CSN (R170, R171, R176) -/

/-- With CSN high no byte is driven (R170). -/
theorem Link.sdo_of_high {l : Link} (h : l.csnLow = false) (k : Nat) : l.sdo k = none := by
  simp [Link.sdo, h]

/-- Settles O33: a spelled command opens its transaction with as many parameters as its code calls for and is answered in it. -/
theorem unknownCodesAndCsn : Obligations.UnknownCodesAndCsn := by
  intro s
  refine ⟨fun code params c hspelled => ?_, fun code => ?_, fun received => ?_⟩
  · obtain ⟨t, hrun, hanswered⟩ := exec_answered (linkParams_commandOf hspelled) s
    have ⟨hlow, _, _, hne⟩ := hanswered
    exact ⟨t, hrun, hlow, hne, Link.sdo_of_answeredAt hanswered⟩
  · exact ⟨_, rfl, sameButLink_answer .badCommand [] 0 s, rfl⟩
  · exact ⟨linkRise s, rfl, rfl, rfl, rfl, Link.sdo_of_high rfl, rfl⟩

end Sys2Proof.Machine
end

section
/-! SUPPORT. What waits in the queue is no row's to change (log 36): the queue under the operations that the rows of the table
call. -/

namespace Sys2Proof.Machine

/-! ## The forms that rows share -/

theorem iteSelf_pending {c : Prop} [Decidable c] {s t : State} (h : t.pending = s.pending) :
    (if c then t else s).pending = s.pending := by
  split_ifs
  · exact h
  · rfl

theorem onlyWhen_pending {p : State → State → Bool} {f : State → State} {s : State} (h : (f s).pending = s.pending) :
    (onlyWhen p f s).pending = s.pending := iteSelf_pending h

theorem takeEvent_pending {f : State → State} {s : State} (h : (f s).pending = s.pending) :
    (takeEvent f s).pending = s.pending := by
  obtain ⟨-, -, -, -, -, -, -, -, hpending, -⟩ := takeEvent_frame f s
  exact hpending.trans h

theorem answered_pending (params : Nat) (code : ResultCode) (bytes : List Byte) (s : State) :
    (linkAnswer code bytes (linkOpen params s)).pending = s.pending := by
  simp

theorem linkRead_pending {params : Nat} {f : State → State} (hf : ∀ t, (f t).pending = t.pending) (s : State) :
    (linkRead params f s).pending = s.pending := by
  unfold linkRead
  exact (hf _).trans (by simp)

theorem linkCommand_pending {params n : Nat} {f : State → State} (hf : ∀ t, (f t).pending = t.pending) (s : State) :
    (linkCommand params n f s).pending = s.pending := by
  unfold linkCommand
  split_ifs
  · exact answered_pending _ _ _ s
  · exact (hf _).trans (by simp)

/-! ## The link commands (R4 to R8, R16, R17, R132, R172 to R178) -/

@[simp] theorem configPut_pending (item : Byte) (value : Half) (s : State) : (configPut item value s).pending = s.pending := by
  unfold configPut
  split
  · simp
  · split_ifs <;> simp [storeItem]

@[simp] theorem configCommit_pending (s : State) : (configCommit s).pending = s.pending := by
  unfold configCommit
  split_ifs
  · simp
  · split <;> simp

@[simp] theorem profileSeek_pending (index mode : Byte) (s : State) : (profileSeek index mode s).pending = s.pending := by
  unfold profileSeek
  split
  · simp
  · split_ifs <;> simp

@[simp] theorem profilePut_pending (word : Half) (s : State) : (profilePut word s).pending = s.pending := by
  unfold profilePut
  split_ifs <;> simp

@[simp] theorem profileGet_pending (s : State) : (profileGet s).pending = s.pending := by
  unfold profileGet
  split_ifs <;> simp

@[simp] theorem startCycle_pending (s : State) : (startCycle s).pending = s.pending := by
  unfold startCycle
  split <;> simp

@[simp] theorem abortCycle_pending (s : State) : (abortCycle s).pending = s.pending := by
  unfold abortCycle
  split <;> simp

/-- A removal records its events and lets DRV look at MAIN: neither touches the queue (R166, R167). -/
@[simp] theorem prtRemove_pending (classes : List FaultClass) (s : State) : (prtRemove classes s).pending = s.pending := by
  obtain ⟨a, heq, -⟩ := prtRemove_eq classes s
  simp [heq]

@[simp] theorem clearFaults_pending (s : State) : (clearFaults s).pending = s.pending := by
  unfold clearFaults clearTripped clearOther
  split_ifs <;> simp

@[simp] theorem eventRead_pending (s : State) : (eventRead s).pending = s.pending := by
  unfold eventRead
  split <;> simp [alkRemove]

@[simp] theorem peerForget_pending (station : Byte) (s : State) : (peerForget station s).pending = s.pending := by
  unfold peerForget
  dsimp only
  split_ifs
  · simp
  · split
    · simp
    · split <;> simp

@[simp] theorem stationReset_pending (s : State) : (stationReset s).pending = s.pending := by
  unfold stationReset
  split_ifs <;> simp

@[simp] theorem stationResetDone_pending (s : State) : (stationResetDone s).pending = s.pending := by
  unfold stationResetDone
  split <;> simp

/-! ## The seconds, the ramp engine and the regulator (R14, R30 to R42, R75 to R88) -/

@[simp] theorem cycSecond_pending (s : State) : (cycSecond s).pending = s.pending := by
  obtain ⟨hsame, -⟩ := cycSecond_frame s
  simpa using congrArg State.pending hsame

@[simp] theorem rampTime_pending (s : State) : (rampTime s).pending = s.pending := by
  unfold rampTime
  split_ifs <;> rfl

@[simp] theorem rampAdvance_pending (s : State) : (rampAdvance s).pending = s.pending := by
  unfold rampAdvance rampMove
  split_ifs <;> simp

@[simp] theorem rampJudge_pending (s : State) : (rampJudge s).pending = s.pending := by
  unfold rampJudge rampNext rampLate
  split_ifs <;> simp

@[simp] theorem holdJudge_pending (s : State) : (holdJudge s).pending = s.pending := by
  unfold holdJudge holdRestart
  split_ifs <;> simp

@[simp] theorem slotWaitStep_pending (s : State) : (slotWaitStep s).pending = s.pending := by
  unfold slotWaitStep
  dsimp only
  split_ifs <;> simp

@[simp] theorem rampStep_pending (s : State) : (rampStep s).pending = s.pending := by
  cases hr : s.ramp.state <;> simp [rampStep, hr, rampRearm, holdAdvance, holdCount]

@[simp] theorem regEvaluate_pending (s : State) : (regEvaluate s).pending = s.pending := by
  simp [regEvaluate, regSet]

@[simp] theorem regMeasure_pending (s : State) : (regMeasure s).pending = s.pending := by
  unfold regMeasure
  split
  · rfl
  · rfl
  · dsimp only
    split_ifs <;> rfl

@[simp] theorem regCoolExpiry_pending (s : State) : (regCoolExpiry s).pending = s.pending := by
  simp [regCoolExpiry]

/-! ## The lock (R43, R49 to R55) -/

@[simp] theorem lckEdge_pending (sw : SwitchId) (level : Bool) (s : State) : (lckEdge sw level s).pending = s.pending := by
  unfold lckEdge
  split_ifs <;> rfl

@[simp] theorem lckDriveExpiry_pending (s : State) : (lckDriveExpiry s).pending = s.pending :=
  iteSelf_pending (by simp)

@[simp] theorem lckSeatEnd_pending (s : State) : (lckSeatEnd s).pending = s.pending := by
  unfold lckSeatEnd lckLocked
  split_ifs <;> simp

@[simp] theorem lckUnlockExpiry_pending (s : State) : (lckUnlockExpiry s).pending = s.pending := by
  unfold lckUnlockExpiry
  split <;> simp

@[simp] theorem lckClearanceEnd_pending (s : State) : (lckClearanceEnd s).pending = s.pending := by
  unfold lckClearanceEnd
  split <;> simp

@[simp] theorem lckUnlockPause_pending (s : State) : (lckUnlockPause s).pending = s.pending := by
  unfold lckUnlockPause lckRetry
  split_ifs <;> simp

/-! ## PRT, DRV, BLI, PTB and SHR (R103, R105 to R121, R131, R139, R146, R151, R152, R164) -/

@[simp] theorem prtSecond_pending (s : State) : (prtSecond s).pending = s.pending := by
  unfold prtSecond
  dsimp only
  split_ifs <;> simp

@[simp] theorem drvMainsAbsent_pending (s : State) : (drvMainsAbsent s).pending = s.pending := by
  unfold drvMainsAbsent
  dsimp only
  split_ifs <;> simp

@[simp] theorem bliAttempt_pending (s : State) : (bliAttempt s).pending = s.pending := by
  unfold bliAttempt
  split
  · exact iteSelf_pending (by simp)
  · rfl

@[simp] theorem bliComplete_pending (s : State) : (bliComplete s).pending = s.pending := by
  unfold bliComplete
  split <;> simp

@[simp] theorem bliPeriodExpiry_pending (s : State) : (bliPeriodExpiry s).pending = s.pending :=
  iteSelf_pending (by simp)

@[simp] theorem bliDepartExpiry_pending (s : State) : (bliDepartExpiry s).pending = s.pending := by
  unfold bliDepartExpiry bliCutOff
  split_ifs <;> simp

@[simp] theorem bliHeldExpiry_pending (own : Bool) (s : State) : (bliHeldExpiry own s).pending = s.pending := by
  unfold bliHeldExpiry
  split_ifs <;> simp

@[simp] theorem bliSilent_pending (s : State) : (bliSilent s).pending = s.pending :=
  iteSelf_pending (by simp)

@[simp] theorem ptbLapse_pending (station : Nat) (s : State) : (ptbLapse station s).pending = s.pending := by
  unfold ptbLapse
  split
  · rfl
  · split <;> simp

@[simp] theorem shrListenExpiry_pending (s : State) : (shrListenExpiry s).pending = s.pending := by
  unfold shrListenExpiry shrEnterSharing shrResume
  split_ifs <;> simp

@[simp] theorem shrClaimExpiry_pending (s : State) : (shrClaimExpiry s).pending = s.pending :=
  iteSelf_pending (by simp [shrSettle])

@[simp] theorem shrSlotExpiry_pending (s : State) : (shrSlotExpiry s).pending = s.pending := by
  unfold shrSlotExpiry
  split_ifs <;> simp

@[simp] theorem shrBackOffExpiry_pending (s : State) : (shrBackOffExpiry s).pending = s.pending :=
  iteSelf_pending (by simp)

end Sys2Proof.Machine
end

section
/-! CERTIFICATE. The machine's queue and its completion, a millisecond in which nothing is due, and the remainder of the bank
frame's check (R181). -/

namespace Sys2Proof.Machine

/-! ## Every row of the table (logs 35 and 36) -/

/-- Settles O2: each row of the table answers a next state, and its operations keep the queue. -/
theorem everyCommandCompletes : Obligations.EveryCommandCompletes := by
  intro c s
  cases c
  case powerOnReset | resetn => exact ⟨_, rfl, by simp⟩
  case readStatus | readTemps | readShare | readPeer | readCycle | readFaults | configGet | badCommand =>
    exact ⟨_, rfl, answered_pending _ _ _ s⟩
  case configPut => exact ⟨_, rfl, linkCommand_pending (configPut_pending _ _) s⟩
  case configCommit => exact ⟨_, rfl, takeEvent_pending (linkCommand_pending configCommit_pending s)⟩
  case profileSeek => exact ⟨_, rfl, linkCommand_pending (profileSeek_pending _ _) s⟩
  case profilePut => exact ⟨_, rfl, linkCommand_pending (profilePut_pending _) s⟩
  case profileGet => exact ⟨_, rfl, linkRead_pending profileGet_pending s⟩
  case start => exact ⟨_, rfl, takeEvent_pending (linkCommand_pending startCycle_pending s)⟩
  case abort => exact ⟨_, rfl, takeEvent_pending (linkCommand_pending abortCycle_pending s)⟩
  case clear => exact ⟨_, rfl, takeEvent_pending (linkCommand_pending clearFaults_pending s)⟩
  case eventRead => exact ⟨_, rfl, linkRead_pending eventRead_pending s⟩
  case peerForget => exact ⟨_, rfl, takeEvent_pending (linkCommand_pending (peerForget_pending _) s)⟩
  case stationReset => exact ⟨_, rfl, linkCommand_pending stationReset_pending s⟩
  case stationResetDone => exact ⟨_, rfl, stationResetDone_pending s⟩
  case csnRise | secondsTick | glitch => exact ⟨_, rfl, rfl⟩
  case cycleSecond => exact ⟨_, rfl, cycSecond_pending s⟩
  case coolSlow => exact ⟨_, rfl, onlyWhen_pending (cycSecond_pending s)⟩
  case rampStep => exact ⟨_, rfl, takeEvent_pending (rampStep_pending s)⟩
  case holdComplete | segmentRestart | heatTimeout | slotTimeout =>
    exact ⟨_, rfl, iteSelf_pending (takeEvent_pending (rampStep_pending s))⟩
  case heatingEvaluation => exact ⟨_, rfl, iteSelf_pending (takeEvent_pending (regEvaluate_pending s))⟩
  case coolingRuleExpiry => exact ⟨_, rfl, iteSelf_pending (regCoolExpiry_pending s)⟩
  case switchEdge => exact ⟨_, rfl, lckEdge_pending _ _ s⟩
  case switchDebounced => exact ⟨_, rfl, takeEvent_pending (by simp)⟩
  case lockDriveExpiry => exact ⟨_, rfl, takeEvent_pending (lckDriveExpiry_pending s)⟩
  case seatEnd => exact ⟨_, rfl, takeEvent_pending (lckSeatEnd_pending s)⟩
  case lockBackDriveEnd | unlockBackDriveEnd => exact ⟨_, rfl, iteSelf_pending rfl⟩
  case lockPauseEnd => exact ⟨_, rfl, iteSelf_pending (by simp [lckRetry])⟩
  case unlockDriveExpiry => exact ⟨_, rfl, takeEvent_pending (lckUnlockExpiry_pending s)⟩
  case clearanceEnd => exact ⟨_, rfl, takeEvent_pending (lckClearanceEnd_pending s)⟩
  case unlockPauseEnd => exact ⟨_, rfl, takeEvent_pending (lckUnlockPause_pending s)⟩
  case conversionCompletion => exact ⟨_, rfl, takeEvent_pending (by simp)⟩
  case channelFailure | channelRecovery | sensorDisagree | disagreeConditionGone | latchHot =>
    exact ⟨_, rfl, onlyWhen_pending (takeEvent_pending (by simp))⟩
  case blindCoolTick => exact ⟨_, rfl, takeEvent_pending (prtSecond_pending s)⟩
  case zeroCross => exact ⟨_, rfl, takeEvent_pending (by simp)⟩
  case windowComplete => exact ⟨_, rfl, iteSelf_pending (takeEvent_pending (by simp))⟩
  case elementOvercurrent | driveStuck | elementLow => exact ⟨_, rfl, onlyWhen_pending (takeEvent_pending (by simp))⟩
  case mainsSuspend | attemptLost => exact ⟨_, rfl, iteSelf_pending (by simp)⟩
  case mainsAbsent => exact ⟨_, rfl, iteSelf_pending (takeEvent_pending (drvMainsAbsent_pending s))⟩
  case attemptBegin => exact ⟨_, rfl, bliAttempt_pending s⟩
  case attemptComplete => exact ⟨_, rfl, takeEvent_pending (bliComplete_pending s)⟩
  case periodExpiry => exact ⟨_, rfl, bliPeriodExpiry_pending s⟩
  case departureTimeout => exact ⟨_, rfl, bliDepartExpiry_pending s⟩
  case frameReceived => exact ⟨_, rfl, takeEvent_pending (by simp)⟩
  case unreliable => exact ⟨_, rfl, onlyWhen_pending (takeEvent_pending (by simp))⟩
  case lineHeld => exact ⟨_, rfl, takeEvent_pending (bliHeldExpiry_pending _ s)⟩
  case lineIdle => exact ⟨_, rfl, takeEvent_pending (by simp)⟩
  case silent => exact ⟨_, rfl, takeEvent_pending (bliSilent_pending s)⟩
  case peerLapsed => exact ⟨_, rfl, takeEvent_pending (ptbLapse_pending _ s)⟩
  case listenExpiry => exact ⟨_, rfl, takeEvent_pending (shrListenExpiry_pending s)⟩
  case claimSettle => exact ⟨_, rfl, takeEvent_pending (shrClaimExpiry_pending s)⟩
  case slotSettle => exact ⟨_, rfl, takeEvent_pending (shrSlotExpiry_pending s)⟩
  case slotBackoffExpiry => exact ⟨_, rfl, takeEvent_pending (shrBackOffExpiry_pending s)⟩

/-! ## The front of the queue, and a millisecond in which nothing is due (logs 2 and 43) -/

theorem step_of_idle {s : State} (h : s.pending = []) : step s = .next (tick s) := by
  simp [step, h]

/-- With no row due there is no order to draw and no row to take. -/
theorem tick_of_dueRows_nil {s : State} (h : (advanceMs s).dueRows = []) : tick s = advanceMs s := by
  simp only [tick, h]
  rfl

/-- Settles O1: the front of the queue is what `step` hands to `exec`, and an idle millisecond takes the rows due alone. -/
theorem stepTakesTheFront : Obligations.StepTakesTheFront := by
  refine ⟨fun c rest s => rfl, fun s hidle hdue => ?_⟩
  rw [step_of_idle hidle, tick_of_dueRows_nil hdue]

/-! ## The check's remainder (R181) -/

/-- A bit equal to the register's most significant one gives no feedback: the register is only shifted. -/
theorem crcStep_msb (reg : BitVec 8) : crcStep reg reg.msb = reg <<< 1 := by
  simp [crcStep]

/-- The register run over its own first `n` bits: each meets itself at the top, so the register is shifted `n` places. -/
theorem foldl_crcStep_ownBits (reg : BitVec 8) (n : Nat) :
    ((List.range n).map fun i => reg.getMsbD i).foldl crcStep reg = reg <<< n := by
  induction n with
  | zero => simp
  | succ n ih =>
    have hmsb : reg.getMsbD n = (reg <<< n).msb := (BitVec.msb_shiftLeft ..).symm
    rw [List.range_succ, List.map_append, List.foldl_append, ih, List.map_singleton, List.foldl_cons, List.foldl_nil, hmsb,
      crcStep_msb, ← BitVec.shiftLeft_add]

/-- Settles O13: after the body the register is the check, and its own eight bits shift it out. -/
theorem checkRemainderZero : Obligations.CheckRemainderZero := by
  intro f
  have hcheck : (sentBits f.body).foldl crcStep 0xFF#8 = f.check := rfl
  have hshift : (sentBits f.check).foldl crcStep f.check = f.check <<< 8 := foldl_crcStep_ownBits f.check 8
  rw [List.foldl_append, hcheck, hshift]
  exact BitVec.shiftLeft_eq_zero le_rfl

end Sys2Proof.Machine
end
